-- ==== Sys2Proof/Word.lean ====
section
/-! DEFINITION. The unit both links carry: one byte (R160, R30). -/
namespace Sys2Proof

/-- One byte of a frame on the host link or the module bus (R160). -/
abbrev Byte := BitVec 8

end Sys2Proof
end

