-- ==== Sys2Proof/Syntax.lean ====
section
/-! DEFINITION. The commands the part takes: one constructor of `Instr` for each row of the table of operations and events. -/
namespace Sys2Proof

/-- A tray, T0 to T23. -/
abbrev TrayId := Fin 24
/-- A rectifier slot, RS1 to RS6, counted from 0. -/
abbrev RectId := Fin 6
/-- A battery slot, B1 to B6, counted from 0. -/
abbrev BbuId := Fin 6
/-- A module slot as MODULE-SERVICE numbers it: 0..5 for RS1..RS6, 6..11 for B1..B6. -/
abbrev SlotId := Fin 12
/-- A leak channel, L0 to L11. -/
abbrev ChannelId := Fin 12
/-- A coolant loop 0..3, with its valve V0..V3. -/
abbrev LoopId := Fin 4

/-- The nine fields of a tray configuration as a SET-TRAY-CONFIG payload carries them, unclamped (R1, R19). -/
structure RawTrayConfig where
  alloc : Nat
  surge : Nat
  pgTimeout : Nat
  settle : Nat
  stopTime : Nat
  rank : Nat
  shedClass : Nat
  pinned : Nat
  retries : Nat
deriving DecidableEq, Repr

/-- The fields of a SET-LEAK-CHANNEL payload as carried: `count` is the number of trays it announces and
`trays` the tray bytes that follow (R137). -/
structure RawChannelConfig where
  channel : Nat
  enabled : Nat
  loop : Nat
  isolate : Nat
  closeValve : Nat
  nC : Nat
  nF : Nat
  count : Nat
  trays : List Nat
deriving DecidableEq, Repr

/-- The two comparators of a leak cable's front end: continuity C and leak W (R130). -/
structure CableReading where
  continuity : Bool
  leak : Bool
deriving DecidableEq, Repr

/-- A byte error on a line (R161). -/
inductive ByteError
  | parity
  | framing
  | overrun
deriving DecidableEq, Repr

/-- A byte error on the host link's receive line, and whether that line has been at mark since the last link break
(R161, R162; assumption log 17). Where no break stands the second says nothing. -/
structure LineError where
  kind : ByteError
  backAtMark : Bool
deriving DecidableEq, Repr

/-- What the receiver of the module bus hears: a byte, a byte with an error, a gap above 5 ms (R35, R161). -/
inductive BusEvent
  | byte (b : Byte)
  | byteError (why : ByteError)
  | gap
deriving DecidableEq, Repr

/-- What comes in on the module bus: a frame taken whole, from start marker to last check byte; a frame the framer
dropped for a failed header check, a byte error or an over-long gap (R35); or what the receiver hears, event by event,
for the bus framer to take. `check` is the payload check as received; a frame with no payload has none, and `check` is
then not looked at. -/
inductive BusFrame
  | dropped
  | complete (station kind tag : Byte) (payload : List Byte) (check : BitVec 16)
  | heard (events : List BusEvent)
deriving DecidableEq, Repr

/-- A valve's two end switches (R139). -/
inductive EndSwitch
  | opened
  | closed
deriving DecidableEq, Repr

/-- How a profile save ended: the read-back compared with the image, or a write failure (R177). -/
inductive SaveOutcome
  | equal
  | different
  | writeFailure
deriving DecidableEq, Repr

/-- The RATE strap (Message and Record Layouts). -/
inductive Rate
  | slow115200
  | fast921600
deriving DecidableEq, Repr

/-- The levels of the input pins and straps (Message and Record Layouts, Pins); `true` is asserted, made or high. -/
structure Pins where
  pg : Vector Bool 24
  prsnt : Vector Bool 24
  modulePresent : Vector Bool 12
  ifail : Bool
  openSwitch : Vector Bool 4
  closedSwitch : Vector Bool 4
  addr : Fin 4
  rate : Rate
  keep : Bool
deriving DecidableEq, Repr

/-- The commands, one constructor for each row of spec/opcode_table.json, in the table's order. The first
operand of a host request is its tag (R160); the others are its payload fields as carried, so an index or
a setting may be out of range and is then refused or clamped by the owning rule. -/
inductive Instr
  /-- IDENTIFY (R168). -/
  | identify (tag : Byte)
  /-- GET-LINK-STATUS with its clear flag (R167). -/
  | getLinkStatus (tag : Byte) (clear : Nat)
  /-- ARM with a target code and a channel number (R165). -/
  | arm (tag : Byte) (target channel : Nat)
  /-- RESTART (R180). -/
  | restart (tag : Byte)
  /-- GET-SHELF-STATUS (R172). -/
  | getShelfStatus (tag : Byte)
  /-- TAKE-NOTICES with a count (R171). -/
  | takeNotices (tag : Byte) (count : Nat)
  /-- SAVE-PROFILE (R177). -/
  | saveProfile (tag : Byte)
  /-- LOAD-PROFILE (R178). -/
  | loadProfile (tag : Byte)
  /-- GET-SHELF-PARAM with an identifier (R183). -/
  | getShelfParam (tag : Byte) (ident : Nat)
  /-- SET-SHELF-PARAM with an identifier and a value (R183). -/
  | setShelfParam (tag : Byte) (ident value : Nat)
  /-- GET-TRAYS with a first tray and a count (R173). -/
  | getTrays (tag : Byte) (first count : Nat)
  /-- GET-TRAY-CONFIG (R20). -/
  | getTrayConfig (tag : Byte) (tray : Nat)
  /-- SET-TRAY-CONFIG (R19). -/
  | setTrayConfig (tag : Byte) (tray : Nat) (cfg : RawTrayConfig)
  /-- TRAY-CONTROL on (R22). -/
  | trayControlOn (tag : Byte) (tray : Nat)
  /-- TRAY-CONTROL off (R23). -/
  | trayControlOff (tag : Byte) (tray : Nat)
  /-- TRAY-CONTROL hold (R24). -/
  | trayControlHold (tag : Byte) (tray : Nat)
  /-- TRAY-CONTROL unhold (R24). -/
  | trayControlUnhold (tag : Byte) (tray : Nat)
  /-- TRAY-CONTROL pin (R25). -/
  | trayControlPin (tag : Byte) (tray : Nat)
  /-- TRAY-CONTROL unpin (R25). -/
  | trayControlUnpin (tag : Byte) (tray : Nat)
  /-- TRAY-CONTROL owner AUTO (R26). -/
  | trayControlOwnerAuto (tag : Byte) (tray : Nat)
  /-- TRAY-CONTROL owner MANUAL (R26). -/
  | trayControlOwnerManual (tag : Byte) (tray : Nat)
  /-- CLEAR-FAULT (R27). -/
  | clearFault (tag : Byte) (tray : Nat)
  /-- GET-ROSTER (R174). -/
  | getRoster (tag : Byte)
  /-- MODULE-SERVICE with a slot number and a service value (R48). -/
  | moduleService (tag : Byte) (slot service : Nat)
  /-- GET-BATTERIES (R174). -/
  | getBatteries (tag : Byte)
  /-- GET-BBU-CONFIG (R71). -/
  | getBbuConfig (tag : Byte) (bbu : Nat)
  /-- SET-BBU-CONFIG with E_rated, max charge power and the E_full field (R70). -/
  | setBbuConfig (tag : Byte) (bbu eRated maxCharge eFull : Nat)
  /-- RUN-UP with the bytes of its scope (R118, R182). -/
  | runUp (tag : Byte) (scope : List Byte)
  /-- RUN-DOWN with the bytes of its scope (R119, R182). -/
  | runDown (tag : Byte) (scope : List Byte)
  /-- RUN-SUSPEND (R120). -/
  | runSuspend (tag : Byte)
  /-- RUN-RESUME (R121). -/
  | runResume (tag : Byte)
  /-- RUN-CANCEL (R122). -/
  | runCancel (tag : Byte)
  /-- GET-RUN-STATUS (R125). -/
  | getRunStatus (tag : Byte)
  /-- GET-INPUT-STATUS with its clear flag (R105). -/
  | getInputStatus (tag : Byte) (clear : Nat)
  /-- GET-LEAK (R175). -/
  | getLeak (tag : Byte)
  /-- GET-LEAK-CHANNEL (R138). -/
  | getLeakChannel (tag : Byte) (channel : Nat)
  /-- SET-LEAK-CHANNEL (R137). -/
  | setLeakChannel (tag : Byte) (cfg : RawChannelConfig)
  /-- LEAK-RELEASE (R136). -/
  | leakRelease (tag : Byte) (channel : Nat)
  /-- VALVE-OPEN (R142). -/
  | valveOpen (tag : Byte) (loop : Nat)
  /-- VALVE-CLOSE (R141). -/
  | valveClose (tag : Byte) (loop : Nat)
  /-- GET-TEST (R175). -/
  | getTest (tag : Byte)
  /-- TEST-START (R149). -/
  | testStart (tag : Byte) (bbu : Nat)
  /-- TEST-SUSPEND (R154). -/
  | testSuspend (tag : Byte)
  /-- TEST-RESUME (R155). -/
  | testResume (tag : Byte)
  /-- TEST-ABORT (R157). -/
  | testAbort (tag : Byte)
  /-- A complete frame for this station, its header check good, with the payload check as received (R163). -/
  | hostFrameReceived (kind tag : Byte) (payload : List Byte) (check : BitVec 16)
  /-- A byte error on the host link (R161). -/
  | hostByteError (why : LineError)
  /-- A gap above 5 ms on the host link (R161). -/
  | frameGapTimeout
  /-- The host link's receive line has been at the space level for 10 ms (R162). -/
  | linkBreak
  /-- The last byte of the reply being sent has gone (R163). -/
  | replySent
  /-- The host-silence timer expires (R166). -/
  | hostSilenceExpiry
  /-- A tray's PG input rises (R8, R13). -/
  | pgRise (tray : TrayId)
  /-- A tray's PG input falls (R8, R9, R13). -/
  | pgFall (tray : TrayId)
  /-- A tray's PRSNT input is released (R14). -/
  | presenceLoss (tray : TrayId)
  /-- A tray's PRSNT input is asserted (R14). -/
  | presenceAsserted (tray : TrayId)
  /-- A tray's INRUSH wait expires (R8). -/
  | inrushWaitExpiry (tray : TrayId)
  /-- A tray's settle timer expires (R8). -/
  | settleExpiry (tray : TrayId)
  /-- A tray's stop timer expires (R12). -/
  | stopTimerExpiry (tray : TrayId)
  /-- A tray's discharge wait expires (R11). -/
  | dischargeWaitExpiry (tray : TrayId)
  /-- A bus cycle starts (R33). -/
  | busCycleStart
  /-- A complete frame ends the poll in flight (R35, R36). -/
  | moduleReplyReceived (frame : BusFrame)
  /-- The reply window of the poll in flight runs out (R35). -/
  | replyWindowExpiry
  /-- A module presence input is released (R32). -/
  | modulePresenceReleased (slot : SlotId)
  /-- A module presence input is asserted (R32). -/
  | modulePresenceAsserted (slot : SlotId)
  /-- IFAIL is asserted (R94, R102). -/
  | ifailAssert
  /-- IFAIL is released (R95, R100). -/
  | ifailRelease
  /-- The qualify timer expires (R96). -/
  | qualifyExpiry
  /-- The restore timer expires (R103). -/
  | restoreExpiry
  /-- The start spacing timer expires (R112). -/
  | startSpacingExpiry
  /-- The stop spacing timer expires (R117). -/
  | stopSpacingExpiry
  /-- The automatic power-up run of the cold start sequence (R181). -/
  | autoStartRun
  /-- A leak scan pass, with what the twelve front ends read (R129, R130). -/
  | scanPass (readings : Vector CableReading 12)
  /-- A valve end switch becomes made or broken (R143). -/
  | valveSwitchEdge (loop : LoopId) (switch : EndSwitch) (made : Bool)
  /-- A valve's travel timer expires (R143). -/
  | valveTravelExpiry (loop : LoopId)
  /-- The prepare timer expires (R150). -/
  | prepareTimeout
  /-- A profile save ends (R177). -/
  | saveComplete (outcome : SaveOutcome)
  /-- Power-on, with the pins as they then read (R179). -/
  | powerOn (pins : Pins)
  /-- The RESET pin is asserted, with the KEEP strap as it then reads (R179). -/
  | resetPinAssert (keep : Bool)
  /-- The RESET pin is released (R179). -/
  | resetPinRelease
  /-- The warm reset of a RESTART, after the last byte of its ACK (R180). -/
  | warmCommandReset
  /-- A byte is received on the host link (R161). -/
  | hostByteReceived (byte : Byte)
deriving DecidableEq, Repr

end Sys2Proof
end

