-- ==== Sys2Proof/Decode.lean ====
section
/-! DEFINITION. The command a word spells by the bits of the table of operations and events. No row of the table gives
bits (every row's "fields" is empty), so no word spells a command; the frames of the host link are decoded in
Sys2Proof/Machine/Operands.lean, where the framer and the kinds of R160 to R164 are. -/
namespace Sys2Proof

/-- The command that a word of `nbits` bits spells: none, because no row of the table gives bits. -/
def decodeTableWord (_nbits _w : Nat) : Option Instr := none

end Sys2Proof
end

