-- ==== Sys2Proof/Config.lean ====
section
/-! DEFINITION. What the part fixes once and for all (identity codes, frame constants, sizes), and the one free value. -/
namespace Sys2Proof.Config

/-- The start marker of every frame (R160). -/
def marker : Byte := 0xC3
/-- IDENTIFY's vendor code (Message and Record Layouts, Codes). -/
def vendorCode : Nat := 0x0E51
/-- IDENTIFY's part code (Message and Record Layouts, Codes). -/
def partCode : Nat := 0x0224
/-- IDENTIFY's revision number (Message and Record Layouts, Codes). -/
def revision : Nat := 1
/-- The longest payload a frame can carry (R160). -/
def maxPayload : Nat := 248
/-- The reply window of a poll, in milliseconds (R35). -/
def replyWindow : Nat := 3
/-- The longest gap between two arrivals that still integrates, in milliseconds (R60). -/
def maxGap : Nat := 500
/-- The notice queue holds at most this many records (R170). -/
def noticeRoom : Nat := 32
/-- The request queue holds at most this many requests (R163). -/
def requestRoom : Nat := 2
/-- The largest T_est and T_proj (R67, R68). -/
def timeCeiling : Nat := 65535

/-- FREE VALUE: a reply byte the spec gives a place and no content (the scope fields of GET-RUN-STATUS
that the present scope kind does not use). It is applied to a counter of State, so that each such byte
may differ from every other. Nothing in the model says what it is (assumption log 1). -/
opaque freeByte : Nat → Byte

end Sys2Proof.Config
end

