-- ==== Sys2Proof/Machine/Types.lean ====
section
/-! DEFINITION. The records and enumerations of the twelve blocks, as plain data. -/
namespace Sys2Proof.Machine

/-- The tray state (R2). -/
inductive TrayState
  | off
  | queued
  | inrush
  | on
  | stopping
  | failed
deriving DecidableEq, Repr

/-- Why a tray is FAILED (R2). -/
inductive FailureCause
  | noPg
  | pgLost
  | stuckOn
deriving DecidableEq, Repr

/-- Who drives the tray (R2). -/
inductive Owner
  | auto
  | manual
deriving DecidableEq, Repr

/-- The lockout set, a subset of LEAK, SHED and HOLD (R2, R5). -/
structure Lockouts where
  leak : Bool
  shed : Bool
  hold : Bool
deriving DecidableEq, Repr

/-- The nine fields of a tray configuration (R1). -/
structure TrayConfig where
  alloc : Nat
  surge : Nat
  pgTimeout : Nat
  settle : Nat
  stopTime : Nat
  rank : Nat
  shedClass : Nat
  pinned : Bool
  retries : Nat
deriving DecidableEq, Repr

/-- A tray's timers, of which at most one runs (R2). While the settle timer runs the INRUSH wait is paused with
the milliseconds it has left. -/
inductive TrayTimer
  | idle
  | inrushWait (left : Nat)
  | settle (left paused : Nat)
  | stop (left : Nat)
  | discharge (left : Nat)
deriving DecidableEq, Repr

/-- A tray record (R1, R2). -/
structure Tray where
  cfg : TrayConfig
  staged : Option TrayConfig
  state : TrayState
  locks : Lockouts
  owner : Owner
  retriesUsed : Nat
  cause : Option FailureCause
  present : Bool
  timer : TrayTimer
deriving DecidableEq, Repr

/-- The MBC's record of a module slot (R31). -/
structure ModuleSlot where
  present : Bool
  missCount : Nat
  announced : Bool
deriving DecidableEq, Repr

/-- The poll in flight: its slot, its tag, its payload as built, the service setting then in force, and the
milliseconds its reply window has left (R35, R43, R53). -/
structure Poll where
  slot : SlotId
  tag : Byte
  payload : List Byte
  inService : Bool
  window : Nat
deriving DecidableEq, Repr

/-- The receive framer of the module bus: it hunts, or holds the header bytes after the marker, or the bytes of a body.
It skips no frame by its station (R35). -/
inductive BusFramer
  | hunt
  | header (bytes : List Byte)
  | body (station kind tag : Byte) (length : Nat) (bytes : List Byte)
deriving DecidableEq, Repr

/-- The Module Bus Controller (R30 to R39). `schedule` holds the slots of the present cycle still to be polled;
`driver` is the bus driver enable. -/
structure ModuleBus where
  slots : Vector ModuleSlot 12
  schedule : List SlotId
  poll : Option Poll
  driver : Bool
  framer : BusFramer
  tag : Byte
  stagedPeriod : Option Nat
  nextCycle : Nat
  rosterReady : Bool
deriving DecidableEq, Repr

/-- A rectifier slot's state (R41). -/
inductive RectState
  | empty
  | silent
  | starting
  | sourcing
  | inputLost
  | standby
  | faulted
deriving DecidableEq, Repr

/-- A rectifier's fault code (R41, R42). -/
inductive RectFault
  | none
  | overtemp
  | fan
  | outputOv
  | internal
deriving DecidableEq, Repr

/-- What a rectifier last reported, converted (R41, R42). -/
structure RectTelemetry where
  output : Nat
  rated : Nat
  tempClass : Nat
  inputPresent : Bool
  outputOn : Bool
  fault : RectFault
deriving DecidableEq, Repr

/-- A rectifier slot record (R41). -/
structure RectSlot where
  state : RectState
  inService : Bool
  telemetry : Option RectTelemetry
deriving DecidableEq, Repr

/-- The redundancy policy (R46). -/
inductive Policy
  | n
  | nPlus1
deriving DecidableEq, Repr

/-- The redundancy status (R47). -/
inductive Redundancy
  | none
  | notRequired
  | full
  | degraded
deriving DecidableEq, Repr

/-- A battery slot's state (R52). -/
inductive BbuState
  | empty
  | silent
  | faulted
  | standby
  | discharging
  | full
  | charging
deriving DecidableEq, Repr

/-- A battery unit's fault code (R52, R54). -/
inductive BbuFault
  | none
  | cell
  | overtemp
  | charger
  | internal
deriving DecidableEq, Repr

/-- What a battery unit last reported, converted (R52, R54); positive power means discharging. -/
structure BbuTelemetry where
  power : Int
  soc : Nat
  fullFlag : Bool
  cutoff : Bool
  cellTemp : Int
  fault : BbuFault
deriving DecidableEq, Repr

/-- A BBU record (R52); `stored` is in millijoules. `awaitsCharging` says that the unit has been put in service again and
has not been CHARGING at an arrival since, so that its grant stays 0 (R49). -/
structure Bbu where
  state : BbuState
  eRated : Nat
  maxCharge : Nat
  eFull : Nat
  stored : Nat
  seeded : Bool
  firstSeedDone : Bool
  lastArrival : Option Nat
  telemetry : Option BbuTelemetry
  inService : Bool
  grant : Nat
  permit : Bool
  testPower : Nat
  awaitsCharging : Bool
deriving DecidableEq, Repr

/-- The Budget Account's own fields (R74); K_t and K_live are views over the trays, the settings are parameters. -/
structure Budget where
  c : Nat
  floorEff : Nat
  deficitActive : Bool
  deficitUnresolved : Bool
deriving DecidableEq, Repr

/-- The shelf power state (R92). -/
inductive ShelfState
  | normal
  | sagQualify
  | rideThrough
  | restoreHold
  | exhausted
deriving DecidableEq, Repr

/-- The input loss record (R92). -/
structure InputLoss where
  state : ShelfState
  stage : Nat
  ifail : Bool
  qualify : Option Nat
  restore : Option Nat
  sagStart : Option Nat
  sagCount : Nat
  lastSag : Nat
  longestSag : Nat
  lastR : Nat
  lastTEst : Nat
deriving DecidableEq, Repr

/-- A run's direction (R108). -/
inductive Direction
  | up
  | down
deriving DecidableEq, Repr

/-- A run's state (R108). -/
inductive RunState
  | idle
  | running
  | suspended
  | held
deriving DecidableEq, Repr

/-- A run's scope (R108). -/
inductive Scope
  | all
  | ranks (lowest highest : Nat)
  | trays (set : List TrayId)
deriving DecidableEq, Repr

/-- Why the head of an UP run did not start (R108, R111). -/
inductive Blocked
  | budget
  | slots
  | spacing
  | rankGate
  | readiness
deriving DecidableEq, Repr

/-- What the start rule finds for a tray: it starts, a condition named by the blocked reason fails, or the shelf
is not NORMAL (R79, R111). -/
inductive StartVerdict
  | start
  | blocked (why : Blocked)
  | notNormal
deriving DecidableEq, Repr

/-- The run record and the two spacing timers (R108). -/
structure RunRecord where
  direction : Direction
  state : RunState
  scope : Scope
  startQueue : List TrayId
  stopQueue : List TrayId
  members : List TrayId
  stoppedCount : Nat
  blocked : Option Blocked
  startSpacing : Option Nat
  stopSpacing : Option Nat
deriving DecidableEq, Repr

/-- A leak channel's configuration (R128). -/
structure ChannelConfig where
  enabled : Bool
  loop : LoopId
  trays : List TrayId
  isolate : Bool
  closeValve : Bool
  nC : Nat
  nF : Nat
deriving DecidableEq, Repr

/-- A leak channel's state (R128). -/
inductive ChannelState
  | disabled
  | dry
  | suspect
  | alarm
  | cableFault
deriving DecidableEq, Repr

/-- A leak channel record (R128). -/
structure Channel where
  cfg : ChannelConfig
  state : ChannelState
  wetRun : Nat
  faultRun : Nat
  dryStreak : Nat
  samples : Nat
  transients : Nat
  cableFlag : Bool
deriving DecidableEq, Repr

/-- The class of a sample (R130). -/
inductive SampleClass
  | dry
  | wet
  | opened
  | crossed
deriving DecidableEq, Repr

/-- A valve's state (R139). -/
inductive ValveState
  | opened
  | closing
  | closed
  | opening
  | stuck
deriving DecidableEq, Repr

/-- A loop record (R139); `drive` asserted closes the valve, a switch `true` is made. -/
structure Loop where
  valve : ValveState
  drive : Bool
  openSwitch : Bool
  closedSwitch : Bool
  travel : Option Nat
  escalated : Bool
deriving DecidableEq, Repr

/-- Where a battery test stands (R147). -/
inductive TestPhase
  | idle
  | prepare
  | discharge
  | recharge
  | done
deriving DecidableEq, Repr

/-- Why a test was aborted (R156). -/
inductive AbortReason
  | host
  | inputLost
  | bbuLost
  | prepareTimeout
  | reset
deriving DecidableEq, Repr

/-- A test's outcome (R147). -/
inductive TestOutcome
  | completed
  | aborted (why : AbortReason)
deriving DecidableEq, Repr

/-- The prepare timer (R147). -/
inductive PrepareTimer
  | stopped
  | running (left : Nat)
  | paused (left : Nat)
deriving DecidableEq, Repr

/-- The battery test record (R147); `eMeas` is in millijoules. -/
structure TestRecord where
  phase : TestPhase
  target : Option BbuId
  suspended : Bool
  testPower : Nat
  prepare : PrepareTimer
  eMeas : Nat
  outcome : Option TestOutcome
  health : Option Nat
deriving DecidableEq, Repr

/-- The receive framer (R161): HEADER and BODY hold the bytes stored so far, SKIP the bytes still to count off. -/
inductive Framer
  | hunt
  | header (bytes : List Byte)
  | skip (left : Nat)
  | body (kind tag : Byte) (length : Nat) (bytes : List Byte)
deriving DecidableEq, Repr

/-- The arm target (R165). -/
inductive ArmTarget
  | restart
  | leakRelease (channel : Nat)
deriving DecidableEq, Repr

/-- What a request asks, with its payload fields as carried; the last three are the requests that the generic
refusals of R164 turn away. -/
inductive RequestBody
  | identify
  | getLinkStatus (clear : Nat)
  | arm (target channel : Nat)
  | restart
  | getShelfStatus
  | takeNotices (count : Nat)
  | saveProfile
  | loadProfile
  | getShelfParam (ident : Nat)
  | setShelfParam (ident value : Nat)
  | getTrays (first count : Nat)
  | getTrayConfig (tray : Nat)
  | setTrayConfig (tray : Nat) (cfg : RawTrayConfig)
  | trayControl (tray action : Nat)
  | clearFault (tray : Nat)
  | getRoster
  | moduleService (slot service : Nat)
  | getBatteries
  | getBbuConfig (bbu : Nat)
  | setBbuConfig (bbu eRated maxCharge eFull : Nat)
  | runUp (scope : List Byte)
  | runDown (scope : List Byte)
  | runSuspend
  | runResume
  | runCancel
  | getRunStatus
  | getInputStatus (clear : Nat)
  | getLeak
  | getLeakChannel (channel : Nat)
  | setLeakChannel (cfg : RawChannelConfig)
  | leakRelease (channel : Nat)
  | valveOpen (loop : Nat)
  | valveClose (loop : Nat)
  | getTest
  | testStart (bbu : Nat)
  | testSuspend
  | testResume
  | testAbort
  | badCheck
  | unknownKind
  | badLength
deriving DecidableEq, Repr

/-- A request in the request queue (R163). -/
structure Request where
  kind : Byte
  tag : Byte
  body : RequestBody
deriving DecidableEq, Repr

/-- The refusal codes (R164). -/
inductive RefusalCode
  | unknownKind
  | badLength
  | badIndex
  | checkError
  | busy
  | wrongState
  | notArmed
  | pinned
  | lockedOut
  | noBudget
  | held
  | slotsFull
  | leakActive
  | noReserve
deriving DecidableEq, Repr

/-- What the owning block answers (R164). -/
inductive Answer
  | ack (clamped staged : Bool)
  | data (payload : List Byte)
  | refused (code : RefusalCode)
deriving DecidableEq, Repr

/-- The reply being sent: its kind byte, the echoed tag and its payload (R160, R164). -/
structure Reply where
  kind : Byte
  tag : Byte
  payload : List Byte
deriving DecidableEq, Repr

/-- The Host Link Interface (R161 to R167). The first request of `queue` is the one being answered. -/
structure HostLink where
  station : Nat
  rate : Rate
  framer : Framer
  inBreak : Bool
  queue : List Request
  reply : Option Reply
  arm : Option ArmTarget
  headerErrors : Nat
  payloadErrors : Nat
  byteErrors : Nat
  timeouts : Nat
  overruns : Nat
  silence : Option Nat
deriving DecidableEq, Repr

/-- The notice kinds, in code order from 1 (R170, Message and Record Layouts). -/
inductive NoticeKind
  | trayOn
  | trayFailed
  | trayRemoved
  | trayUnexpectedPg
  | shedTray
  | runDone
  | capacityDeficit
  | deficitUnresolved
  | moduleSilent
  | moduleBack
  | moduleFault
  | bbuReseed
  | bbuWeak
  | testDone
  | sagRidden
  | inputLost
  | shedStage
  | reserveExhausted
  | inputRestored
  | leakAlarm
  | leakCableFault
  | loopEscalated
  | leakReleased
  | valveClosed
  | valveStuck
  | hostSilent
  | profileSaved
  | profileSaveFailed
  | profileInvalid
  | reset
deriving DecidableEq, Repr

/-- A notice record (R170). -/
structure Notice where
  kind : NoticeKind
  subject : Option Nat
  value : Option Nat
  time : Nat
deriving DecidableEq, Repr

/-- The Notice Queue, oldest record first (R170). -/
structure NoticeQueue where
  records : List Notice
  lost : Nat
deriving DecidableEq, Repr

/-- The shelf parameters in force, in the order of their identifiers 0 to 22 (R183). `period` and `scanInterval`
are the active values; their staged values stand with their blocks. -/
structure Params where
  period : Nat
  policy : Policy
  margin : Nat
  chargeFloor : Nat
  readyMin : Nat
  efficiency : Nat
  floorFraction : Nat
  qualifyTime : Nat
  restoreHold : Nat
  tau1 : Nat
  tau2 : Nat
  tau3 : Nat
  slots : Nat
  startSpacing : Nat
  stopSpacing : Nat
  autoRecover : Bool
  autoStart : Bool
  scanInterval : Nat
  valveTravel : Nat
  testPower : Nat
  prepareLimit : Nat
  weakThreshold : Nat
  hostSilence : Nat
deriving DecidableEq, Repr

/-- The configuration of a battery slot (R52, R176). -/
structure BbuConfig where
  eRated : Nat
  maxCharge : Nat
  eFull : Nat
deriving DecidableEq, Repr

/-- The working configuration (R176). -/
structure WorkingConfig where
  trays : Vector TrayConfig 24
  bbus : Vector BbuConfig 6
  channels : Vector ChannelConfig 12
  params : Params
deriving DecidableEq, Repr

/-- A stored image that can be read: its format number, its contents, and its CRC-16 as stored (R176). -/
structure StoredImage where
  format : Byte
  config : WorkingConfig
  check : BitVec 16
deriving DecidableEq, Repr

/-- FREE VALUE: the format number this part uses, which the spec does not give (R176, assumption log 18). -/
opaque imageFormat : Byte

/-- FREE VALUE: the bytes of an image without its check, from its format number and its contents; the spec does not give
their layout (R176, assumption log 18). -/
opaque imageBytes : Byte → WorkingConfig → List Byte

/-- The kinds of reset (R179). -/
inductive ResetKind
  | cold
  | warmPin
  | warmCommand
deriving DecidableEq, Repr

/-- How far a RESTART has come: none asked for, its ACK being sent, its ACK sent and the reset due (R180). -/
inductive RestartPhase
  | none
  | ackSending
  | due
deriving DecidableEq, Repr

/-- The Profile Store and the reset record (R176, R177, R179, R181). `image` is absent when no image can be
read; `saving` holds the image built for the save in flight. -/
structure ProfileStore where
  image : Option StoredImage
  valid : Bool
  saving : Option StoredImage
  autoPending : Bool
  restart : RestartPhase
  lastReset : ResetKind
  warmCount : Nat
deriving DecidableEq, Repr

end Sys2Proof.Machine
end

