-- ==== Sys2Proof/Machine/Operands.lean ====
section
/-! DEFINITION. Fields and frames: multi-byte fields, the two checks, ranges, and how a payload is read as a request. -/
namespace Sys2Proof.Machine

/-- The value brought to the nearest end of its range (R164). -/
def clamp (lo hi n : Nat) : Nat := min hi (max lo n)

/-- The value lies in its range. -/
def inRange (lo hi n : Nat) : Bool := decide (lo ≤ n) && decide (n ≤ hi)

/-- Counts up by one and stays at `top` (the saturating counters of R92, R128, R167, R170, R179). -/
def countUp (top n : Nat) : Nat := min top (n + 1)

/-- A yes/no byte: yes when nonzero (R182). -/
def yes (n : Nat) : Bool := n != 0

/-- A one-byte field. -/
def le8 (n : Nat) : List Byte := [BitVec.ofNat 8 n]
/-- A two-byte field, low byte first (Message and Record Layouts). -/
def le16 (n : Nat) : List Byte := [BitVec.ofNat 8 n, BitVec.ofNat 8 (n / 256)]
/-- A four-byte field, low byte first (Message and Record Layouts). -/
def le32 (n : Nat) : List Byte :=
  [BitVec.ofNat 8 n, BitVec.ofNat 8 (n / 256), BitVec.ofNat 8 (n / 65536), BitVec.ofNat 8 (n / 16777216)]
/-- A one-byte yes/no field. -/
def leBool (b : Bool) : List Byte := le8 b.toNat
/-- A signed one-byte field, two's complement. -/
def leInt8 (z : Int) : List Byte := le8 (z % 256).toNat
/-- A signed two-byte field, two's complement. -/
def leInt16 (z : Int) : List Byte := le16 (z % 65536).toNat

/-- Two bytes, the low one first, read as an unsigned number. -/
def u16 (b0 b1 : Byte) : Nat := b0.toNat + 256 * b1.toNat
/-- Four bytes, the lowest first, read as an unsigned number. -/
def u32 (b0 b1 b2 b3 : Byte) : Nat := u16 b0 b1 + 65536 * u16 b2 b3
/-- One byte read as a signed number. -/
def s8 (b : Byte) : Int := if b.toNat < 128 then b.toNat else (b.toNat : Int) - 256
/-- Two bytes, the low one first, read as a signed number. -/
def s16 (b0 b1 : Byte) : Int := if u16 b0 b1 < 32768 then u16 b0 b1 else (u16 b0 b1 : Int) - 65536

/-- One shift of the header check's register, polynomial x^8+x^2+x+1 (R160). -/
def crc8Shift (r : Byte) : Byte := if r.msb then (r <<< 1) ^^^ 0x07 else r <<< 1
/-- The header check's register after one more byte (R160). -/
def crc8Byte (r b : Byte) : Byte :=
  crc8Shift (crc8Shift (crc8Shift (crc8Shift (crc8Shift (crc8Shift (crc8Shift (crc8Shift (r ^^^ b))))))))
/-- The header check over some bytes, starting from 0x00 (R160). -/
def crc8 (bytes : List Byte) : Byte := bytes.foldl crc8Byte 0

/-- One shift of the payload check's register, polynomial x^16+x^15+x^2+1 (R160). -/
def crc16Shift (r : BitVec 16) : BitVec 16 := if r.msb then (r <<< 1) ^^^ 0x8005 else r <<< 1
/-- The payload check's register after one more byte (R160). -/
def crc16Byte (r : BitVec 16) (b : Byte) : BitVec 16 :=
  crc16Shift (crc16Shift (crc16Shift (crc16Shift (crc16Shift (crc16Shift (crc16Shift (crc16Shift
    (r ^^^ (b.zeroExtend 16 <<< 8)))))))))
/-- The payload check over some bytes, starting from 0xFFFF (R160). -/
def crc16 (bytes : List Byte) : BitVec 16 := bytes.foldl crc16Byte 0xFFFF

/-- A payload check as received, from its two bytes, high byte first (R160). -/
def checkOf (hi lo : Byte) : BitVec 16 := (hi.zeroExtend 16 <<< 8) ||| lo.zeroExtend 16
/-- A payload check as sent, high byte first (R160). -/
def checkBytes (c : BitVec 16) : List Byte := [(c >>> 8).truncate 8, c.truncate 8]

/-- The payload check as the last two of a body's bytes carry it. -/
def bodyCheck (length : Nat) (bytes : List Byte) : BitVec 16 :=
  checkOf (bytes.getD length 0) (bytes.getD (length + 1) 0)

/-- The payload check of a received frame is right; a frame with no payload has none (R160). -/
def checkGood (payload : List Byte) (check : BitVec 16) : Bool :=
  payload.isEmpty || crc16 payload == check

/-- The bytes of a frame on the wire (R160). -/
def frameBytes (station kind tag : Byte) (payload : List Byte) : List Byte :=
  let header := [station, kind, tag, BitVec.ofNat 8 payload.length]
  Config.marker :: header ++ [crc8 header] ++
    if payload.isEmpty then [] else payload ++ checkBytes (crc16 payload)

/-- The fourteen bytes of a tray configuration (Message and Record Layouts). -/
def trayConfigBytes (c : TrayConfig) : List Byte :=
  le16 c.alloc ++ le16 c.surge ++ le16 c.pgTimeout ++ le16 c.settle ++ le16 c.stopTime ++
  le8 c.rank ++ le8 c.shedClass ++ leBool c.pinned ++ le8 c.retries

/-- A tray configuration with every numeric field in its range (R1, R19). -/
def clampTrayConfig (r : RawTrayConfig) : TrayConfig :=
  { alloc := clamp 0 6000 r.alloc, surge := clamp 0 6000 r.surge, pgTimeout := clamp 10 5000 r.pgTimeout,
    settle := clamp 0 5000 r.settle, stopTime := clamp 10 10000 r.stopTime, rank := clamp 0 15 r.rank,
    shedClass := clamp 0 3 r.shedClass, pinned := yes r.pinned, retries := clamp 0 3 r.retries }

/-- Some numeric field of the configuration lies outside its range (R19). -/
def trayConfigClamped (r : RawTrayConfig) : Bool :=
  !(inRange 0 6000 r.alloc && inRange 0 6000 r.surge && inRange 10 5000 r.pgTimeout &&
    inRange 0 5000 r.settle && inRange 10 10000 r.stopTime && inRange 0 15 r.rank &&
    inRange 0 3 r.shedClass && inRange 0 3 r.retries)

/-- A stored configuration seen as a request would carry it, for LOAD-PROFILE (R178). -/
def rawOfTrayConfig (c : TrayConfig) : RawTrayConfig :=
  { alloc := c.alloc, surge := c.surge, pgTimeout := c.pgTimeout, settle := c.settle, stopTime := c.stopTime,
    rank := c.rank, shedClass := c.shedClass, pinned := c.pinned.toNat, retries := c.retries }

/-- The range of a shelf parameter by its identifier (R183). A yes/no parameter has the range 0..1. -/
def paramRange (ident : Nat) : Nat × Nat :=
  match ident with
  | 0 => (20, 200)
  | 1 => (0, 1)
  | 2 => (0, 10000)
  | 3 => (0, 6000)
  | 4 => (0, 3600)
  | 5 => (50, 100)
  | 6 => (0, 50)
  | 7 => (1, 50)
  | 8 => (1, 600)
  | 9 => (0, 65535)
  | 10 => (0, 65535)
  | 11 => (0, 65535)
  | 12 => (1, 4)
  | 13 => (0, 5000)
  | 14 => (0, 5000)
  | 15 => (0, 1)
  | 16 => (0, 1)
  | 17 => (50, 1000)
  | 18 => (1, 60)
  | 19 => (500, 3000)
  | 20 => (1, 240)
  | 21 => (0, 100)
  | _ => (0, 600)

/-- The identifier of a yes/no parameter: auto-recover and auto-start (R183). -/
def paramYesNo (ident : Nat) : Bool := ident == 15 || ident == 16

/-- The value in force for a requested value (R183). -/
def paramClamp (ident value : Nat) : Nat := clamp (paramRange ident).1 (paramRange ident).2 value

/-- The request counts as clamped; a yes/no parameter never does (R183). -/
def paramClamped (ident value : Nat) : Bool :=
  !paramYesNo ident && !inRange (paramRange ident).1 (paramRange ident).2 value

/-- The policy of a clamped policy code (R46). -/
def policyOfCode (n : Nat) : Policy := if n = 0 then .n else .nPlus1
/-- The code of a policy (Message and Record Layouts). -/
def policyCode : Policy → Nat
  | .n => 0
  | .nPlus1 => 1

/-- The value of a parameter in force, by its identifier (R183). -/
def paramGet (p : Params) (ident : Nat) : Nat :=
  match ident with
  | 0 => p.period
  | 1 => policyCode p.policy
  | 2 => p.margin
  | 3 => p.chargeFloor
  | 4 => p.readyMin
  | 5 => p.efficiency
  | 6 => p.floorFraction
  | 7 => p.qualifyTime
  | 8 => p.restoreHold
  | 9 => p.tau1
  | 10 => p.tau2
  | 11 => p.tau3
  | 12 => p.slots
  | 13 => p.startSpacing
  | 14 => p.stopSpacing
  | 15 => p.autoRecover.toNat
  | 16 => p.autoStart.toNat
  | 17 => p.scanInterval
  | 18 => p.valveTravel
  | 19 => p.testPower
  | 20 => p.prepareLimit
  | 21 => p.weakThreshold
  | _ => p.hostSilence

/-- The parameters with the value of one of them replaced (R183). -/
def paramPut (p : Params) (ident value : Nat) : Params :=
  match ident with
  | 0 => { p with period := value }
  | 1 => { p with policy := policyOfCode value }
  | 2 => { p with margin := value }
  | 3 => { p with chargeFloor := value }
  | 4 => { p with readyMin := value }
  | 5 => { p with efficiency := value }
  | 6 => { p with floorFraction := value }
  | 7 => { p with qualifyTime := value }
  | 8 => { p with restoreHold := value }
  | 9 => { p with tau1 := value }
  | 10 => { p with tau2 := value }
  | 11 => { p with tau3 := value }
  | 12 => { p with slots := value }
  | 13 => { p with startSpacing := value }
  | 14 => { p with stopSpacing := value }
  | 15 => { p with autoRecover := yes value }
  | 16 => { p with autoStart := yes value }
  | 17 => { p with scanInterval := value }
  | 18 => { p with valveTravel := value }
  | 19 => { p with testPower := value }
  | 20 => { p with prepareLimit := value }
  | 21 => { p with weakThreshold := value }
  | _ => { p with hostSilence := value }

/-- The tray set of a list of tray numbers: each once, in ascending order (R108, R128). -/
def traySet (l : List Nat) : List TrayId := (List.finRange 24).filter fun i => l.contains i.val

/-- The scope bytes of a run request, tested in the order of R182: kind, length, members. -/
def parseScope : List Byte → Except RefusalCode Scope
  | [] => .error .badLength
  | k :: rest =>
    if k = 0 then if rest.isEmpty then .ok .all else .error .badLength
    else if k = 1 then
      match rest with
      | [lo, hi] => if lo.toNat ≤ 15 ∧ hi.toNat ≤ 15 then .ok (.ranks lo.toNat hi.toNat) else .error .badIndex
      | _ => .error .badLength
    else if k = 2 then
      match rest with
      | n :: trays =>
        if n.toNat ≤ 24 ∧ trays.length = n.toNat then
          if trays.all (fun t => decide (t.toNat ≤ 23)) then .ok (.trays (traySet (trays.map BitVec.toNat)))
          else .error .badIndex
        else .error .badLength
      | [] => .error .badLength
    else .error .badIndex

/-- A kind with no payload (R164). -/
def bodyOfNone (p : List Byte) (b : RequestBody) : RequestBody := if p.isEmpty then b else .badLength
/-- A kind with a payload of one byte (R164). -/
def bodyOfOne (p : List Byte) (f : Nat → RequestBody) : RequestBody :=
  match p with
  | [a] => f a.toNat
  | _ => .badLength
/-- A kind with a payload of two one-byte fields (R164). -/
def bodyOfTwo (p : List Byte) (f : Nat → Nat → RequestBody) : RequestBody :=
  match p with
  | [a, b] => f a.toNat b.toNat
  | _ => .badLength

/-- The payload of SET-SHELF-PARAM (Message and Record Layouts). -/
def bodyOfSetParam : List Byte → RequestBody
  | [i, a, b, c, d] => .setShelfParam i.toNat (u32 a b c d)
  | _ => .badLength

/-- The payload of SET-TRAY-CONFIG (Message and Record Layouts). -/
def bodyOfSetTray : List Byte → RequestBody
  | [t, a0, a1, b0, b1, c0, c1, d0, d1, e0, e1, rank, cls, pin, ret] =>
    .setTrayConfig t.toNat
      { alloc := u16 a0 a1, surge := u16 b0 b1, pgTimeout := u16 c0 c1, settle := u16 d0 d1,
        stopTime := u16 e0 e1, rank := rank.toNat, shedClass := cls.toNat, pinned := pin.toNat,
        retries := ret.toNat }
  | _ => .badLength

/-- The payload of SET-BBU-CONFIG (Message and Record Layouts). -/
def bodyOfSetBbu : List Byte → RequestBody
  | [b, r0, r1, r2, r3, m0, m1, f0, f1, f2, f3] =>
    .setBbuConfig b.toNat (u32 r0 r1 r2 r3) (u16 m0 m1) (u32 f0 f1 f2 f3)
  | _ => .badLength

/-- The payload of SET-LEAK-CHANNEL; whether its length fits its count is the owner's test (R137). -/
def bodyOfSetLeak : List Byte → RequestBody
  | ch :: en :: lp :: iso :: cv :: nc :: nf :: n :: trays =>
    .setLeakChannel
      { channel := ch.toNat, enabled := en.toNat, loop := lp.toNat, isolate := iso.toNat,
        closeValve := cv.toNat, nC := nc.toNat, nF := nf.toNat, count := n.toNat,
        trays := trays.map BitVec.toNat }
  | _ => .badLength

/-- The request that a kind code and a payload with a good check make (R164, Message and Record Layouts). -/
def bodyOfKind (k : Nat) (p : List Byte) : RequestBody :=
  match k with
  | 0x01 => bodyOfNone p .identify
  | 0x02 => bodyOfOne p .getLinkStatus
  | 0x03 => bodyOfTwo p .arm
  | 0x04 => bodyOfNone p .restart
  | 0x05 => bodyOfNone p .getShelfStatus
  | 0x06 => bodyOfOne p .takeNotices
  | 0x07 => bodyOfNone p .saveProfile
  | 0x08 => bodyOfNone p .loadProfile
  | 0x09 => bodyOfOne p .getShelfParam
  | 0x0A => bodyOfSetParam p
  | 0x10 => bodyOfTwo p .getTrays
  | 0x11 => bodyOfOne p .getTrayConfig
  | 0x12 => bodyOfSetTray p
  | 0x13 => bodyOfTwo p .trayControl
  | 0x14 => bodyOfOne p .clearFault
  | 0x18 => bodyOfNone p .getRoster
  | 0x19 => bodyOfTwo p .moduleService
  | 0x1A => bodyOfNone p .getBatteries
  | 0x1B => bodyOfOne p .getBbuConfig
  | 0x1C => bodyOfSetBbu p
  | 0x20 => .runUp p
  | 0x21 => .runDown p
  | 0x22 => bodyOfNone p .runSuspend
  | 0x23 => bodyOfNone p .runResume
  | 0x24 => bodyOfNone p .runCancel
  | 0x25 => bodyOfNone p .getRunStatus
  | 0x28 => bodyOfOne p .getInputStatus
  | 0x30 => bodyOfNone p .getLeak
  | 0x31 => bodyOfOne p .getLeakChannel
  | 0x32 => bodyOfSetLeak p
  | 0x33 => bodyOfOne p .leakRelease
  | 0x34 => bodyOfOne p .valveOpen
  | 0x35 => bodyOfOne p .valveClose
  | 0x38 => bodyOfNone p .getTest
  | 0x39 => bodyOfOne p .testStart
  | 0x3A => bodyOfNone p .testSuspend
  | 0x3B => bodyOfNone p .testResume
  | 0x3C => bodyOfNone p .testAbort
  | _ => .unknownKind

/-- The request a complete frame holds, after the generic tests of R164 in their order. -/
def parseRequest (kind : Byte) (payload : List Byte) (check : BitVec 16) : RequestBody :=
  if checkGood payload check then bodyOfKind kind.toNat payload else .badCheck

end Sys2Proof.Machine
end

