-- ==== Sys2Proof/Machine/Flags.lean ====
section
/-! DEFINITION. Codes of the enumerated fields, sets of bits, and the marks of an absent value (R182, Message and
Record Layouts). -/
namespace Sys2Proof.Machine

/-- The code of a tray state. -/
def trayStateCode : TrayState → Nat
  | .off => 0
  | .queued => 1
  | .inrush => 2
  | .on => 3
  | .stopping => 4
  | .failed => 5

/-- The code of a failure cause. -/
def failureCauseCode : FailureCause → Nat
  | .noPg => 0
  | .pgLost => 1
  | .stuckOn => 2

/-- The code of a rectifier slot state. -/
def rectStateCode : RectState → Nat
  | .empty => 0
  | .silent => 1
  | .starting => 2
  | .sourcing => 3
  | .inputLost => 4
  | .standby => 5
  | .faulted => 6

/-- The code of a BBU state. -/
def bbuStateCode : BbuState → Nat
  | .empty => 0
  | .silent => 1
  | .faulted => 2
  | .standby => 3
  | .discharging => 4
  | .full => 5
  | .charging => 6

/-- The code of a rectifier fault. -/
def rectFaultCode : RectFault → Nat
  | .none => 0
  | .overtemp => 1
  | .fan => 2
  | .outputOv => 3
  | .internal => 4

/-- The rectifier fault a received code is taken in as (R42). -/
def rectFaultOf (n : Nat) : RectFault :=
  match n with
  | 0 => .none
  | 1 => .overtemp
  | 2 => .fan
  | 3 => .outputOv
  | _ => .internal

/-- The code of a BBU fault. -/
def bbuFaultCode : BbuFault → Nat
  | .none => 0
  | .cell => 1
  | .overtemp => 2
  | .charger => 3
  | .internal => 4

/-- The BBU fault a received code is taken in as (R54). -/
def bbuFaultOf (n : Nat) : BbuFault :=
  match n with
  | 0 => .none
  | 1 => .cell
  | 2 => .overtemp
  | 3 => .charger
  | _ => .internal

/-- The code of a redundancy status. -/
def redundancyCode : Redundancy → Nat
  | .none => 0
  | .notRequired => 1
  | .full => 2
  | .degraded => 3

/-- The code of a shelf power state. -/
def shelfStateCode : ShelfState → Nat
  | .normal => 0
  | .sagQualify => 1
  | .rideThrough => 2
  | .restoreHold => 3
  | .exhausted => 4

/-- The code of a run direction. -/
def directionCode : Direction → Nat
  | .up => 0
  | .down => 1

/-- The code of a run state. -/
def runStateCode : RunState → Nat
  | .idle => 0
  | .running => 1
  | .suspended => 2
  | .held => 3

/-- The code of a blocked reason. -/
def blockedCode : Blocked → Nat
  | .budget => 0
  | .slots => 1
  | .spacing => 2
  | .rankGate => 3
  | .readiness => 4

/-- The code of a channel state. -/
def channelStateCode : ChannelState → Nat
  | .disabled => 0
  | .dry => 1
  | .suspect => 2
  | .alarm => 3
  | .cableFault => 4

/-- The code of a valve state. -/
def valveStateCode : ValveState → Nat
  | .opened => 0
  | .closing => 1
  | .closed => 2
  | .opening => 3
  | .stuck => 4

/-- The code of a test phase. -/
def testPhaseCode : TestPhase → Nat
  | .idle => 0
  | .prepare => 1
  | .discharge => 2
  | .recharge => 3
  | .done => 4

/-- The code of a test outcome. -/
def testOutcomeCode : TestOutcome → Nat
  | .completed => 0
  | .aborted .host => 1
  | .aborted .inputLost => 2
  | .aborted .bbuLost => 3
  | .aborted .prepareTimeout => 4
  | .aborted .reset => 5

/-- The code of a reset kind. -/
def resetKindCode : ResetKind → Nat
  | .cold => 0
  | .warmPin => 1
  | .warmCommand => 2

/-- The code of the RATE strap. -/
def rateCode : Rate → Nat
  | .slow115200 => 0
  | .fast921600 => 1

/-- The code of a refusal, from 1. -/
def refusalCode : RefusalCode → Nat
  | .unknownKind => 1
  | .badLength => 2
  | .badIndex => 3
  | .checkError => 4
  | .busy => 5
  | .wrongState => 6
  | .notArmed => 7
  | .pinned => 8
  | .lockedOut => 9
  | .noBudget => 10
  | .held => 11
  | .slotsFull => 12
  | .leakActive => 13
  | .noReserve => 14

/-- The code of a notice kind, from 1. -/
def noticeKindCode : NoticeKind → Nat
  | .trayOn => 1
  | .trayFailed => 2
  | .trayRemoved => 3
  | .trayUnexpectedPg => 4
  | .shedTray => 5
  | .runDone => 6
  | .capacityDeficit => 7
  | .deficitUnresolved => 8
  | .moduleSilent => 9
  | .moduleBack => 10
  | .moduleFault => 11
  | .bbuReseed => 12
  | .bbuWeak => 13
  | .testDone => 14
  | .sagRidden => 15
  | .inputLost => 16
  | .shedStage => 17
  | .reserveExhausted => 18
  | .inputRestored => 19
  | .leakAlarm => 20
  | .leakCableFault => 21
  | .loopEscalated => 22
  | .leakReleased => 23
  | .valveClosed => 24
  | .valveStuck => 25
  | .hostSilent => 26
  | .profileSaved => 27
  | .profileSaveFailed => 28
  | .profileInvalid => 29
  | .reset => 30

/-- A set of bits given as the list of its members, bit 0 least significant. -/
def bitSum (l : List Bool) : Nat := l.foldr (fun b n => b.toNat + 2 * n) 0

/-- The lockout set byte: LEAK bit 0, SHED bit 1, HOLD bit 2. -/
def lockBits (l : Lockouts) : Nat := bitSum [l.leak, l.shed, l.hold]

/-- The ACK flags byte: CLAMPED bit 0, STAGED bit 1 (R164). -/
def ackBits (clamped staged : Bool) : Nat := bitSum [clamped, staged]

/-- A tray bit-set, three bytes, tray n at bit n. -/
def trayBits (l : List TrayId) : List Byte :=
  let bit (k : Nat) : List Bool := (List.range 8).map fun j => l.any fun i => i.val == 8 * k + j
  le8 (bitSum (bit 0)) ++ le8 (bitSum (bit 1)) ++ le8 (bitSum (bit 2))

/-- A one-byte field that may be absent: 0xFF when absent (R182). -/
def optByte (o : Option Nat) : List Byte := le8 (o.getD 0xFF)
/-- A notice value: 0xFFFFFFFF when absent (R182). -/
def optValue (o : Option Nat) : List Byte := le32 (o.getD 0xFFFFFFFF)
/-- A rectifier power: 0xFFFF when absent (R182). -/
def optPower (o : Option Nat) : List Byte := le16 (o.getD 0xFFFF)
/-- A BBU's terminal power: 0x7FFF when absent (R182). -/
def optSigned (o : Option Int) : List Byte := leInt16 (o.getD 0x7FFF)
/-- A cell temperature: 0x7F when absent (R182). -/
def optTemp (o : Option Int) : List Byte := leInt8 (o.getD 0x7F)

end Sys2Proof.Machine
end

