-- ==== Sys2Proof/Machine/Defaults.lean ====
section
/-! DEFINITION. The defaults of the working configuration and the values of each record after a cold reset. -/
namespace Sys2Proof.Machine

/-- The defaults of a tray configuration (R1). -/
def defaultTrayConfig : TrayConfig :=
  { alloc := 1500, surge := 500, pgTimeout := 500, settle := 100, stopTime := 2000, rank := 8,
    shedClass := 2, pinned := false, retries := 1 }

/-- The defaults of a battery slot with an invalid profile: E_full becomes E_rated (R52, R176). -/
def defaultBbuConfig : BbuConfig := { eRated := 360000, maxCharge := 800, eFull := 360000 }

/-- The defaults of a leak channel (R128). -/
def defaultChannelConfig : ChannelConfig :=
  { enabled := false, loop := 0, trays := [], isolate := false, closeValve := false, nC := 3, nF := 5 }

/-- The defaults of the shelf parameters (R183). -/
def defaultParams : Params :=
  { period := 20, policy := .nPlus1, margin := 500, chargeFloor := 0, readyMin := 0, efficiency := 92,
    floorFraction := 10, qualifyTime := 8, restoreHold := 10, tau1 := 120, tau2 := 60, tau3 := 20,
    slots := 2, startSpacing := 250, stopSpacing := 250, autoRecover := true, autoStart := true,
    scanInterval := 100, valveTravel := 15, testPower := 1500, prepareLimit := 60, weakThreshold := 60,
    hostSilence := 0 }

/-- The working configuration of a cold reset with an invalid profile: the defaults, with auto-start no (R176). -/
def defaultConfig : WorkingConfig :=
  { trays := Vector.replicate 24 defaultTrayConfig
    bbus := Vector.replicate 6 defaultBbuConfig
    channels := Vector.replicate 12 defaultChannelConfig
    params := { defaultParams with autoStart := false } }

/-- The empty lockout set (R28). -/
def noLockouts : Lockouts := { leak := false, shed := false, hold := false }

/-- A tray record after a cold reset (R28). -/
def coldTray (cfg : TrayConfig) (present : Bool) : Tray :=
  { cfg := cfg, staged := none, state := .off, locks := noLockouts, owner := .auto, retriesUsed := 0,
    cause := none, present := present, timer := .idle }

/-- The MBC's slot record after a cold reset (R50). -/
def coldModuleSlot (present : Bool) : ModuleSlot := { present := present, missCount := 0, announced := false }

/-- A rectifier slot record after a cold reset (R50). -/
def coldRect (present : Bool) : RectSlot :=
  { state := if present then .silent else .empty, inService := true, telemetry := none }

/-- A BBU record after a cold reset (R72). -/
def coldBbu (cfg : BbuConfig) (present : Bool) : Bbu :=
  { state := if present then .silent else .empty, eRated := cfg.eRated, maxCharge := cfg.maxCharge,
    eFull := cfg.eFull, stored := 0, seeded := false, firstSeedDone := false, lastArrival := none,
    telemetry := none, inService := true, grant := 0, permit := true, testPower := 0,
    awaitsCharging := false }

/-- The account after a cold reset (R90). -/
def coldBudget : Budget := { c := 0, floorEff := 0, deficitActive := false, deficitUnresolved := false }

/-- The input loss record after a cold reset, before the ILC looks at IFAIL (R106). -/
def coldInputLoss : InputLoss :=
  { state := .normal, stage := 0, ifail := false, qualify := none, restore := none, sagStart := none,
    sagCount := 0, lastSag := 0, longestSag := 0, lastR := 0, lastTEst := 65535 }

/-- The run record after a cold reset (R126). -/
def coldRun : RunRecord :=
  { direction := .up, state := .idle, scope := .all, startQueue := [], stopQueue := [], members := [],
    stoppedCount := 0, blocked := none, startSpacing := none, stopSpacing := none }

/-- A channel record after a cold reset (R145). -/
def coldChannel (cfg : ChannelConfig) : Channel :=
  { cfg := cfg, state := if cfg.enabled then .dry else .disabled, wetRun := 0, faultRun := 0, dryStreak := 0,
    samples := 0, transients := 0, cableFlag := false }

/-- A loop record after a cold reset: OPEN if the open switch reads made, otherwise OPENING with the travel
timer started (R145). `travel` is the valve travel timeout in seconds. -/
def coldLoop (openSwitch closedSwitch : Bool) (travel : Nat) : Loop :=
  { valve := if openSwitch then .opened else .opening, drive := false, openSwitch := openSwitch,
    closedSwitch := closedSwitch, travel := if openSwitch then none else some (travel * 1000),
    escalated := false }

/-- The test record after a cold reset (R158). -/
def coldTest (testPower : Nat) : TestRecord :=
  { phase := .idle, target := none, suspended := false, testPower := testPower, prepare := .stopped,
    eMeas := 0, outcome := none, health := none }

/-- The silence timer started at the full setting of `seconds`; a setting of 0 leaves it stopped (R166). -/
def silenceStart (seconds : Nat) : Option Nat := if seconds = 0 then none else some (seconds * 1000)

/-- The host link after a cold or a warm reset (R169). -/
def freshHostLink (addr : Fin 4) (rate : Rate) (silence : Nat) : HostLink :=
  { station := addr.val, rate := rate, framer := .hunt, inBreak := false, queue := [], reply := none,
    arm := none, headerErrors := 0, payloadErrors := 0, byteErrors := 0, timeouts := 0, overruns := 0,
    silence := silenceStart silence }

end Sys2Proof.Machine
end

