-- ==== Sys2Proof/Machine/State.lean ====
section
/-! DEFINITION. The state of the part, plain data; why a step can stop; the state right after a cold reset. -/
namespace Sys2Proof.Machine

/-- Faults: none. No command stops this part; what goes wrong with a tray, a module or a request is a state, a notice
or a REFUSED reply (R164), each a next state. -/
inductive Fault
deriving DecidableEq, Repr

/-- Refusals of the model. -/
inductive Refusal
  /-- Raised by `exec` for a command that has no meaning yet; safe (no next state is claimed). No arm raises it. -/
  | notModelled (mnemonic : String)
deriving DecidableEq, Repr

/-- The whole part, and the queue of commands waiting for it. -/
structure State where
  /-- The millisecond time base (R38). -/
  time : Nat
  /-- The levels of the input pins (12, Pins). -/
  pins : Pins
  /-- The tray table (R1, R2). -/
  trays : Vector Tray 24
  /-- The Module Bus Controller (R31). -/
  mbc : ModuleBus
  /-- The Rectifier Roster's slot records (R41). -/
  rects : Vector RectSlot 6
  /-- The Reserve Integrator's BBU records (R52). -/
  bbus : Vector Bbu 6
  /-- The Budget Account (R74). -/
  budget : Budget
  /-- The Input Loss Controller (R92). -/
  ilc : InputLoss
  /-- The Power-Up Sequencer (R108). -/
  run : RunRecord
  /-- The Leak Monitor's channel records (R128). -/
  channels : Vector Channel 12
  /-- The Leak Monitor's loop records (R139). -/
  loops : Vector Loop 4
  /-- The staged scan interval (R129). -/
  stagedScan : Option Nat
  /-- The time at which the next scan pass is to start (R129, R145, R146). -/
  nextScan : Nat
  /-- The Battery Test Sequencer (R147). -/
  test : TestRecord
  /-- The Host Link Interface (R161). -/
  hli : HostLink
  /-- The Notice Queue (R170). -/
  notices : NoticeQueue
  /-- The Profile Store (R176). -/
  store : ProfileStore
  /-- The shelf parameters in force (R183). -/
  params : Params
  /-- The reset the RESET pin holds the part in, if it does (R179). -/
  held : Option ResetKind
  /-- The model's own counter for the free value (assumption log 1). -/
  freeCount : Nat
  /-- The commands waiting, first in, first out. -/
  pending : List Instr
deriving DecidableEq, Repr

/-- The levels of the pins in `State.reset`, a choice of the model (assumption log 6). -/
def restingPins : Pins :=
  { pg := Vector.replicate 24 false, prsnt := Vector.replicate 24 false,
    modulePresent := Vector.replicate 12 false, ifail := false, openSwitch := Vector.replicate 4 false,
    closedSwitch := Vector.replicate 4 false, addr := 0, rate := .slow115200, keep := false }

/-- The part right after a cold reset and its start sequence with no readable profile and every input at rest (R28, R50,
R72, R90, R106, R126, R145, R158, R169, R170, R176, R179, R181; assumption log 6). With no module fitted the first bus
cycle has ended as it started, so the roster is ready and the next cycle is due one period on (R33, R39). -/
def State.reset : State :=
  { time := 0
    pins := restingPins
    trays := Vector.replicate 24 (coldTray defaultTrayConfig false)
    mbc := { slots := Vector.replicate 12 (coldModuleSlot false), schedule := [], poll := none,
             driver := false, framer := .hunt, tag := 0, stagedPeriod := none, nextCycle := 20, rosterReady := true }
    rects := Vector.replicate 6 (coldRect false)
    bbus := Vector.replicate 6 (coldBbu defaultBbuConfig false)
    budget := coldBudget
    ilc := coldInputLoss
    run := coldRun
    channels := Vector.replicate 12 (coldChannel defaultChannelConfig)
    loops := Vector.replicate 4 (coldLoop false false 15)
    stagedScan := none
    nextScan := 0
    test := coldTest 1500
    hli := freshHostLink 0 .slow115200 0
    notices :=
      { records := [{ kind := .reset, subject := none, value := some 0, time := 0 },
                    { kind := .profileInvalid, subject := none, value := none, time := 0 }]
        lost := 0 }
    store := { image := none, valid := false, saving := none, autoPending := false, restart := .none,
               lastReset := .cold, warmCount := 0 }
    params := { defaultParams with autoStart := false }
    held := none
    freeCount := 0
    pending := [] }

end Sys2Proof.Machine
end

