-- ==== Sys2Proof/Machine/Ops.lean ====
section
/-! DEFINITION. Named operations over the records: figures computed from them, the notice queue, and what the Tray
Controller does to one tray. -/
namespace Sys2Proof.Machine

/-- The trays in order of index. -/
def allTrays : List TrayId := List.finRange 24
/-- The rectifier slots in order. -/
def allRects : List RectId := List.finRange 6
/-- The battery slots in order. -/
def allBbus : List BbuId := List.finRange 6
/-- The module slots, RS1..RS6 then B1..B6. -/
def allSlots : List SlotId := List.finRange 12
/-- The leak channels in order. -/
def allChannels : List ChannelId := List.finRange 12
/-- The loops in order. -/
def allLoops : List LoopId := List.finRange 4

/-! ### Figures of one record -/

/-- The lockout set is empty (R5). -/
def Lockouts.isEmpty (l : Lockouts) : Bool := !(l.leak || l.shed || l.hold)

/-- The tray is in INRUSH or ON: exactly then its EN is asserted (R4). -/
def Tray.enable (t : Tray) : Bool := t.state == .inrush || t.state == .on

/-- The watts a tray adds to committed load (R3). -/
def Tray.counted (t : Tray) : Nat :=
  match t.state with
  | .off => 0
  | .queued => 0
  | .inrush => t.cfg.alloc + t.cfg.surge
  | .on => t.cfg.alloc
  | .stopping => t.cfg.alloc
  | .failed => if t.cause = some .stuckOn then t.cfg.alloc else 0

/-- The tray's part of K_live: nothing while it stops (R76). -/
def Tray.countedLive (t : Tray) : Nat := if t.state = .stopping then 0 else t.counted

/-- Retry pending: a discharge wait runs (R2). -/
def Tray.retryPending (t : Tray) : Bool :=
  match t.timer with
  | .discharge _ => true
  | _ => false

/-- The tray can be taken into the start queue (R6, R118, R123). -/
def Tray.eligible (t : Tray) : Bool :=
  t.present && t.state == .off && t.owner == .auto && t.locks.isEmpty

/-- The tray can stand in a stop queue (R116). -/
def Tray.stoppable (t : Tray) : Bool := t.enable && t.owner == .auto && !t.cfg.pinned

/-- The per cent of rated power at a temperature class (R45). -/
def derating (tempClass : Nat) : Nat :=
  match tempClass with
  | 0 => 100
  | 1 => 90
  | 2 => 75
  | _ => 50

/-- Usable power U of a rectifier slot (R45). -/
def RectSlot.usablePower (r : RectSlot) : Nat :=
  match r.state, r.telemetry with
  | .sourcing, some t => t.rated * derating t.tempClass / 100
  | _, _ => 0

/-- The slot's part of L_meas (R45). -/
def RectSlot.delivered (r : RectSlot) : Nat :=
  match r.state, r.telemetry with
  | .sourcing, some t => t.output
  | _, _ => 0

/-- The BBU is counted in the reserve and the discharge load (R58). -/
def Bbu.counts (b : Bbu) : Bool := b.state == .charging || b.state == .full || b.state == .discharging

/-- A state in which a test's target is lost (R150 to R153). -/
def Bbu.lost (b : Bbu) : Bool :=
  b.state == .faulted || b.state == .standby || b.state == .silent || b.state == .empty

/-- Usable energy of a slot in joules, with the floor fraction in per cent (R65). -/
def Bbu.usable (phi : Nat) (b : Bbu) : Nat :=
  if b.counts then b.stored / 1000 - b.eFull * phi / 100 else 0

/-- The watts the unit delivers, in the discharge load (R67). -/
def Bbu.delivered (b : Bbu) : Nat :=
  if b.counts then
    match b.telemetry with
    | some t => t.power.toNat
    | none => 0
  else 0

/-! ### Figures of the shelf -/

/-- Committed load K_t (R75). -/
def State.kT (s : State) : Nat := (allTrays.map fun i => s.trays[i].counted).sum
/-- Committed load less stopping trays, K_live (R76). -/
def State.kLive (s : State) : Nat := (allTrays.map fun i => s.trays[i].countedLive).sum
/-- The INRUSH count (R108). -/
def State.inrushCount (s : State) : Nat :=
  (allTrays.filter fun i => s.trays[i].state == .inrush).length

/-- The rectifier slots in SOURCING. -/
def sourcing (rects : Vector RectSlot 6) : List RectId := allRects.filter fun i => rects[i].state == .sourcing
/-- The U of the slots in SOURCING. -/
def sourcingPowers (rects : Vector RectSlot 6) : List Nat := (sourcing rects).map fun i => rects[i].usablePower
/-- Shelf capacity by policy and slots (R46). -/
def capacityOf (policy : Policy) (rects : Vector RectSlot 6) : Nat :=
  let powers := sourcingPowers rects
  if policy = .nPlus1 ∧ 2 ≤ powers.length then powers.sum - powers.foldr max 0 else powers.sum
/-- Measured shelf load L_meas (R45). -/
def State.lMeas (s : State) : Nat := (allRects.map fun i => s.rects[i].delivered).sum
/-- Redundancy status (R47). -/
def State.redundancy (s : State) : Redundancy :=
  let n := (sourcing s.rects).length
  if n = 0 then .none else if s.params.policy = .n then .notRequired else if 2 ≤ n then .full else .degraded

/-- Usable energy of a slot (R65). -/
def State.usable (s : State) (b : BbuId) : Nat := s.bbus[b].usable s.params.floorFraction
/-- Reserve R (R66). -/
def State.reserve (s : State) : Nat := (allBbus.map s.usable).sum
/-- Discharge load L_dis (R67). -/
def State.lDis (s : State) : Nat := (allBbus.map fun b => s.bbus[b].delivered).sum
/-- Joules over watts in whole seconds, at most 65535, and 65535 at no load (R67, R68). -/
def lastingTime (energy load : Nat) : Nat :=
  if load = 0 then Config.timeCeiling else min Config.timeCeiling (energy / load)
/-- Ride-through estimate T_est (R67). -/
def State.tEst (s : State) : Nat := lastingTime s.reserve s.lDis
/-- Readiness projection for an added load, T_proj (R68). -/
def State.tProj (s : State) (added : Nat) : Nat := lastingTime s.reserve (s.lMeas + added)
/-- T_proj(0) with one unit's usable energy taken out (R68, R149). -/
def State.tProjWithout (s : State) (b : BbuId) : Nat := lastingTime (s.reserve - s.usable b) s.lMeas
/-- Total of the charge grants (R85). -/
def State.grantTotal (s : State) : Nat := (allBbus.map fun b => s.bbus[b].grant).sum
/-- ALERT is asserted exactly while a notice is held (R170). -/
def State.alert (s : State) : Bool := !s.notices.records.isEmpty
/-- A profile save is in flight (R177). -/
def State.saveInFlight (s : State) : Bool := s.store.saving.isSome

/-! ### The notice queue -/

/-- Posts a notice: it joins at the tail, or is dropped and counted when the queue is full (R170). -/
def post (kind : NoticeKind) (subject value : Option Nat) (s : State) : State :=
  if s.notices.records.length < Config.noticeRoom then
    { s with notices := { s.notices with
        records := s.notices.records ++ [{ kind := kind, subject := subject, value := value, time := s.time }] } }
  else { s with notices := { s.notices with lost := countUp 255 s.notices.lost } }

/-! ### Queues -/

/-- `x` put into an ordered list before the first member it comes before. -/
def insertOrdered {α : Type} (before : α → α → Bool) (x : α) : List α → List α
  | [] => [x]
  | y :: ys => if before x y then x :: y :: ys else y :: insertOrdered before x ys

/-- The members of a list in the order `before`. -/
def ordered {α : Type} (before : α → α → Bool) (l : List α) : List α := l.foldr (insertOrdered before) []

/-- Order of the start queue: rank ascending, then index ascending (R109). -/
def startsBefore (trays : Vector Tray 24) (a b : TrayId) : Bool :=
  decide (trays[a].cfg.rank < trays[b].cfg.rank) ||
  (trays[a].cfg.rank == trays[b].cfg.rank && decide (a < b))

/-- Order of the stop queue: rank descending, then index descending (R116). -/
def stopsBefore (trays : Vector Tray 24) (a b : TrayId) : Bool :=
  decide (trays[b].cfg.rank < trays[a].cfg.rank) ||
  (trays[a].cfg.rank == trays[b].cfg.rank && decide (b < a))

/-- Takes a tray out of a queue or set. -/
def without (i : TrayId) (l : List TrayId) : List TrayId := l.filter fun j => j != i

/-- What the run record loses when a tray's record becomes `t`: the start queue keeps only QUEUED trays, the stop
queue only trays that may stand in it, the member set neither OFF nor MANUAL trays (R109, R110, R116). -/
def syncRun (i : TrayId) (t : Tray) (r : RunRecord) : RunRecord :=
  { r with
    startQueue := if t.state = .queued then r.startQueue else without i r.startQueue
    stopQueue := if t.stoppable then r.stopQueue else without i r.stopQueue
    members := if t.state = .off ∨ t.owner = .manual then without i r.members else r.members }

/-- Stores a tray's record; the queues and the member set change with it (R6). -/
def putTray (i : TrayId) (t : Tray) (s : State) : State :=
  { s with trays := s.trays.set i t, run := syncRun i t s.run }

/-- Stores several trays' records, each a function of the old one. -/
def putTrays (l : List TrayId) (f : Tray → Tray) (s : State) : State :=
  l.foldl (fun s i => putTray i (f s.trays[i]) s) s

/-! ### What happens to one tray -/

/-- Entry to OFF by any path: a staged configuration is applied (R6, R12, R13, R14, R18, R27). -/
def enterOff (t : Tray) : Tray :=
  { t with cfg := t.staged.getD t.cfg, staged := none, state := .off, retriesUsed := 0, cause := none,
           timer := .idle }

/-- Entry to STOPPING (R12). -/
def enterStopping (t : Tray) : Tray := { t with state := .stopping, timer := .stop t.cfg.stopTime }

/-- A stop: QUEUED goes OFF, INRUSH and ON go STOPPING, any other state is left (R15). -/
def stopTray (t : Tray) : Tray :=
  match t.state with
  | .queued => enterOff t
  | .inrush => enterStopping t
  | .on => enterStopping t
  | .off => t
  | .stopping => t
  | .failed => t

/-- A shed (R16). -/
def shedTray (t : Tray) : Tray := stopTray { t with locks := { t.locks with shed := true } }

/-- An isolation (R17). -/
def isolateTray (t : Tray) : Tray := stopTray { t with locks := { t.locks with leak := true } }

/-- LEAK removed; the state is kept (R17). -/
def freeLeak (t : Tray) : Tray := { t with locks := { t.locks with leak := false } }

/-- SHED removed; the state is kept (R16). -/
def freeShed (t : Tray) : Tray := { t with locks := { t.locks with shed := false } }

/-- HOLD added: a QUEUED tray goes OFF, any other state is left (R24). -/
def holdTray (t : Tray) : Tray :=
  let t' := { t with locks := { t.locks with hold := true } }
  if t.state = .queued then enterOff t' else t'

/-- Entry to INRUSH with the INRUSH wait at its full length (R7). -/
def enterInrush (t : Tray) : Tray := { t with state := .inrush, timer := .inrushWait t.cfg.pgTimeout }

/-- Entry to ON (R8). -/
def enterOn (t : Tray) : Tray := { t with state := .on, timer := .idle, retriesUsed := 0 }

/-- A failure with this cause is retried (R10). -/
def willRetry (cause : FailureCause) (t : Tray) : Bool :=
  cause != .stuckOn && t.owner == .auto && decide (t.retriesUsed < t.cfg.retries)

/-- Entry to FAILED with the retry decision made (R10). -/
def enterFailed (cause : FailureCause) (t : Tray) : Tray :=
  { t with state := .failed, cause := some cause,
           timer := if willRetry cause t then .discharge t.cfg.stopTime else .idle }

/-- Presence lost, in whatever state (R14). -/
def removeTray (t : Tray) : Tray := { enterOff t with present := false }

/-- The Tray Controller reaches ON for a tray and posts TRAY-ON (R8). -/
def reachOn (i : TrayId) (s : State) : State :=
  post .trayOn (some i.val) none (putTray i (enterOn s.trays[i]) s)

/-- The Tray Controller fails a tray, and posts TRAY-FAILED when there is no retry (R10). -/
def failTray (i : TrayId) (cause : FailureCause) (s : State) : State :=
  let t := s.trays[i]
  let s' := putTray i (enterFailed cause t) s
  if willRetry cause t then s' else post .trayFailed (some i.val) (some (failureCauseCode cause)) s'

/-- A PG rise as the tray's state takes it (R8, R9, R12, R13). A settle of 0 expires as it starts (R1). -/
def trayPgRise (i : TrayId) (s : State) : State :=
  let t := s.trays[i]
  match t.state with
  | .inrush =>
    match t.timer with
    | .inrushWait left =>
      if t.cfg.settle = 0 then reachOn i s else putTray i { t with timer := .settle t.cfg.settle left } s
    | _ => s
  | .off => post .trayUnexpectedPg (some i.val) none s
  | .queued => post .trayUnexpectedPg (some i.val) none s
  | .failed => if t.cause = some .stuckOn then s else post .trayUnexpectedPg (some i.val) none s
  | .on => s
  | .stopping => s

/-- A PG fall as the tray's state takes it (R8, R9, R12, R13). -/
def trayPgFall (i : TrayId) (s : State) : State :=
  let t := s.trays[i]
  match t.state with
  | .inrush =>
    match t.timer with
    | .settle _ paused => putTray i { t with timer := .inrushWait paused } s
    | _ => s
  | .on => failTray i .pgLost s
  | .failed => if t.cause = some .stuckOn then putTray i (enterOff t) s else s
  | .off => s
  | .queued => s
  | .stopping => s

/-! ### Module slots -/

/-- The owner of a module slot: a rectifier slot or a battery slot. -/
def slotOwner (k : SlotId) : RectId ⊕ BbuId :=
  if h : k.val < 6 then .inl ⟨k.val, h⟩ else .inr ⟨k.val - 6, by omega⟩
/-- The module slot number of a rectifier slot. -/
def rectSlotNo (r : RectId) : SlotId := ⟨r.val, by omega⟩
/-- The module slot number of a battery slot. -/
def bbuSlotNo (b : BbuId) : SlotId := ⟨b.val + 6, by omega⟩
/-- The station of a module slot on the module bus (R30). -/
def slotStation (k : SlotId) : Byte :=
  if k.val < 6 then BitVec.ofNat 8 (0x10 + k.val) else BitVec.ofNat 8 (0x20 + (k.val - 6))

/-- The length a spacing timer starts with; a setting of 0 leaves it stopped (R113, R117). -/
def spacingStart (setting : Nat) : Option Nat := if setting = 0 then none else some setting

/-- Milliseconds left on a timer, 0 when it is stopped. -/
def timeLeft (t : Option Nat) : Nat := t.getD 0

end Sys2Proof.Machine
end

