-- ==== Sys2Proof/Machine/Budget.lean ====
section
/-! DEFINITION. The Budget Account: charge grants, admission, deficit. -/
namespace Sys2Proof.Machine

/-! ### Charge grants -/

/-- G_avail (R85). -/
def State.grantAvail (s : State) : Nat :=
  if s.ilc.state = .normal then s.budget.c - (s.params.margin + s.kT) else 0

/-- The BBU may be granted charge power (R85). One that was put in service again may not until it is CHARGING at an
arrival (R49; assumption log 38). -/
def grantEligible (s : State) (b : BbuId) : Bool :=
  s.bbus[b].state == .charging && s.bbus[b].inService && !s.bbus[b].awaitsCharging &&
  !(s.test.target == some b && s.test.phase == .discharge)

/-- Order of the grants: emptiest first by stored / E_full, compared by cross-multiplication, ties by slot (R85). -/
def grantsBefore (bbus : Vector Bbu 6) (a b : BbuId) : Bool :=
  let l := bbus[a].stored * bbus[b].eFull
  let r := bbus[b].stored * bbus[a].eFull
  decide (l < r) || (l == r && decide (a < b))

/-- The eligible BBUs in the order of the grants (R85). -/
def grantOrder (s : State) : List BbuId := ordered (grantsBefore s.bbus) (allBbus.filter (grantEligible s))

/-- What unit `b` gets when the units of the list are granted in turn out of `avail` (R85). -/
def grantFor (bbus : Vector Bbu 6) (b : BbuId) : List BbuId → Nat → Nat
  | [], _ => 0
  | x :: xs, avail =>
    if x = b then min bbus[x].maxCharge avail
    else grantFor bbus b xs (avail - min bbus[x].maxCharge avail)

/-- The whole distribution of the charge grants (R84, R85). -/
def recomputeGrants (s : State) : State :=
  let order := grantOrder s
  let avail := s.grantAvail
  { s with bbus := Vector.ofFn fun b => { s.bbus[b] with grant := grantFor s.bbus b order avail } }

/-! ### Admission -/

/-- The budget's answer to a start of a tray (R79). -/
def admission (s : State) (t : Tray) : StartVerdict :=
  if s.ilc.state ≠ .normal then .notNormal
  else if s.budget.c < s.kT + t.cfg.alloc + t.cfg.surge + s.params.margin + s.budget.floorEff then
    .blocked .budget
  else if s.params.readyMin ≠ 0 ∧ s.tProj t.cfg.alloc < s.params.readyMin then .blocked .readiness
  else .start

/-! ### Deficit -/

/-- The tray is a candidate of deficit shedding (R87). -/
def deficitCandidate (t : Tray) : Bool :=
  t.enable && decide (1 ≤ t.cfg.shedClass) && decide (t.cfg.shedClass ≤ 3)

/-- Order of deficit shedding: class up, rank down, index down (R87). -/
def shedsBefore (trays : Vector Tray 24) (a b : TrayId) : Bool :=
  let x := trays[a].cfg
  let y := trays[b].cfg
  decide (x.shedClass < y.shedClass) ||
  (x.shedClass == y.shedClass &&
    (decide (y.rank < x.rank) || (x.rank == y.rank && decide (b < a))))

/-- The candidates in the order of R87. -/
def deficitCandidates (s : State) : List TrayId :=
  ordered (shedsBefore s.trays) (allTrays.filter fun i => deficitCandidate s.trays[i])

/-- Sheds one tray for a deficit and posts SHED-TRAY with the watts by which K_live fell (R87). -/
def deficitShedOne (i : TrayId) (s : State) : State :=
  post .shedTray (some i.val) (some s.trays[i].countedLive) (putTray i (shedTray s.trays[i]) s)

/-- Sheds candidate after candidate while K_live is above C (R87). -/
def deficitShed : List TrayId → State → State
  | [], s => s
  | i :: rest, s => if s.kLive ≤ s.budget.c then s else deficitShed rest (deficitShedOne i s)

/-- The two deficit flags set. -/
def setDeficit (active unresolved : Bool) (s : State) : State :=
  { s with budget := { s.budget with deficitActive := active, deficitUnresolved := unresolved } }

/-- The start of a deficit episode, unless one is in progress (R86). -/
def deficitStart (s : State) : State :=
  if s.budget.deficitActive then s
  else post .capacityDeficit none (some (s.kLive - s.budget.c)) (setDeficit true false s)

/-- The end of shedding: the episode ends, or it is unresolved, which is posted once (R86, R88). -/
def deficitFinish (s : State) : State :=
  if s.kLive ≤ s.budget.c then setDeficit false false s
  else if s.budget.deficitUnresolved then s
  else post .deficitUnresolved none (some (s.kLive - s.budget.c)) (setDeficit true true s)

/-- A deficit evaluation; it is made in NORMAL only (R86 to R88). -/
def evalDeficit (s : State) : State :=
  if s.ilc.state ≠ .normal then s
  else if s.kLive ≤ s.budget.c then setDeficit false false s
  else
    let s1 := deficitStart s
    recomputeGrants (deficitFinish (deficitShed (deficitCandidates s1) s1))

/-- What the budget does after tray reports that took the part from `s0` to `s` (R75, R76). Telling the sequencer is
`seqAfter`'s part. -/
def afterBudget (s0 s : State) : State :=
  let s1 := if s.kT = s0.kT then s else recomputeGrants s
  if s.kLive = s0.kLive then s1 else evalDeficit s1

end Sys2Proof.Machine
end

