-- ==== Sys2Proof/Machine/Sequencer.lean ====
section
/-! DEFINITION. The Power-Up Sequencer: the start rule, the stop rule, completion, recovery, and what follows a change
of trays. -/
namespace Sys2Proof.Machine

/-! ### Completion -/

/-- An UP run is complete (R114). -/
def upComplete (s : State) : Bool :=
  s.run.direction == .up && (s.run.state == .running || s.run.state == .held) && s.run.startQueue.isEmpty &&
  s.run.members.all fun i =>
    s.trays[i].state != .inrush && !(s.trays[i].state == .failed && s.trays[i].retryPending)

/-- The members in a state, counted (R114). -/
def membersIn (s : State) (st : TrayState) : Nat :=
  (s.run.members.filter fun i => s.trays[i].state == st).length

/-- The completion test of an UP run (R114). -/
def testUpDone (s : State) : State :=
  if upComplete s then
    let s' := post .runDone (some 0) (some (membersIn s .on + 256 * membersIn s .failed)) s
    { s' with run := { s'.run with state := .idle, members := [], blocked := none } }
  else s

/-- A DOWN run is complete (R117). -/
def downComplete (s : State) : Bool :=
  s.run.direction == .down && s.run.state == .running && s.run.stopQueue.isEmpty

/-- The completion test of a DOWN run (R117). -/
def testDownDone (s : State) : State :=
  if downComplete s then
    let s' := post .runDone (some 1) (some s.run.stoppedCount) s
    { s' with run := { s'.run with state := .idle, stoppedCount := 0 } }
  else s

/-! ### The start rule -/

/-- No tray of lower rank than `h` is in INRUSH (R111). -/
def rankGateOpen (s : State) (h : TrayId) : Bool :=
  allTrays.all fun i => !(s.trays[i].state == .inrush && decide (s.trays[i].cfg.rank < s.trays[h].cfg.rank))

/-- What the start rule finds for the head `h`, the conditions in the order of R111. -/
def startVerdict (s : State) (h : TrayId) : StartVerdict :=
  if s.params.slots ≤ s.inrushCount then .blocked .slots
  else if s.run.startSpacing.isSome then .blocked .spacing
  else if !rankGateOpen s h then .blocked .rankGate
  else admission s s.trays[h]

/-- The tray enters INRUSH and the budget sees it (R7, R80). -/
def beginInrush (h : TrayId) (s : State) : State := afterBudget s (putTray h (enterInrush s.trays[h]) s)

/-- An asserted PG at the entry to INRUSH counts as a PG rise (R7). -/
def entryPg (h : TrayId) (s : State) : State :=
  if s.pins.pg[h] then afterBudget s (trayPgRise h s) else s

/-- A sequencer start (R113). -/
def startTray (h : TrayId) (s : State) : State :=
  let s1 := { s with run := { s.run with startSpacing := spacingStart s.params.startSpacing } }
  entryPg h (beginInrush h s1)

/-- The start rule for head after head, at most `n` starts (R111 to R113). -/
def startLoop : Nat → State → State
  | 0, s => s
  | n + 1, s =>
    match s.run.startQueue with
    | [] => { s with run := { s.run with blocked := none } }
    | h :: _ =>
      match startVerdict s h with
      | .notNormal => s
      | .blocked why => { s with run := { s.run with blocked := some why } }
      | .start => startLoop n (startTray h s)

/-- An evaluation of the start rule, made in a RUNNING UP run only, and the completion test (R112, R114). -/
def evalStart (s : State) : State :=
  if s.run.direction = .up ∧ s.run.state = .running then
    testUpDone (startLoop (s.run.startQueue.length + 1) s)
  else s

/-! ### The stop rule -/

/-- The run stops one tray (R117). The stopped count rises by one at each stop and has no ceiling of its own: R108 gives
it the range 0..24 and R117 names no saturation (assumption log 41). -/
def stopHead (h : TrayId) (s : State) : State :=
  let s1 := afterBudget s (putTray h (stopTray s.trays[h]) s)
  { s1 with run := { s1.run with stoppedCount := s1.run.stoppedCount + 1,
                                 stopSpacing := spacingStart s.params.stopSpacing } }

/-- The stop rule for head after head, at most `n` stops (R117). -/
def stopLoop : Nat → State → State
  | 0, s => s
  | n + 1, s =>
    match s.run.stopQueue with
    | [] => s
    | h :: _ => if s.run.stopSpacing.isSome then s else stopLoop n (stopHead h s)

/-- An evaluation of the stop rule, made in a RUNNING DOWN run only, and the completion test (R117). -/
def evalStop (s : State) : State :=
  if s.run.direction = .down ∧ s.run.state = .running then
    testDownDone (stopLoop (s.run.stopQueue.length + 1) s)
  else s

/-! ### What follows a change of trays -/

/-- Between `s0` and `s` something came about at which the start rule is evaluated: K_t fell, a tray left INRUSH, a
tray joined the start queue, or its head left it (R82, R112). -/
def startEvent (s0 s : State) : Bool :=
  decide (s.kT < s0.kT) ||
  (allTrays.any fun i => s0.trays[i].state == .inrush && s.trays[i].state != .inrush) ||
  (s.run.startQueue.any fun i => !s0.run.startQueue.contains i) ||
  s.run.startQueue.head? != s0.run.startQueue.head?

/-- The sequencer's part after a change of trays from `s0` to `s` (R112, R114, R117). -/
def seqAfter (s0 s : State) : State :=
  match s.run.direction with
  | .down => testDownDone s
  | .up => if startEvent s0 s then testUpDone (evalStart s) else testUpDone s

/-- Everything that follows a change of trays from `s0` to `s`: the budget, then the sequencer. -/
def propagate (s0 s : State) : State := seqAfter s0 (afterBudget s0 s)

/-- The sequencer is told that the budget has changed (R82). -/
def tell (s : State) : State := evalStart s

/-! ### Runs -/

/-- The tray joins the start queue at its ordered place and becomes a member (R6, R109, R110). -/
def joinQueue (i : TrayId) (s : State) : State :=
  let s1 := putTray i { s.trays[i] with state := .queued } s
  { s1 with run := { s1.run with
      startQueue := insertOrdered (startsBefore s1.trays) i (without i s1.run.startQueue)
      members := allTrays.filter fun j => j == i || s1.run.members.contains j } }

/-- Several trays join. -/
def joinAll (l : List TrayId) (s : State) : State := l.foldl (fun s i => joinQueue i s) s

/-- The tray is in the scope (R108). -/
def inScope (trays : Vector Tray 24) (scope : Scope) (i : TrayId) : Bool :=
  match scope with
  | .all => true
  | .ranks lo hi => decide (lo ≤ trays[i].cfg.rank) && decide (trays[i].cfg.rank ≤ hi)
  | .trays set => set.contains i

/-- The eligible trays of a scope (R118). -/
def eligibleIn (s : State) (scope : Scope) : List TrayId :=
  allTrays.filter fun i => inScope s.trays scope i && s.trays[i].eligible

/-- The trays of a scope that a DOWN run takes into its stop queue, in its order (R116). -/
def stoppableIn (s : State) (scope : Scope) : List TrayId :=
  ordered (stopsBefore s.trays) (allTrays.filter fun i => inScope s.trays scope i && s.trays[i].stoppable)

/-- A new UP run with these trays in its queue, RUNNING and evaluated. Its creation takes the rack in hand, so the
auto-start mark goes (R118, R123, R181). -/
def createUp (scope : Scope) (l : List TrayId) (s : State) : State :=
  let s1 :=
    { s with run := { s.run with direction := .up, state := .running, scope := scope, startQueue := [],
                                 stopQueue := [], members := [], blocked := none }
             store := { s.store with autoPending := false } }
  evalStart (joinAll l s1)

/-- The trays of the start queue leave it for OFF, and the member set is emptied (R119, R122). -/
def dissolveUp (s : State) : State :=
  let s1 := putTrays s.run.startQueue enterOff s
  { s1 with run := { s1.run with startQueue := [], members := [] } }

/-- A new DOWN run with the qualifying trays of the scope in its queue, RUNNING and evaluated (R119). -/
def createDown (scope : Scope) (s : State) : State :=
  evalStop
    { s with run := { s.run with direction := .down, state := .running, scope := scope, startQueue := [],
                                 stopQueue := stoppableIn s scope, members := [], stoppedCount := 0,
                                 blocked := none }
             store := { s.store with autoPending := false } }

/-- The recovery rule for a list of trays freed of SHED (R123). -/
def recovery (l : List TrayId) (s : State) : State :=
  let r := l.filter fun i => s.trays[i].eligible
  if !s.params.autoRecover || r.isEmpty then s
  else
    match s.run.state, s.run.direction with
    | .idle, _ => createUp (.trays r) r s
    | _, .down => s
    | _, .up => evalStart (joinAll r s)

/-- Every enabled channel has at least N_c samples (R181). -/
def channelsSampled (s : State) : Bool :=
  allChannels.all fun c => !s.channels[c].cfg.enabled || decide (s.channels[c].cfg.nC ≤ s.channels[c].samples)

/-- The conditions of the automatic power-up run (R181). -/
def autoStartReady (s : State) : Bool :=
  s.store.autoPending && s.mbc.rosterReady && channelsSampled s && s.ilc.state == .normal &&
  s.run.state == .idle

/-- The test for the automatic power-up run, which is created when the conditions hold (R181). -/
def autoStartTest (s : State) : State :=
  if autoStartReady s then createUp .all (eligibleIn s .all) s else s

end Sys2Proof.Machine
end

