-- ==== Sys2Proof/Machine/BatteryTest.lean ====
section
/-! DEFINITION. The Battery Test Sequencer: its phases, the capacity learned, and aborts. -/
namespace Sys2Proof.Machine

/-- A test is active (R147). -/
def State.testActive (s : State) : Bool :=
  s.test.phase == .prepare || s.test.phase == .discharge || s.test.phase == .recharge

/-- The unit is the target of an active test. -/
def State.isTarget (s : State) (b : BbuId) : Bool := s.testActive && s.test.target == some b

/-- The unit is the target of a suspended test (R48, R70). -/
def State.isSuspendedTarget (s : State) (b : BbuId) : Bool := s.test.suspended && s.isTarget b

/-- Stores a BBU record. -/
def putBbu (b : BbuId) (u : Bbu) (s : State) : State := { s with bbus := s.bbus.set b u }

/-- Writes the test discharge power of a unit (R53, R147). -/
def setTestPower (b : BbuId) (watts : Nat) (s : State) : State :=
  putBbu b { s.bbus[b] with testPower := watts } s

/-- The test discharge power of the target, if there is one, becomes 0. -/
def clearTestPower (s : State) : State :=
  match s.test.target with
  | some b => setTestPower b 0 s
  | none => s

/-- The target's module slot number, for a notice. -/
def State.targetSlot (s : State) : Option Nat := s.test.target.map fun b => (bbuSlotNo b).val

/-- An active test ends early (R156). The grants are recomputed when the target leaves DISCHARGE. -/
def abortTest (why : AbortReason) (s : State) : State :=
  if s.testActive then
    let s1 := clearTestPower s
    let s2 :=
      { s1 with test := { s1.test with phase := .done, prepare := .stopped, suspended := false,
                                       outcome := some (.aborted why) } }
    let s3 := if s.test.phase = .discharge then recomputeGrants s2 else s2
    post .testDone s.targetSlot (some (testOutcomeCode (.aborted why))) s3
  else s

/-- PREPARE ends and the target is discharged at the test power (R150). -/
def enterDischarge (b : BbuId) (s : State) : State :=
  let s1 := { s with test := { s.test with phase := .discharge, prepare := .stopped, eMeas := 0 } }
  recomputeGrants (setTestPower b s1.test.testPower s1)

/-- PREPARE ends at once when its unsuspended target is FULL (R149, R150, R155). -/
def prepareCheck (b : BbuId) (s : State) : State :=
  if s.bbus[b].state = .full ∧ s.test.suspended = false then enterDischarge b s else s

/-- The largest E_meas, in millijoules (R147). -/
def eMeasTop : Nat := 4000000000

/-- DISCHARGE ends at cutoff: the capacity is learned (R152). -/
def learnCapacity (b : BbuId) (s : State) : State :=
  let joules := s.test.eMeas / 1000
  let health := min 100 (joules * 100 / s.bbus[b].eRated)
  let s1 := putBbu b { s.bbus[b] with eFull := clamp 1000 4000000 joules, stored := 0, testPower := 0 } s
  let s2 := { s1 with test := { s1.test with health := some health } }
  let s3 :=
    if health < s.params.weakThreshold then post .bbuWeak (some (bbuSlotNo b).val) (some health) s2 else s2
  recomputeGrants { s3 with test := { s3.test with phase := .recharge, suspended := false } }

/-- RECHARGE ends at FULL (R153). -/
def completeTest (b : BbuId) (s : State) : State :=
  post .testDone (some (bbuSlotNo b).val) (some (testOutcomeCode .completed))
    { s with test := { s.test with phase := .done, outcome := some .completed } }

/-- The cutoff reached flag of a unit's last arrival. -/
def Bbu.atCutoff (u : Bbu) : Bool :=
  match u.telemetry with
  | some t => t.cutoff
  | none => false

/-- The test sequencer takes an arrival of its target with the discharge delta of its integration, 0 when there is
none (R59 step 5, R150, R151, R153; the delta comes first, assumption log 29). -/
def testArrival (b : BbuId) (delta : Nat) (s : State) : State :=
  if s.isTarget b then
    match s.test.phase with
    | .prepare => if s.bbus[b].lost then abortTest .bbuLost s else prepareCheck b s
    | .discharge =>
      let s1 := { s with test := { s.test with eMeas := min eMeasTop (s.test.eMeas + delta) } }
      if s1.bbus[b].lost then abortTest .bbuLost s1
      else if s1.bbus[b].atCutoff then learnCapacity b s1
      else s1
    | .recharge =>
      if s.bbus[b].lost then abortTest .bbuLost s
      else if s.bbus[b].state = .full then completeTest b s
      else s
    | .idle => s
    | .done => s
  else s

/-- The test sequencer hears of a change of state of a unit (R58, R156). -/
def testHearsState (b : BbuId) (s : State) : State :=
  if s.isTarget b && s.bbus[b].lost then abortTest .bbuLost s else s

end Sys2Proof.Machine
end

