-- ==== Sys2Proof/Machine/Shelf.lean ====
section
/-! DEFINITION. The Input Loss Controller: the shelf power state, stages, exhaustion, restoring; and capacity as the
budget takes it. -/
namespace Sys2Proof.Machine

/-! ### SHED cleared -/

/-- The trays that carry SHED. -/
def shedTrays (s : State) : List TrayId := allTrays.filter fun i => s.trays[i].locks.shed

/-- SHED is cleared from every tray; each keeps its state (R16). -/
def clearShed (s : State) : State := { s with trays := Vector.ofFn fun i => freeShed s.trays[i] }

/-! ### The hand-over of a new shelf power state (R93; the order of the blocks is assumption log 13) -/

/-- The budget account takes the hand-over (R84, R86). -/
def budgetHearsShelf (s : State) : State :=
  let s1 := recomputeGrants s
  if s.ilc.state = .normal then evalDeficit s1 else setDeficit false false s1

/-- The sequencer takes the hand-over (R115): an UP run is HELD outside NORMAL and RUNNING again in NORMAL. -/
def sequencerHearsShelf (s : State) : State :=
  if s.ilc.state = .normal then
    if s.run.state = .held then evalStart { s with run := { s.run with state := .running } } else tell s
  else if s.run.direction = .up ∧ s.run.state = .running then
    testUpDone { s with run := { s.run with state := .held, blocked := none } }
  else s

/-- The shelf power state changes and is handed on (R93). -/
def setShelf (new : ShelfState) (s : State) : State :=
  let s1 := { s with ilc := { s.ilc with state := new } }
  sequencerHearsShelf (seqAfter s1 (budgetHearsShelf s1))

/-! ### Exhaustion and stages -/

/-- The tray goes with a stage or exhaustion set: running, queued or waiting to retry (R98, R99). -/
def sheddable (t : Tray) : Bool :=
  t.state == .queued || t.enable || (t.state == .failed && t.retryPending)

/-- The exhaustion set (R99). -/
def exhaustionSet (s : State) : List TrayId := allTrays.filter fun i => sheddable s.trays[i]

/-- The stage set of stage k (R98). -/
def stageSet (s : State) (k : Nat) : List TrayId :=
  allTrays.filter fun i =>
    decide (1 ≤ s.trays[i].cfg.shedClass) && decide (s.trays[i].cfg.shedClass ≤ k) && sheddable s.trays[i]

/-- Sheds a set of trays whole; budget and sequencer follow (R16, R98, R99). -/
def shedSet (l : List TrayId) (s : State) : State := propagate s (putTrays l shedTray s)

/-- Entry to RESTORE-HOLD with the restore timer at its full length (R100, R101). -/
def enterRestoreHold (s : State) : State :=
  setShelf .restoreHold { s with ilc := { s.ilc with restore := some (s.params.restoreHold * 1000) } }

/-- Entry to EXHAUSTED; with IFAIL released the shelf goes on to RESTORE-HOLD at once (R99). -/
def enterExhausted (s : State) : State :=
  let s1 := setShelf .exhausted { s with ilc := { s.ilc with restore := none } }
  let l := exhaustionSet s1
  let s2 := post .reserveExhausted none (some l.length) (shedSet l s1)
  if s2.ilc.ifail then s2 else enterRestoreHold s2

/-- The stage that an estimate reaches, each threshold tested on its own (R97). -/
def reachedStage (p : Params) (tEst : Nat) : Nat :=
  if tEst < p.tau3 then 3 else if tEst < p.tau2 then 2 else if tEst < p.tau1 then 1 else 0

/-- The stage rises to k and its set is shed (R98). -/
def raiseStage (k : Nat) (s : State) : State :=
  let s1 := { s with ilc := { s.ilc with stage := k } }
  let l := stageSet s1 k
  post .shedStage (some k) (some l.length) (shedSet l s1)

/-- Evaluation of the stage against last T_est (R97). -/
def evalStage (s : State) : State :=
  let k := reachedStage s.params s.ilc.lastTEst
  if s.ilc.stage < k then raiseStage k s else s

/-- Evaluation in RIDE-THROUGH: exhaustion first, then the stage (R96, R97, R102). -/
def evalRide (s : State) : State := if s.ilc.lastR = 0 then enterExhausted s else evalStage s

/-- A T_est arrival (R92, R97, R99). -/
def tEstArrival (s : State) : State :=
  let prev := s.ilc.lastR
  let s1 := { s with ilc := { s.ilc with lastR := s.reserve, lastTEst := s.tEst } }
  match s1.ilc.state with
  | .rideThrough => evalRide s1
  | .restoreHold => if s1.ilc.lastR = 0 ∧ 0 < prev then enterExhausted s1 else s1
  | .normal => s1
  | .sagQualify => s1
  | .exhausted => s1

/-- The reserve integrator's recomputation is handed on: to the input loss controller always, to the budget and
through it to the sequencer when R differs (R66, R82). -/
def reserveChanged (s : State) : State :=
  let s1 := tEstArrival s
  if s.reserve = s.ilc.lastR then s1 else tell s1

/-! ### IFAIL -/

/-- IFAIL asserted in NORMAL (R94). -/
def enterSagQualify (s : State) : State :=
  setShelf .sagQualify
    { s with ilc := { s.ilc with ifail := true, sagStart := some s.time, qualify := some s.params.qualifyTime } }

/-- IFAIL asserted in RESTORE-HOLD (R102). -/
def inputFlicker (s : State) : State :=
  evalRide (setShelf .rideThrough { s with ilc := { s.ilc with ifail := true, restore := none } })

/-- The width of a sag that ends now (R95). -/
def sagWidth (s : State) : Nat := min 65535 (s.time - s.ilc.sagStart.getD s.time)

/-- IFAIL released in SAG-QUALIFY (R95). -/
def sagRidden (s : State) : State :=
  let w := sagWidth s
  let s1 := { s with ilc := { s.ilc with
      ifail := false, qualify := none, lastSag := w, longestSag := max s.ilc.longestSag w,
      sagCount := countUp 65535 s.ilc.sagCount, sagStart := none } }
  autoStartTest (post .sagRidden none (some w) (setShelf .normal s1))

/-- The input loss controller sees IFAIL asserted (R94, R102). -/
def ifailAsserted (s : State) : State :=
  match s.ilc.state with
  | .normal => enterSagQualify s
  | .restoreHold => inputFlicker s
  | .sagQualify => s
  | .rideThrough => s
  | .exhausted => s

/-- The input loss controller sees IFAIL released (R95, R100). -/
def ifailReleased (s : State) : State :=
  match s.ilc.state with
  | .sagQualify => sagRidden s
  | .rideThrough => enterRestoreHold { s with ilc := { s.ilc with ifail := false } }
  | .exhausted => enterRestoreHold { s with ilc := { s.ilc with ifail := false } }
  | .normal => s
  | .restoreHold => s

/-- The failure has qualified (R96). -/
def qualifyFailure (s : State) : State :=
  let s1 := setShelf .rideThrough { s with ilc := { s.ilc with sagStart := none, stage := 0, qualify := none } }
  let s2 := post .inputLost none (some s1.ilc.lastR) s1
  evalRide (abortTest .inputLost s2)

/-- The restore hold is over (R103). -/
def restoreNormal (s : State) : State :=
  let l := shedTrays s
  let s1 := clearShed { s with ilc := { s.ilc with stage := 0, restore := none } }
  let s2 := post .inputRestored none (some l.length) s1
  autoStartTest (recovery l (setShelf .normal s2))

/-! ### Capacity (R77) -/

/-- SHED is cleared at a rise of C in NORMAL and the list is handed to recovery (R89). -/
def clearShedOnRise (s : State) : State := recovery (shedTrays s) (clearShed s)

/-- The budget account takes a new C (R77). -/
def capacityChanged (c : Nat) (s : State) : State :=
  let rise := decide (s.budget.c < c)
  let s1 := recomputeGrants { s with budget := { s.budget with c := c } }
  let s2 := if s1.ilc.state = .normal then seqAfter s1 (evalDeficit s1) else s1
  let s3 := if s2.ilc.state = .normal ∧ rise then clearShedOnRise s2 else s2
  if rise then tell s3 else s3

/-- The rectifier roster has recomputed its figures after a change from `s0`: a changed C goes to the budget, and
then a changed L_meas is told (R45, R46, R68; the order is assumption log 24). -/
def rosterRecompute (s0 s : State) : State :=
  let c := capacityOf s.params.policy s.rects
  let s1 := if c = s.budget.c then s else capacityChanged c s
  if s.lMeas = s0.lMeas then s1 else tell s1

/-- G_floor_eff as it is to be (R77). -/
def floorEffNow (s : State) : Nat :=
  if allBbus.any fun b => s.bbus[b].state == .charging then s.params.chargeFloor else 0

/-- G_floor_eff is recomputed (R77). -/
def recomputeFloor (s : State) : State := { s with budget := { s.budget with floorEff := floorEffNow s } }

/-- The shelf parameters replaced. -/
def setParams (p : Params) (s : State) : State := { s with params := p }

end Sys2Proof.Machine
end

