-- ==== Sys2Proof/Machine/Reserve.lean ====
section
/-! DEFINITION. The Reserve Integrator: BBU telemetry, the energy account, and states without telemetry. -/
namespace Sys2Proof.Machine

/-- The telemetry of a BBU reply's seven bytes, converted (R54); the reply's length has been tested (R36). -/
def bbuTelemetryOf (p : List Byte) : BbuTelemetry :=
  let byte (k : Nat) : Byte := p.getD k 0
  { power := max (-6000) (min 6000 (s16 (byte 0) (byte 1)))
    soc := min 100 (byte 2).toNat
    fullFlag := yes (byte 3).toNat
    cutoff := yes (byte 4).toNat
    cellTemp := max (-40) (min 125 (s8 (byte 5)))
    fault := bbuFaultOf (byte 6).toNat }

/-- The state a telemetry arrival gives a battery slot (R55). -/
def bbuStateOf (t : BbuTelemetry) (inService : Bool) : BbuState :=
  if t.fault ≠ .none then .faulted
  else if !inService then .standby
  else if 20 ≤ t.power then .discharging
  else if t.fullFlag then .full
  else .charging

/-- The fault code of the last arrival, none when there was no arrival. -/
def Bbu.faultCode (u : Bbu) : BbuFault :=
  match u.telemetry with
  | some t => t.fault
  | none => .none

/-- An arrival that leaves the unit `new` after `old` posts MODULE-FAULT (R57). -/
def bbuFaultNews (old new : Bbu) : Bool :=
  new.state == .faulted && (old.state != .faulted || old.faultCode != new.faultCode)

/-- The arrival seeds the account (R60). -/
def seeds (now : Nat) (u : Bbu) : Bool :=
  !u.seeded || decide (Config.maxGap < now - u.lastArrival.getD now)

/-- The energy a seeding sets, in joules (R60). -/
def seedEnergy (u : Bbu) (t : BbuTelemetry) : Nat := u.eFull * t.soc / 100

/-- The milliseconds since the last arrival (R62). -/
def arrivalGap (now : Nat) (u : Bbu) : Nat := now - u.lastArrival.getD now

/-- The discharge delta of an integration, in millijoules; 0 when the unit was not discharging (R62). -/
def dischargeDelta (now : Nat) (u : Bbu) (t : BbuTelemetry) : Nat := t.power.toNat * arrivalGap now u

/-- The charge an integration adds, in millijoules, weighted by the efficiency; 0 when the unit was not charging
(R63). -/
def chargeDelta (eta now : Nat) (u : Bbu) (t : BbuTelemetry) : Nat :=
  (-t.power).toNat * arrivalGap now u * eta / 100

/-- Stored energy after an integration, clamped to the account's range (R62 to R64). -/
def integrate (eta now : Nat) (u : Bbu) (t : BbuTelemetry) : Nat :=
  min (u.eFull * 1000) (u.stored - dischargeDelta now u t + chargeDelta eta now u t)

/-- Step 3 of an arrival: the account seeds, with BBU-RESEED after the first seeding, or integrates (R59 to R63). -/
def accountArrival (b : BbuId) (t : BbuTelemetry) (s : State) : State :=
  let u := s.bbus[b]
  if seeds s.time u then
    let s1 := putBbu b { u with stored := seedEnergy u t * 1000, seeded := true, firstSeedDone := true } s
    if u.firstSeedDone then post .bbuReseed (some (bbuSlotNo b).val) (some (seedEnergy u t)) s1 else s1
  else putBbu b { u with stored := integrate s.params.efficiency s.time u t } s

/-- The discharge delta the test sequencer is handed: none from a seeding (R59 step 5). -/
def handedDelta (now : Nat) (u : Bbu) (t : BbuTelemetry) : Nat :=
  if seeds now u then 0 else dischargeDelta now u t

/-- A change of state is reported to the budget and to the test sequencer (R58, R77, R84). -/
def reportBbuState (b : BbuId) (s : State) : State :=
  let s1 := recomputeGrants (recomputeFloor s)
  let s2 := if s1.budget.floorEff < s.budget.floorEff then tell s1 else s1
  testHearsState b s2

/-- Step 7 of an arrival, for the unit as it was before: a change of its state is reported (R58, R59). A unit that stays
CHARGING and awaited that is eligible again, and the grants are recomputed (R49; assumption log 38). -/
def reportArrival (b : BbuId) (old : Bbu) (s : State) : State :=
  if s.bbus[b].state ≠ old.state then reportBbuState b s
  else if old.awaitsCharging && !s.bbus[b].awaitsCharging then recomputeGrants s
  else s

/-- A battery telemetry arrival, its work in the order of R59. -/
def bbuArrival (b : BbuId) (payload : List Byte) (inService : Bool) (s : State) : State :=
  let old := s.bbus[b]
  let t := bbuTelemetryOf payload
  let state := bbuStateOf t inService
  let new :=
    { old with telemetry := some t, state := state, awaitsCharging := old.awaitsCharging && state != .charging }
  let s1 := putBbu b new s
  let s2 :=
    if bbuFaultNews old new then
      post .moduleFault (some (bbuSlotNo b).val) (some (bbuFaultCode t.fault)) s1
    else s1
  let s3 := accountArrival b t s2
  let s4 := putBbu b { s3.bbus[b] with lastArrival := some s.time } s3
  let s5 := testArrival b (handedDelta s.time old t) s4
  reportArrival b old (reserveChanged s5)

/-- A change of a battery slot's state without telemetry; the same state again is no change (R56, R58, R66). R and T_est
are handed on before the state is reported to the budget and the test sequencer: the rules order the two for an arrival
only (R59, steps 6 and 7), and the model takes that order here too (assumption log 40). -/
def bbuStateChange (b : BbuId) (u : Bbu) (s : State) : State :=
  let s1 := reserveChanged (putBbu b u s)
  if u.state = s.bbus[b].state then s1 else reportBbuState b s1

/-- A battery slot's presence is released (R56). -/
def bbuEmptied (b : BbuId) (s : State) : State :=
  bbuStateChange b
    { s.bbus[b] with state := .empty, telemetry := none, seeded := false, stored := 0, lastArrival := none,
                     grant := 0 } s

/-- A battery slot is declared silent (R56); a slot already SILENT stays there (R37). -/
def bbuSilenced (b : BbuId) (s : State) : State :=
  if s.bbus[b].state = .silent then s
  else bbuStateChange b { s.bbus[b] with state := .silent, seeded := false } s

/-- A battery slot's presence is asserted (R32, R56). -/
def bbuFitted (b : BbuId) (s : State) : State :=
  bbuStateChange b { s.bbus[b] with state := .silent, telemetry := none, seeded := false } s

end Sys2Proof.Machine
end

