-- ==== Sys2Proof/Machine/Roster.lean ====
section
/-! DEFINITION. The Rectifier Roster: rectifier telemetry and states without telemetry. -/
namespace Sys2Proof.Machine

/-- The telemetry of a rectifier reply's eight bytes, converted (R42); the reply's length has been tested (R36). -/
def rectTelemetryOf (p : List Byte) : RectTelemetry :=
  let byte (k : Nat) : Byte := p.getD k 0
  { output := min 8000 (u16 (byte 0) (byte 1))
    rated := min 8000 (u16 (byte 2) (byte 3))
    tempClass := min 3 (byte 4).toNat
    inputPresent := yes (byte 5).toNat
    outputOn := yes (byte 6).toNat
    fault := rectFaultOf (byte 7).toNat }

/-- The state a telemetry arrival gives a rectifier slot (R43). -/
def rectStateOf (t : RectTelemetry) (inService : Bool) : RectState :=
  if t.fault ≠ .none then .faulted
  else if !inService then .standby
  else if !t.inputPresent then .inputLost
  else if t.outputOn then .sourcing
  else .starting

/-- The fault code of the last arrival, none when there was no arrival. -/
def RectSlot.faultCode (r : RectSlot) : RectFault :=
  match r.telemetry with
  | some t => t.fault
  | none => .none

/-- An arrival that leaves the slot `new` after `old` posts MODULE-FAULT (R44). -/
def rectFaultNews (old new : RectSlot) : Bool :=
  new.state == .faulted && (old.state != .faulted || old.faultCode != new.faultCode)

/-- Stores a rectifier slot record. -/
def putRect (r : RectId) (x : RectSlot) (s : State) : State := { s with rects := s.rects.set r x }

/-- A rectifier telemetry arrival, its work in the order of R42. -/
def rectArrival (r : RectId) (payload : List Byte) (inService : Bool) (s : State) : State :=
  let old := s.rects[r]
  let t := rectTelemetryOf payload
  let new := { old with telemetry := some t, state := rectStateOf t inService }
  let s1 := putRect r new s
  let s2 :=
    if rectFaultNews old new then
      post .moduleFault (some (rectSlotNo r).val) (some (rectFaultCode t.fault)) s1
    else s1
  rosterRecompute s s2

/-- A change of a rectifier slot's state without telemetry (R43, R45, R46). -/
def rectStateChange (r : RectId) (x : RectSlot) (s : State) : State := rosterRecompute s (putRect r x s)

/-- A rectifier slot's presence is released (R43). -/
def rectEmptied (r : RectId) (s : State) : State :=
  rectStateChange r { s.rects[r] with state := .empty, telemetry := none } s

/-- A rectifier slot is declared silent; its telemetry is kept (R43). -/
def rectSilenced (r : RectId) (s : State) : State := rectStateChange r { s.rects[r] with state := .silent } s

/-- A rectifier slot's presence is asserted (R43). -/
def rectFitted (r : RectId) (s : State) : State :=
  rectStateChange r { s.rects[r] with state := .silent, telemetry := none } s

end Sys2Proof.Machine
end

