-- ==== Sys2Proof/Machine/Bus.lean ====
section
/-! DEFINITION. The Module Bus Controller: cycles, polls, misses, presence. -/
namespace Sys2Proof.Machine

/-- Changes the MBC's record. -/
def setBus (m : ModuleBus) (s : State) : State := { s with mbc := m }

/-- Stores the MBC's record of a module slot. -/
def putSlot (k : SlotId) (x : ModuleSlot) (s : State) : State :=
  setBus { s.mbc with slots := s.mbc.slots.set k x } s

/-- The service setting of a module slot. -/
def slotInService (s : State) (k : SlotId) : Bool :=
  match slotOwner k with
  | .inl r => s.rects[r].inService
  | .inr b => s.bbus[b].inService

/-- The payload of a poll, built from the slot's setpoints as they stand (R35, R40, R53). -/
def pollPayload (s : State) (k : SlotId) : List Byte :=
  match slotOwner k with
  | .inl r => leBool s.rects[r].inService
  | .inr b => le16 s.bbus[b].grant ++ leBool s.bbus[b].permit ++ le16 s.bbus[b].testPower

/-- The kind byte of a poll (Message and Record Layouts). -/
def pollKind (k : SlotId) : Byte := if k.val < 6 then 0x60 else 0x61

/-- The kind byte of the reply to a poll: the poll's kind plus 0x80 (R30). -/
def pollReplyKind (k : SlotId) : Byte := if k.val < 6 then 0xE0 else 0xE1

/-- The payload length of the reply to a poll (R36). -/
def pollReplyLength (k : SlotId) : Nat := if k.val < 6 then 8 else 7

/-- The bytes of the poll in flight on the wire (R30, R35). -/
def Poll.frame (p : Poll) : List Byte := frameBytes (slotStation p.slot) (pollKind p.slot) p.tag p.payload

/-- The poll of a slot is built, and its bytes go out with the bus driver enabled (R30, R35). -/
def startPoll (k : SlotId) (s : State) : State :=
  setBus
    { s.mbc with
      poll := some { slot := k, tag := s.mbc.tag, payload := pollPayload s k, inService := slotInService s k,
                     window := 0 }
      driver := true, tag := s.mbc.tag + 1 } s

/-- The last byte of the poll has gone: the driver is released, the framer hunts and the reply window opens (R30,
R35). -/
def pollSent (s : State) : State :=
  setBus
    { s.mbc with
      driver := false, framer := .hunt, poll := s.mbc.poll.map fun p => { p with window := Config.replyWindow } } s

/-- The poll of a slot is built and sent, and its reply window opens (R30, R35). The bytes take no time of the model's
clock (assumption log 19), so the driver is released again within the step. -/
def sendPoll (k : SlotId) (s : State) : State := pollSent (startPoll k s)

/-- The next poll of the schedule, or the end of the cycle, at which the roster is ready (R33, R39). A frame that has
begun but is not complete when its poll ends is dropped (R35). -/
def nextPoll (s : State) : State :=
  match s.mbc.schedule with
  | [] => setBus { s.mbc with poll := none, framer := .hunt, rosterReady := true } s
  | k :: rest => sendPoll k (setBus { s.mbc with schedule := rest } s)

/-- The test for the automatic run when the roster has become ready in the step from `s0` (R181). -/
def afterRoster (s0 s : State) : State :=
  if s.mbc.rosterReady && !s0.mbc.rosterReady then autoStartTest s else s

/-- The present slots in polling order (R33). -/
def presentSlots (s : State) : List SlotId := allSlots.filter fun k => s.mbc.slots[k].present

/-- The start of a bus cycle (R33, R34). -/
def startCycle (s : State) : State :=
  let period := s.mbc.stagedPeriod.getD s.params.period
  nextPoll
    (setBus { s.mbc with stagedPeriod := none, schedule := presentSlots s, nextCycle := s.time + period }
      { s with params := { s.params with period := period } })

/-- A bus cycle starts, unless a poll of the present one is in flight: no two cycles run at once (R33). -/
def busCycle (s : State) : State := if s.mbc.poll.isSome then s else afterRoster s (startCycle s)

/-- A frame that ends a poll is a valid reply to it (R36). The framer has taken it whole, so its header check is
good and no byte of it had an error. -/
def validReply (p : Poll) (station kind tag : Byte) (payload : List Byte) (check : BitVec 16) : Bool :=
  checkGood payload check && station == slotStation p.slot && kind == pollReplyKind p.slot && tag == p.tag &&
  payload.length == pollReplyLength p.slot

/-- The owner takes a slot's telemetry (R42, R59). -/
def ownerArrival (k : SlotId) (payload : List Byte) (inService : Bool) (s : State) : State :=
  match slotOwner k with
  | .inl r => rectArrival r payload inService s
  | .inr b => bbuArrival b payload inService s

/-- The owner hears that a slot is silent (R37). -/
def ownerSilenced (k : SlotId) (s : State) : State :=
  match slotOwner k with
  | .inl r => rectSilenced r s
  | .inr b => bbuSilenced b s

/-- The owner hears that a slot is empty (R32). -/
def ownerEmptied (k : SlotId) (s : State) : State :=
  match slotOwner k with
  | .inl r => rectEmptied r s
  | .inr b => bbuEmptied b s

/-- The owner hears that a slot is fitted (R32). -/
def ownerFitted (k : SlotId) (s : State) : State :=
  match slotOwner k with
  | .inl r => rectFitted r s
  | .inr b => bbuFitted b s

/-- A poll ended with a valid reply (R38). -/
def slotAnswers (k : SlotId) (payload : List Byte) (inService : Bool) (s : State) : State :=
  let x := s.mbc.slots[k]
  let s1 := putSlot k { x with missCount := 0, announced := false } s
  let s2 := if x.announced then post .moduleBack (some k.val) none s1 else s1
  ownerArrival k payload inService s2

/-- A poll ended as a miss; the miss that brings the count to 3 makes the slot silent (R37). -/
def slotMisses (k : SlotId) (s : State) : State :=
  let x := s.mbc.slots[k]
  if x.missCount < 2 then putSlot k { x with missCount := x.missCount + 1 } s
  else if x.missCount = 2 then
    let s1 := putSlot k { x with missCount := 3, announced := true } s
    let s2 := if x.announced then s1 else post .moduleSilent (some k.val) none s1
    ownerSilenced k s2
  else s

/-- The poll in flight ends as a miss: its window runs out, or the framer drops a frame (R35, R36). -/
def pollMissed (s : State) : State :=
  match s.mbc.poll with
  | none => s
  | some p => afterRoster s (slotMisses p.slot (nextPoll s))

/-- A frame taken whole ends the poll in flight; with none in flight the framer discards it (R35, R36). -/
def frameTaken (station kind tag : Byte) (payload : List Byte) (check : BitVec 16) (s : State) : State :=
  match s.mbc.poll with
  | none => s
  | some p =>
    if validReply p station kind tag payload check then
      afterRoster s (slotAnswers p.slot payload p.inService (nextPoll s))
    else pollMissed s

/-! ### The framer of the module bus -/

/-- Stores the bus framer. -/
def setFramer (f : BusFramer) (s : State) : State := setBus { s.mbc with framer := f } s

/-- The five header bytes are judged. A wrong one drops the frame, and a frame of any station is collected (R35). -/
def judgeBusHeader (bytes : List Byte) (s : State) : State :=
  match bytes with
  | [station, kind, tag, length, check] =>
    if crc8 [station, kind, tag, length] = check ∧ length.toNat ≤ Config.maxPayload then
      if length = 0 then frameTaken station kind tag [] 0 s
      else setFramer (.body station kind tag length.toNat []) s
    else pollMissed s
  | _ => s

/-- A byte on the module bus within a reply window (R35, R161). -/
def busByte (b : Byte) (s : State) : State :=
  match s.mbc.framer with
  | .hunt => if b = Config.marker then setFramer (.header []) s else s
  | .header bytes =>
    if bytes.length < 4 then setFramer (.header (bytes ++ [b])) s else judgeBusHeader (bytes ++ [b]) s
  | .body station kind tag length bytes =>
    let all := bytes ++ [b]
    if all.length < length + 2 then setFramer (.body station kind tag length all) s
    else frameTaken station kind tag (all.take length) (bodyCheck length all) s

/-- A byte error or a gap above 5 ms drops a frame that has begun, and with it the poll ends (R35). -/
def busBroken (s : State) : State :=
  match s.mbc.framer with
  | .hunt => s
  | .header _ => pollMissed s
  | .body _ _ _ _ _ => pollMissed s

/-- One event at the receiver. After the end of a poll it is discarded until the next poll (R35). -/
def busEvent (e : BusEvent) (s : State) : State :=
  if s.mbc.poll.isSome then
    match e with
    | .byte b => busByte b s
    | .byteError _ => busBroken s
    | .gap => busBroken s
  else s

/-- The events at the receiver in their order. What is still on the wire when the next poll's window opens is judged
within that window (R35). -/
def busHears (l : List BusEvent) (s : State) : State := l.foldl (fun s e => busEvent e s) s

/-- What comes in on the module bus (R35, R36). -/
def busReply (f : BusFrame) (s : State) : State :=
  match f with
  | .dropped => pollMissed s
  | .complete station kind tag payload check => frameTaken station kind tag payload check s
  | .heard events => busHears events s

/-- A module's presence input is released (R32). -/
def moduleReleased (k : SlotId) (s : State) : State :=
  let s1 :=
    putSlot k { present := false, missCount := 0, announced := false }
      (setBus { s.mbc with schedule := s.mbc.schedule.filter fun j => j != k } s)
  let s2 :=
    match s1.mbc.poll with
    | some p => if p.slot = k then nextPoll s1 else s1
    | none => s1
  afterRoster s (ownerEmptied k s2)

/-- A module's presence input is asserted (R32). A slot that is present already has seen no assertion (assumption
log 4). -/
def moduleAsserted (k : SlotId) (s : State) : State :=
  if s.mbc.slots[k].present then s
  else ownerFitted k (putSlot k { present := true, missCount := 0, announced := false } s)

end Sys2Proof.Machine
end

