-- ==== Sys2Proof/Machine/Leak.lean ====
section
/-! DEFINITION. The Leak Monitor: samples, the channel state machine, alarms, escalation, lockouts and valves. -/
namespace Sys2Proof.Machine

/-- Stores a channel record. -/
def putChannel (c : ChannelId) (x : Channel) (s : State) : State := { s with channels := s.channels.set c x }
/-- Stores a loop record. -/
def putLoop (l : LoopId) (x : Loop) (s : State) : State := { s with loops := s.loops.set l x }

/-! ### Samples -/

/-- The class of a sample (R130). -/
def sampleClass (r : CableReading) : SampleClass :=
  match r.continuity, r.leak with
  | true, false => .dry
  | true, true => .wet
  | false, false => .opened
  | false, true => .crossed

/-- The runs and the sample count after a sample (R130). -/
def updateRuns (k : SampleClass) (x : Channel) : Channel :=
  let y := { x with samples := countUp 255 x.samples }
  match k with
  | .dry => { y with dryStreak := countUp 255 x.dryStreak, wetRun := 0, faultRun := 0 }
  | .wet => { y with wetRun := countUp 255 x.wetRun, faultRun := 0, dryStreak := 0 }
  | .opened => { y with faultRun := countUp 255 x.faultRun, wetRun := 0, dryStreak := 0 }
  | .crossed => { y with faultRun := countUp 255 x.faultRun, wetRun := 0, dryStreak := 0 }

/-- The state that a WET sample gives a channel on its way through SUSPECT (R131). -/
def wetState (x : Channel) : ChannelState := if x.cfg.nC ≤ x.wetRun then .alarm else .suspect

/-- The state that a fault sample gives a DRY or SUSPECT channel (R131). -/
def faultState (x : Channel) : ChannelState := if x.cfg.nF ≤ x.faultRun then .cableFault else x.state

/-- The channel after its state is evaluated against the sample's class, the runs already updated (R131, R132). -/
def evalChannel (k : SampleClass) (x : Channel) : Channel :=
  match x.state, k with
  | .disabled, _ => x
  | .dry, .dry => x
  | .dry, .wet => { x with state := wetState x }
  | .dry, _ => { x with state := faultState x }
  | .suspect, .dry => { x with state := .dry, transients := countUp 65535 x.transients }
  | .suspect, .wet => { x with state := wetState x }
  | .suspect, _ => { x with state := faultState x }
  | .cableFault, .dry => { x with state := if x.cfg.nF ≤ x.dryStreak then .dry else .cableFault }
  | .cableFault, .wet => { x with state := wetState x }
  | .cableFault, _ => x
  | .alarm, .dry => x
  | .alarm, .wet => x
  | .alarm, _ => if x.cfg.nF ≤ x.faultRun then { x with cableFlag := true } else x

/-- A channel after one sample (R130 to R132). -/
def sampleChannel (r : CableReading) (x : Channel) : Channel :=
  evalChannel (sampleClass r) (updateRuns (sampleClass r) x)

/-! ### Lockouts -/

/-- The tray must carry LEAK (R135). -/
def mustLeak (s : State) (i : TrayId) : Bool :=
  allChannels.any fun c =>
    s.channels[c].cfg.trays.contains i &&
    ((s.channels[c].state == .alarm && s.channels[c].cfg.isolate) ||
     (s.channels[c].cfg.enabled && s.loops[s.channels[c].cfg.loop].escalated))

/-- The trays that must gain LEAK (R135). -/
def leakGains (s : State) : List TrayId := allTrays.filter fun i => mustLeak s i && !s.trays[i].locks.leak
/-- The trays that must lose LEAK (R135). -/
def leakLosses (s : State) : List TrayId := allTrays.filter fun i => !mustLeak s i && s.trays[i].locks.leak

/-- The LEAK lockouts are recomputed and the two lists applied whole; budget and sequencer follow (R17, R135;
assumption log 11). -/
def leakRecompute (s : State) : State :=
  propagate s (putTrays (leakLosses s) freeLeak (putTrays (leakGains s) isolateTray s))

/-! ### Valves -/

/-- The valve of a loop is required closed (R139). -/
def requiredClosed (s : State) (l : LoopId) : Bool :=
  s.loops[l].escalated ||
  allChannels.any fun c =>
    s.channels[c].state == .alarm && s.channels[c].cfg.loop == l && s.channels[c].cfg.closeValve

/-- The valve has closed: VALVE-CLOSED is posted (R143). -/
def valveReachesClosed (l : LoopId) (s : State) : State :=
  post .valveClosed (some l.val) none (putLoop l { s.loops[l] with valve := .closed, travel := none } s)

/-- The valve has opened (R143). -/
def valveReachesOpen (l : LoopId) (s : State) : State :=
  putLoop l { s.loops[l] with valve := .opened, travel := none } s

/-- The drive is asserted and the valve enters CLOSING, or CLOSED at once when its closed switch is made (R141). -/
def startClosing (l : LoopId) (s : State) : State :=
  let x := s.loops[l]
  let s1 := putLoop l { x with drive := true, valve := .closing, travel := some (s.params.valveTravel * 1000) } s
  if x.closedSwitch then valveReachesClosed l s1 else s1

/-- The drive is released and the valve enters OPENING, or OPEN at once when its open switch is made (R142). -/
def startOpening (l : LoopId) (s : State) : State :=
  let x := s.loops[l]
  let s1 := putLoop l { x with drive := false, valve := .opening, travel := some (s.params.valveTravel * 1000) } s
  if x.openSwitch then valveReachesOpen l s1 else s1

/-- The close command (R141). -/
def closeCommand (l : LoopId) (s : State) : State :=
  match s.loops[l].valve with
  | .opened => startClosing l s
  | .opening => startClosing l s
  | .stuck => startClosing l s
  | .closing => s
  | .closed => s

/-- The opening of a valve that is not required closed (R142). -/
def openCommand (l : LoopId) (s : State) : State :=
  match s.loops[l].valve with
  | .closed => startOpening l s
  | .closing => startOpening l s
  | .stuck => startOpening l s
  | .opened => s
  | .opening => s

/-- The level of an end switch recorded in the loop record (R139). -/
def recordSwitch (l : LoopId) (sw : EndSwitch) (made : Bool) (s : State) : State :=
  match sw with
  | .opened => putLoop l { s.loops[l] with openSwitch := made } s
  | .closed => putLoop l { s.loops[l] with closedSwitch := made } s

/-- An end switch edge (R143). -/
def switchEdge (l : LoopId) (sw : EndSwitch) (made : Bool) (s : State) : State :=
  let s1 := recordSwitch l sw made s
  let x := s1.loops[l]
  if made then
    match sw with
    | .closed =>
      if x.valve = .closing ∨ (x.valve = .stuck ∧ x.drive = true) then valveReachesClosed l s1 else s1
    | .opened =>
      if x.valve = .opening ∨ (x.valve = .stuck ∧ x.drive = false) then valveReachesOpen l s1 else s1
  else s1

/-- The travel timer expires: the valve is STUCK and keeps its drive (R143). -/
def travelExpires (l : LoopId) (s : State) : State :=
  let x := s.loops[l]
  let s1 := putLoop l { x with valve := .stuck, travel := none } s
  match x.valve with
  | .closing => post .valveStuck (some l.val) (some 0) s1
  | .opening => post .valveStuck (some l.val) (some 1) s1
  | .opened => s
  | .closed => s
  | .stuck => s

/-! ### Alarms -/

/-- The number of a loop's channels in ALARM (R134). -/
def alarmsIn (s : State) (l : LoopId) : Nat :=
  (allChannels.filter fun c => s.channels[c].state == .alarm && s.channels[c].cfg.loop == l).length

/-- A loop's escalation is evaluated (R134). -/
def evalEscalation (l : LoopId) (s : State) : State :=
  let n := alarmsIn s l
  if s.loops[l].escalated then
    if n < 2 then putLoop l { s.loops[l] with escalated := false } s else s
  else if 2 ≤ n then
    post .loopEscalated (some l.val) (some n) (putLoop l { s.loops[l] with escalated := true } s)
  else s

/-- What an entry to ALARM does, the channel's record already in ALARM (R133). -/
def raiseAlarm (c : ChannelId) (s : State) : State :=
  let l := s.channels[c].cfg.loop
  let s1 := post .leakAlarm (some c.val) (some l.val) s
  let s2 := leakRecompute (evalEscalation l s1)
  if s.channels[c].cfg.closeValve || s2.loops[l].escalated then closeCommand l s2 else s2

/-- What follows a sample that made the channel's record `new` from `old` (R131 to R133). -/
def afterSample (c : ChannelId) (old new : Channel) (s : State) : State :=
  if new.state = .alarm ∧ old.state ≠ .alarm then raiseAlarm c s
  else if new.state = .cableFault ∧ old.state ≠ .cableFault then post .leakCableFault (some c.val) (some 0) s
  else if new.cableFlag && !old.cableFlag then post .leakCableFault (some c.val) (some 1) s
  else s

/-- One channel is sampled when it is enabled, and everything its sample leads to is done (R129). -/
def takeSample (readings : Vector CableReading 12) (c : ChannelId) (s : State) : State :=
  let old := s.channels[c]
  if old.cfg.enabled then
    let new := sampleChannel readings[c] old
    autoStartTest (afterSample c old new (putChannel c new s))
  else s

/-- A scan pass: a staged interval becomes active, the next pass is due one interval on, and the channels are sampled in
order (R129). -/
def scan (readings : Vector CableReading 12) (s : State) : State :=
  let interval := s.stagedScan.getD s.params.scanInterval
  let s1 :=
    { s with params := { s.params with scanInterval := interval }, stagedScan := none,
             nextScan := s.time + interval }
  allChannels.foldl (fun s c => takeSample readings c s) s1

/-- A channel's release from ALARM (R136). -/
def releaseChannel (c : ChannelId) (s : State) : State :=
  let x := s.channels[c]
  let s1 := putChannel c { x with state := .dry, cableFlag := false } s
  let s2 := leakRecompute (evalEscalation x.cfg.loop s1)
  post .leakReleased (some c.val) (some x.cfg.loop.val) s2

/-- A channel record under a new configuration (R137). -/
def configureChannel (cfg : ChannelConfig) (x : Channel) : Channel :=
  if cfg.enabled then
    { x with cfg := cfg, state := .dry, wetRun := 0, faultRun := 0, dryStreak := 0, samples := 0,
             transients := if x.state = .disabled then 0 else x.transients }
  else { x with cfg := cfg, state := .disabled }

end Sys2Proof.Machine
end

