-- ==== Sys2Proof/Machine/Reports.lean ====
section
/-! DEFINITION. The reply payloads of the status reports (R172 to R175 and the layouts of R182). -/
namespace Sys2Proof.Machine

/-- IDENTIFY (R168). -/
def identifyPayload (s : State) : List Byte :=
  le16 Config.vendorCode ++ le16 Config.partCode ++ le8 Config.revision ++ le8 s.hli.station

/-- The seconds left of a millisecond timer, 0 when stopped, rounded down (assumption log 22). -/
def secondsLeft (t : Option Nat) : Nat := timeLeft t / 1000

/-- GET-LINK-STATUS, `armed` being whether a target was held when the request was taken (R167). -/
def linkStatusPayload (armed : Bool) (s : State) : List Byte :=
  le16 s.hli.headerErrors ++ le16 s.hli.payloadErrors ++ le16 s.hli.byteErrors ++ le16 s.hli.timeouts ++
  le16 s.hli.overruns ++ le8 s.hli.station ++ le8 (rateCode s.hli.rate) ++ le16 s.params.hostSilence ++
  le16 (secondsLeft s.hli.silence) ++ leBool armed

/-- The number of channels in ALARM (R172). -/
def alarmCount (s : State) : Nat := (allChannels.filter fun c => s.channels[c].state == .alarm).length

/-- The queue that belongs to the run's direction (R108). -/
def activeQueue (r : RunRecord) : List TrayId :=
  match r.direction with
  | .up => r.startQueue
  | .down => r.stopQueue

/-- GET-SHELF-STATUS (R172). -/
def shelfStatusPayload (s : State) : List Byte :=
  le8 (shelfStateCode s.ilc.state) ++ le8 s.ilc.stage ++ le16 s.tEst ++ le32 s.reserve ++ le16 s.budget.c ++
  le32 s.kT ++ le32 s.kLive ++ le16 s.grantTotal ++ le8 (redundancyCode s.redundancy) ++
  le8 (directionCode s.run.direction) ++ le8 (runStateCode s.run.state) ++
  optByte (s.run.blocked.map blockedCode) ++ le8 (activeQueue s.run).length ++ le8 s.inrushCount ++
  le8 (alarmCount s) ++ le8 (bitSum (allLoops.map fun l => s.loops[l].escalated)) ++
  le8 s.notices.records.length ++ le8 s.notices.lost ++ le8 (resetKindCode s.store.lastReset) ++
  le8 s.store.warmCount ++ le8 (bitSum [s.mbc.rosterReady, s.store.valid, s.saveInFlight])

/-- A notice record, its age in whole seconds at most 65535 (R171). -/
def noticeBytes (now : Nat) (n : Notice) : List Byte :=
  le8 (noticeKindCode n.kind) ++ optByte n.subject ++ optValue n.value ++
  le16 (min 65535 ((now - n.time) / 1000))

/-- The notices that TAKE-NOTICES with this count takes (R171). -/
def taken (count : Nat) (s : State) : List Notice := s.notices.records.take (clamp 1 8 count)
/-- The notices that it leaves (R171). -/
def untaken (count : Nat) (s : State) : List Notice := s.notices.records.drop (clamp 1 8 count)

/-- TAKE-NOTICES (R171). -/
def noticesPayload (count : Nat) (s : State) : List Byte :=
  le8 (taken count s).length ++ le8 (untaken count s).length ++ le8 s.notices.lost ++
  (taken count s).flatMap (noticeBytes s.time)

/-- One tray in GET-TRAYS (R173). -/
def trayBytes (s : State) (i : TrayId) : List Byte :=
  let t := s.trays[i]
  le8 (trayStateCode t.state) ++ le8 (lockBits t.locks) ++
  le8 (bitSum [t.owner == .manual, t.present, t.retryPending, t.staged.isSome, t.enable, s.pins.pg[i]]) ++
  le8 t.retriesUsed ++ optByte (t.cause.map failureCauseCode) ++ le16 t.counted

/-- The count of GET-TRAYS after clamping: no tray above T23 is named (R173). -/
def traysCount (first count : Nat) : Nat := min (clamp 1 24 count) (24 - first)

/-- GET-TRAYS (R173). -/
def traysPayload (first count : Nat) (s : State) : List Byte :=
  let n := traysCount first count
  le8 first ++ le8 n ++
  (allTrays.filter fun i => decide (first ≤ i.val) && decide (i.val < first + n)).flatMap (trayBytes s)

/-- GET-TRAY-CONFIG (R20). -/
def trayConfigPayload (i : TrayId) (s : State) : List Byte :=
  le8 i.val ++ trayConfigBytes s.trays[i].cfg ++ leBool s.trays[i].staged.isSome ++
  match s.trays[i].staged with
  | some c => trayConfigBytes c
  | none => List.replicate 14 0

/-- One rectifier slot in GET-ROSTER (R174, R182). -/
def rectBytes (s : State) (r : RectId) : List Byte :=
  let x := s.rects[r]
  let m := s.mbc.slots[rectSlotNo r]
  let flag (f : RectTelemetry → Bool) : Bool := (x.telemetry.map f).getD false
  le8 (rectStateCode x.state) ++
  le8 (bitSum [x.inService, flag (·.inputPresent), flag (·.outputOn), m.announced, x.telemetry.isSome]) ++
  optPower (x.telemetry.map (·.output)) ++ optPower (x.telemetry.map (·.rated)) ++
  optByte (x.telemetry.map (·.tempClass)) ++ optByte (x.telemetry.map fun t => rectFaultCode t.fault) ++
  le16 x.usablePower ++ le8 m.missCount

/-- GET-ROSTER (R174). -/
def rosterPayload (s : State) : List Byte :=
  allRects.flatMap (rectBytes s) ++ le8 (policyCode s.params.policy) ++ le16 s.budget.c ++ le16 s.lMeas ++
  le8 (redundancyCode s.redundancy)

/-- One BBU in GET-BATTERIES (R174, R182). -/
def bbuBytes (s : State) (b : BbuId) : List Byte :=
  let u := s.bbus[b]
  le8 (bbuStateCode u.state) ++ le8 (bitSum [u.inService, u.seeded, u.permit]) ++
  le8 s.mbc.slots[bbuSlotNo b].missCount ++ le32 (u.stored / 1000) ++ le32 u.eFull ++ le32 (s.usable b) ++
  optSigned (u.telemetry.map (·.power)) ++ optByte (u.telemetry.map (·.soc)) ++
  optByte (u.telemetry.map fun t => t.fullFlag.toNat) ++ optByte (u.telemetry.map fun t => t.cutoff.toNat) ++
  optTemp (u.telemetry.map (·.cellTemp)) ++ optByte (u.telemetry.map fun t => bbuFaultCode t.fault) ++
  le16 u.grant ++ le16 u.testPower

/-- GET-BATTERIES (R174). -/
def batteriesPayload (s : State) : List Byte :=
  allBbus.flatMap (bbuBytes s) ++ le32 s.reserve ++ le16 s.lDis ++ le16 s.tEst

/-- GET-BBU-CONFIG (R71). -/
def bbuConfigPayload (b : BbuId) (s : State) : List Byte :=
  let u := s.bbus[b]
  le8 b.val ++ le32 u.eRated ++ le16 u.maxCharge ++ le32 u.eFull ++ leBool u.inService

/-- The scope fields of GET-RUN-STATUS. The fields that the scope kind does not use are free (assumption log 1). -/
def scopeBytes (s : State) : List Byte :=
  let free (k : Nat) : Byte := Config.freeByte (s.freeCount + k)
  match s.run.scope with
  | .all => le8 0 ++ [free 0, free 1, free 2, free 3, free 4]
  | .ranks lo hi => le8 1 ++ le8 lo ++ le8 hi ++ [free 2, free 3, free 4]
  | .trays set => le8 2 ++ [free 0, free 1] ++ trayBits set

/-- GET-RUN-STATUS (R125). -/
def runStatusPayload (s : State) : List Byte :=
  le8 (directionCode s.run.direction) ++ le8 (runStateCode s.run.state) ++ scopeBytes s ++
  optByte (s.run.blocked.map blockedCode) ++ le16 (timeLeft s.run.startSpacing) ++
  le16 (timeLeft s.run.stopSpacing) ++ le8 s.inrushCount ++ le8 (activeQueue s.run).length ++
  (activeQueue s.run).flatMap (fun i => le8 i.val) ++ trayBits s.run.members ++ le8 s.run.stoppedCount

/-- GET-INPUT-STATUS (R105). -/
def inputStatusPayload (s : State) : List Byte :=
  le8 (shelfStateCode s.ilc.state) ++ le8 s.ilc.stage ++ leBool s.ilc.ifail ++ le16 (timeLeft s.ilc.qualify) ++
  le32 (timeLeft s.ilc.restore) ++ le32 s.ilc.lastR ++ le16 s.ilc.lastTEst ++ le16 s.ilc.sagCount ++
  le16 s.ilc.lastSag ++ le16 s.ilc.longestSag

/-- One channel in GET-LEAK (R175). -/
def channelBytes (x : Channel) : List Byte :=
  le8 (channelStateCode x.state) ++ le8 x.wetRun ++ le8 x.faultRun ++ le8 x.dryStreak ++ le8 x.samples ++
  le16 x.transients ++ leBool x.cableFlag

/-- One loop in GET-LEAK (R175). -/
def loopBytes (x : Loop) : List Byte :=
  le8 (valveStateCode x.valve) ++ le8 (bitSum [x.drive, x.openSwitch, x.closedSwitch, x.escalated]) ++
  le16 (timeLeft x.travel)

/-- GET-LEAK (R175). -/
def leakPayload (s : State) : List Byte :=
  allChannels.flatMap (fun c => channelBytes s.channels[c]) ++ allLoops.flatMap (fun l => loopBytes s.loops[l])

/-- GET-LEAK-CHANNEL, the tray set in ascending order (R138). -/
def leakChannelPayload (c : ChannelId) (s : State) : List Byte :=
  let g := s.channels[c].cfg
  le8 c.val ++ leBool g.enabled ++ le8 g.loop.val ++ leBool g.isolate ++ leBool g.closeValve ++ le8 g.nC ++
  le8 g.nF ++ le8 g.trays.length ++ g.trays.flatMap (fun i => le8 i.val)

/-- Milliseconds left on the prepare timer (R175). -/
def prepareLeft : PrepareTimer → Nat
  | .stopped => 0
  | .running n => n
  | .paused n => n

/-- GET-TEST (R175). -/
def testPayload (s : State) : List Byte :=
  le8 (testPhaseCode s.test.phase) ++ optByte (s.test.target.map (·.val)) ++ leBool s.test.suspended ++
  le16 s.test.testPower ++ le32 (prepareLeft s.test.prepare) ++ le32 (s.test.eMeas / 1000) ++
  optByte (s.test.outcome.map testOutcomeCode) ++ optByte s.test.health

/-- The value of a parameter as GET-SHELF-PARAM returns it: the staged value while one waits (R34, R129, R183). -/
def workingParam (s : State) (ident : Nat) : Nat :=
  if ident = 0 then s.mbc.stagedPeriod.getD s.params.period
  else if ident = 17 then s.stagedScan.getD s.params.scanInterval
  else paramGet s.params ident

/-- GET-SHELF-PARAM (R183). -/
def paramPayload (ident : Nat) (s : State) : List Byte := le8 ident ++ le32 (workingParam s ident)

end Sys2Proof.Machine
end

