-- ==== Sys2Proof/Machine/Profile.lean ====
section
/-! DEFINITION. What a setting does when it is taken, by its request or by LOAD-PROFILE; the Profile Store. -/
namespace Sys2Proof.Machine

/-- The silence timer starts again at the full setting (R166). -/
def restartSilence (s : State) : State :=
  { s with hli := { s.hli with silence := silenceStart s.params.hostSilence } }

/-- A shelf parameter in its range is taken (R183 and the rule of its owner). -/
def applyParam (ident value : Nat) (s : State) : State :=
  let s1 := setParams (paramPut s.params ident value) s
  let fell := decide (value < paramGet s.params ident)
  match ident with
  | 0 => setBus { s.mbc with stagedPeriod := some value } s
  | 1 => rosterRecompute s s1
  | 2 => let s2 := recomputeGrants s1; if fell then tell s2 else s2
  | 3 =>
    let s2 := recomputeFloor s1
    if fell || decide (s2.budget.floorEff < s.budget.floorEff) then tell s2 else s2
  | 4 => if fell then tell s1 else s1
  | 6 => reserveChanged s1
  | 9 => if s1.ilc.state = .rideThrough then evalStage s1 else s1
  | 10 => if s1.ilc.state = .rideThrough then evalStage s1 else s1
  | 11 => if s1.ilc.state = .rideThrough then evalStage s1 else s1
  | 12 => if paramGet s.params ident < value then tell s1 else s1
  | 17 => { s with stagedScan := some value }
  | 22 => restartSilence s1
  | _ => s1

/-- A tray configuration in its ranges is taken: active in OFF, staged in any other state (R19). -/
def applyTrayConfig (i : TrayId) (c : TrayConfig) (s : State) : State :=
  let t := s.trays[i]
  if t.state = .off then putTray i { t with cfg := c, staged := none } s
  else putTray i { t with staged := some c } s

/-- A BBU configuration in its ranges is taken; an E_full of 0 keeps the learned value (R70). -/
def applyBbuConfig (b : BbuId) (eRated maxCharge eFull : Nat) (s : State) : State :=
  let u := s.bbus[b]
  let full := if eFull = 0 then u.eFull else eFull
  recomputeGrants
    (reserveChanged
      (putBbu b { u with eRated := eRated, maxCharge := maxCharge, eFull := full,
                         stored := min u.stored (full * 1000) } s))

/-- A channel configuration in its ranges is put in force; the lockouts are recomputed by the caller (R137). -/
def applyChannelConfig (c : ChannelId) (cfg : ChannelConfig) (s : State) : State :=
  putChannel c (configureChannel cfg s.channels[c]) s

/-! ### The profile -/

/-- The working configuration as it stands (R176). -/
def workingConfig (s : State) : WorkingConfig :=
  { trays := Vector.ofFn fun i => s.trays[i].cfg
    bbus := Vector.ofFn fun b =>
      { eRated := s.bbus[b].eRated, maxCharge := s.bbus[b].maxCharge, eFull := s.bbus[b].eFull }
    channels := Vector.ofFn fun c => s.channels[c].cfg
    params := { s.params with period := workingParam s 0, scanInterval := workingParam s 17 } }

/-- The CRC-16 over the rest of an image (R160, R176). -/
def imageCheck (format : Byte) (config : WorkingConfig) : BitVec 16 := crc16 (imageBytes format config)

/-- The image of a working configuration, in this part's format and with its check (R176, R177). -/
def buildImage (config : WorkingConfig) : StoredImage :=
  { format := imageFormat, config := config, check := imageCheck imageFormat config }

/-- An image is of this part's format, and its check is right (R176). -/
def imageGood (i : StoredImage) : Bool := i.format == imageFormat && i.check == imageCheck i.format i.config

/-- The profile is valid: the image can be read, is of this part's format, and its check is right (R176). -/
def imageValid (p : ProfileStore) : Bool := p.image.any imageGood

/-- The working configuration that a cold reset takes (R176, R181). -/
def bootConfig (p : ProfileStore) : WorkingConfig :=
  match p.image with
  | some i => if imageGood i then i.config else defaultConfig
  | none => defaultConfig

/-- A save begins (R177). -/
def beginSave (s : State) : State :=
  { s with store := { s.store with saving := some (buildImage (workingConfig s)), image := none, valid := false } }

/-- A save ends (R177). -/
def endSave (how : SaveOutcome) (s : State) : State :=
  match s.store.saving with
  | none => s
  | some built =>
    match how with
    | .equal =>
      post .profileSaved none none
        { s with store := { s.store with saving := none, image := some built, valid := true } }
    | .different => post .profileSaveFailed none none { s with store := { s.store with saving := none } }
    | .writeFailure => post .profileSaveFailed none none { s with store := { s.store with saving := none } }

/-- A stored channel configuration brought into its ranges (R137, R178). -/
def clampChannelConfig (g : ChannelConfig) : ChannelConfig :=
  { g with nC := clamp 1 16 g.nC, nF := clamp 1 16 g.nF }

/-- Some stored value lies outside its range (R178). -/
def profileClamped (w : WorkingConfig) : Bool :=
  (allTrays.any fun i => trayConfigClamped (rawOfTrayConfig w.trays[i])) ||
  (allBbus.any fun b =>
    !(inRange 10000 4000000 w.bbus[b].eRated && inRange 0 3000 w.bbus[b].maxCharge &&
      inRange 1000 4000000 w.bbus[b].eFull)) ||
  (allChannels.any fun c => !(inRange 1 16 w.channels[c].nC && inRange 1 16 w.channels[c].nF)) ||
  ((List.range 23).any fun k => paramClamped k (paramGet w.params k))

/-- The whole working configuration is replaced by a stored one, each value by the rule of its request (R178; the
order of the values is assumption log 23). -/
def loadConfig (w : WorkingConfig) (s : State) : State :=
  let s1 := allTrays.foldl
    (fun s i => applyTrayConfig i (clampTrayConfig (rawOfTrayConfig w.trays[i])) s) s
  let s2 := allBbus.foldl
    (fun s b =>
      applyBbuConfig b (clamp 10000 4000000 w.bbus[b].eRated) (clamp 0 3000 w.bbus[b].maxCharge)
        (clamp 1000 4000000 w.bbus[b].eFull) s) s1
  let s3 := leakRecompute
    (allChannels.foldl (fun s c => applyChannelConfig c (clampChannelConfig w.channels[c]) s) s2)
  let s4 := (List.range 23).foldl (fun s k => applyParam k (paramClamp k (paramGet w.params k)) s) s3
  autoStartTest s4

end Sys2Proof.Machine
end

