-- ==== Sys2Proof/Machine/Answers.lean ====
section
/-! DEFINITION. What each request does and how the owning block answers it: one definition a request, its refusals in
the order of its rule. -/
namespace Sys2Proof.Machine

/-- A refusal: the part is as it was. -/
def refuse (code : RefusalCode) (s : State) : Answer × State := (.refused code, s)
/-- An ACK without flags. -/
def ack (s : State) : Answer × State := (.ack false false, s)
/-- A DATA reply. -/
def answerData (payload : List Byte) (s : State) : Answer × State := (.data payload, s)

/-- The tray of an index. -/
def trayOf (n : Nat) : Option TrayId := if h : n < 24 then some ⟨n, h⟩ else none
/-- The battery slot of an index. -/
def bbuOf (n : Nat) : Option BbuId := if h : n < 6 then some ⟨n, h⟩ else none
/-- The module slot of a number. -/
def slotOf (n : Nat) : Option SlotId := if h : n < 12 then some ⟨n, h⟩ else none
/-- The leak channel of an index. -/
def channelOf (n : Nat) : Option ChannelId := if h : n < 12 then some ⟨n, h⟩ else none
/-- The loop of an index. -/
def loopOf (n : Nat) : Option LoopId := if h : n < 4 then some ⟨n, h⟩ else none

/-- A request on the tray of an index, refused BAD-INDEX when there is none. -/
def onTray (n : Nat) (f : TrayId → State → Answer × State) (s : State) : Answer × State :=
  match trayOf n with
  | some i => f i s
  | none => refuse .badIndex s
/-- A request on the battery slot of an index, refused BAD-INDEX when there is none. -/
def onBbu (n : Nat) (f : BbuId → State → Answer × State) (s : State) : Answer × State :=
  match bbuOf n with
  | some b => f b s
  | none => refuse .badIndex s
/-- A request on the channel of an index, refused BAD-INDEX when there is none. -/
def onChannel (n : Nat) (f : ChannelId → State → Answer × State) (s : State) : Answer × State :=
  match channelOf n with
  | some c => f c s
  | none => refuse .badIndex s
/-- A request on the loop of an index, refused BAD-INDEX when there is none. -/
def onLoop (n : Nat) (f : LoopId → State → Answer × State) (s : State) : Answer × State :=
  match loopOf n with
  | some l => f l s
  | none => refuse .badIndex s

/-! ### The link -/

/-- IDENTIFY (R168). -/
def answerIdentify (s : State) : Answer × State := answerData (identifyPayload s) s

/-- The five link counters at 0 (R167). -/
def clearLinkCounters (s : State) : State :=
  { s with hli := { s.hli with headerErrors := 0, payloadErrors := 0, byteErrors := 0, timeouts := 0,
                               overruns := 0 } }

/-- GET-LINK-STATUS; the counters are cleared after the reply is built (R167). -/
def answerGetLinkStatus (clear : Nat) (armed : Option ArmTarget) (s : State) : Answer × State :=
  answerData (linkStatusPayload armed.isSome s) (if yes clear then clearLinkCounters s else s)

/-- ARM: the old target is gone already; the new one is set, or none is on a refusal (R165). -/
def answerArm (target channel : Nat) (s : State) : Answer × State :=
  if target = 0 then ack { s with hli := { s.hli with arm := some .restart } }
  else if target = 1 ∧ channel ≤ 11 then
    ack { s with hli := { s.hli with arm := some (.leakRelease channel) } }
  else refuse .badIndex s

/-- RESTART: the warm reset waits for the last byte of the ACK (R180). -/
def answerRestart (armed : Option ArmTarget) (s : State) : Answer × State :=
  if armed ≠ some .restart then refuse .notArmed s
  else if s.saveInFlight then refuse .busy s
  else ack { s with store := { s.store with restart := .ackSending } }

/-! ### Status, notices, profile, parameters -/

/-- GET-SHELF-STATUS (R172). -/
def answerGetShelfStatus (s : State) : Answer × State := answerData (shelfStatusPayload s) s

/-- TAKE-NOTICES (R171). -/
def answerTakeNotices (count : Nat) (s : State) : Answer × State :=
  answerData (noticesPayload count s) { s with notices := { records := untaken count s, lost := 0 } }

/-- SAVE-PROFILE (R177). -/
def answerSaveProfile (s : State) : Answer × State :=
  if s.saveInFlight then refuse .busy s else ack (beginSave s)

/-- LOAD-PROFILE (R178). -/
def answerLoadProfile (s : State) : Answer × State :=
  if s.saveInFlight then refuse .busy s
  else if s.run.state ≠ .idle ∨ s.ilc.state ≠ .normal then refuse .wrongState s
  else if s.test.suspended then refuse .wrongState s
  else if alarmCount s ≠ 0 then refuse .leakActive s
  else if s.store.valid then
    match s.store.image with
    | some i => (.ack (profileClamped i.config) false, loadConfig i.config s)
    | none => refuse .wrongState s
  else refuse .wrongState s

/-- GET-SHELF-PARAM (R183). -/
def answerGetShelfParam (ident : Nat) (s : State) : Answer × State :=
  if 22 < ident then refuse .badIndex s else answerData (paramPayload ident s) s

/-- SET-SHELF-PARAM (R183). -/
def answerSetShelfParam (ident value : Nat) (s : State) : Answer × State :=
  if 22 < ident then refuse .badIndex s
  else if s.saveInFlight then refuse .busy s
  else (.ack (paramClamped ident value) false, applyParam ident (paramClamp ident value) s)

/-! ### Trays -/

/-- GET-TRAYS (R173). -/
def answerGetTrays (first count : Nat) (s : State) : Answer × State :=
  if 23 < first then refuse .badIndex s else answerData (traysPayload first count s) s

/-- GET-TRAY-CONFIG (R20). -/
def answerGetTrayConfig (tray : Nat) (s : State) : Answer × State :=
  onTray tray (fun i s => answerData (trayConfigPayload i s) s) s

/-- SET-TRAY-CONFIG (R19). -/
def answerSetTrayConfig (tray : Nat) (cfg : RawTrayConfig) (s : State) : Answer × State :=
  onTray tray
    (fun i s =>
      if s.saveInFlight then refuse .busy s
      else
        (.ack (trayConfigClamped cfg) (s.trays[i].state != .off), applyTrayConfig i (clampTrayConfig cfg) s)) s

/-- A MANUAL start (R7, R22). An asserted PG counts as a rise that follows the entry. -/
def manualStart (i : TrayId) (s : State) : State :=
  let s1 := afterBudget s (putTray i (enterInrush s.trays[i]) s)
  if s1.pins.pg[i] then propagate s1 (trayPgRise i s1) else s1

/-- TRAY-CONTROL on (R22). -/
def trayOn (i : TrayId) (s : State) : Answer × State :=
  let t := s.trays[i]
  if s.ilc.state ≠ .normal then refuse .held s
  else if !t.locks.isEmpty || t.state == .failed then refuse .lockedOut s
  else if t.state ≠ .off ∨ t.present = false ∨ t.owner = .auto then refuse .wrongState s
  else if s.params.slots ≤ s.inrushCount then refuse .slotsFull s
  else if admission s t ≠ .start then refuse .noBudget s
  else ack (manualStart i s)

/-- TRAY-CONTROL off (R23). -/
def trayOff (i : TrayId) (s : State) : Answer × State :=
  let t := s.trays[i]
  if !(t.state == .queued || t.enable) then refuse .wrongState s
  else if t.cfg.pinned then refuse .pinned s
  else ack (propagate s (putTray i (stopTray t) s))

/-- TRAY-CONTROL hold (R24). -/
def trayHold (i : TrayId) (s : State) : Answer × State :=
  ack (propagate s (putTray i (holdTray s.trays[i]) s))

/-- TRAY-CONTROL unhold (R24). -/
def trayUnhold (i : TrayId) (s : State) : Answer × State :=
  let t := s.trays[i]
  ack (putTray i { t with locks := { t.locks with hold := false } } s)

/-- The pinned field set in the active configuration and in a staged one (R25). -/
def setPinned (p : Bool) (t : Tray) : Tray :=
  { t with cfg := { t.cfg with pinned := p }, staged := t.staged.map fun c => { c with pinned := p } }

/-- TRAY-CONTROL pin (R25). -/
def trayPin (i : TrayId) (s : State) : Answer × State :=
  if s.saveInFlight then refuse .busy s else ack (propagate s (putTray i (setPinned true s.trays[i]) s))

/-- TRAY-CONTROL unpin (R25). -/
def trayUnpin (i : TrayId) (s : State) : Answer × State :=
  if s.saveInFlight then refuse .busy s else ack (putTray i (setPinned false s.trays[i]) s)

/-- TRAY-CONTROL owner AUTO (R26). -/
def trayOwnerAuto (i : TrayId) (s : State) : Answer × State :=
  ack (putTray i { s.trays[i] with owner := .auto } s)

/-- A tray made MANUAL: a QUEUED one goes OFF (R26). -/
def makeManual (t : Tray) : Tray :=
  let t' := { t with owner := .manual }
  if t.state = .queued then enterOff t' else t'

/-- TRAY-CONTROL owner MANUAL (R26). -/
def trayOwnerManual (i : TrayId) (s : State) : Answer × State :=
  ack (propagate s (putTray i (makeManual s.trays[i]) s))

/-- TRAY-CONTROL by its action code (R21). -/
def answerTrayControl (tray action : Nat) (s : State) : Answer × State :=
  onTray tray
    (fun i s =>
      match action with
      | 0 => trayOn i s
      | 1 => trayOff i s
      | 2 => trayHold i s
      | 3 => trayUnhold i s
      | 4 => trayPin i s
      | 5 => trayUnpin i s
      | 6 => trayOwnerAuto i s
      | 7 => trayOwnerManual i s
      | _ => refuse .badIndex s) s

/-- A FAILED tray is cleared (R27). -/
def clearTray (i : TrayId) (s : State) : State :=
  let t := s.trays[i]
  let s1 := putTray i (enterOff t) s
  let s2 :=
    if t.cause = some .stuckOn ∧ s.pins.pg[i] = true then post .trayUnexpectedPg (some i.val) none s1 else s1
  propagate s s2

/-- CLEAR-FAULT (R27). -/
def answerClearFault (tray : Nat) (s : State) : Answer × State :=
  onTray tray (fun i s => if s.trays[i].state = .failed then ack (clearTray i s) else refuse .wrongState s) s

/-! ### Modules -/

/-- GET-ROSTER (R174). -/
def answerGetRoster (s : State) : Answer × State := answerData (rosterPayload s) s

/-- C computed without a rectifier slot (R48). -/
def capacityWithout (r : RectId) (s : State) : Nat :=
  capacityOf s.params.policy (s.rects.set r { s.rects[r] with state := .empty })

/-- MODULE-SERVICE for a rectifier slot (R48). -/
def serviceRect (r : RectId) (inn : Bool) (s : State) : Answer × State :=
  if !inn && s.rects[r].inService && decide (capacityWithout r s < s.kLive) then refuse .noBudget s
  else ack (putRect r { s.rects[r] with inService := inn } s)

/-- MODULE-SERVICE for a battery slot (R49). Put in again, the unit awaits an arrival at which it is CHARGING, and its
grant stays 0 until then, also where it was put out and in with no arrival between. -/
def serviceBbu (b : BbuId) (inn : Bool) (s : State) : Answer × State :=
  if s.isSuspendedTarget b then refuse .wrongState s
  else if s.bbus[b].inService = inn then ack s
  else if inn then 
    ack (recomputeGrants (putBbu b { s.bbus[b] with inService := true, permit := true, awaitsCharging := true } s))
  else
    let s1 := recomputeGrants (putBbu b { s.bbus[b] with inService := false, permit := false, grant := 0 } s)
    ack (if s1.isTarget b then abortTest .bbuLost s1 else s1)

/-- MODULE-SERVICE (R48, R49). -/
def answerModuleService (slot service : Nat) (s : State) : Answer × State :=
  match slotOf slot with
  | none => refuse .badIndex s
  | some k =>
    if 1 < service then refuse .badIndex s
    else
      match slotOwner k with
      | .inl r => serviceRect r (yes service) s
      | .inr b => serviceBbu b (yes service) s

/-- GET-BATTERIES (R174). -/
def answerGetBatteries (s : State) : Answer × State := answerData (batteriesPayload s) s

/-- GET-BBU-CONFIG (R71). -/
def answerGetBbuConfig (bbu : Nat) (s : State) : Answer × State :=
  onBbu bbu (fun b s => answerData (bbuConfigPayload b s) s) s

/-- Some field of SET-BBU-CONFIG lies outside its range; an E_full of 0 keeps the learned value (R70). -/
def bbuConfigClamped (eRated maxCharge eFull : Nat) : Bool :=
  !(inRange 10000 4000000 eRated && inRange 0 3000 maxCharge && (eFull == 0 || inRange 1000 4000000 eFull))

/-- SET-BBU-CONFIG (R70). -/
def answerSetBbuConfig (bbu eRated maxCharge eFull : Nat) (s : State) : Answer × State :=
  onBbu bbu
    (fun b s =>
      if s.saveInFlight then refuse .busy s
      else if s.isSuspendedTarget b then refuse .wrongState s
      else
        (.ack (bbuConfigClamped eRated maxCharge eFull) false,
          applyBbuConfig b (clamp 10000 4000000 eRated) (clamp 0 3000 maxCharge)
            (if eFull = 0 then 0 else clamp 1000 4000000 eFull) s)) s

/-! ### Runs -/

/-- RUN-UP, its scope well formed (R118). -/
def runUpScope (scope : Scope) (s : State) : Answer × State :=
  let l := eligibleIn s scope
  if s.ilc.state ≠ .normal then refuse .held s
  else if s.run.state ≠ .idle ∧ s.run.direction = .down then refuse .wrongState s
  else if s.run.state = .suspended then refuse .wrongState s
  else if s.run.state = .idle then answerData (le8 l.length) (createUp scope l s)
  else answerData (le8 l.length) (evalStart (joinAll l s))

/-- RUN-UP (R118). -/
def answerRunUp (scope : List Byte) (s : State) : Answer × State :=
  match parseScope scope with
  | .error code => refuse code s
  | .ok sc => runUpScope sc s

/-- The trays that a merge adds to a stop queue (R119). -/
def mergeStops (s : State) (scope : Scope) : List TrayId :=
  (stoppableIn s scope).filter fun i => !s.run.stopQueue.contains i

/-- A merge into a running DOWN run (R119). -/
def mergeDown (l : List TrayId) (s : State) : State :=
  evalStop { s with run := { s.run with
    stopQueue := l.foldr (insertOrdered (stopsBefore s.trays)) s.run.stopQueue } }

/-- RUN-DOWN, its scope well formed (R119). -/
def runDownScope (scope : Scope) (s : State) : Answer × State :=
  if s.run.direction = .down ∧ s.run.state = .suspended then refuse .wrongState s
  else if s.run.direction = .down ∧ s.run.state = .running then
    answerData (le8 (mergeStops s scope).length) (mergeDown (mergeStops s scope) s)
  else
    let s1 := if s.run.state = .idle then s else dissolveUp s
    answerData (le8 (stoppableIn s1 scope).length) (createDown scope s1)

/-- RUN-DOWN (R119). -/
def answerRunDown (scope : List Byte) (s : State) : Answer × State :=
  match parseScope scope with
  | .error code => refuse code s
  | .ok sc => runDownScope sc s

/-- RUN-SUSPEND (R120). -/
def answerRunSuspend (s : State) : Answer × State :=
  if s.run.state = .running then
    ack { s with run := { s.run with state := .suspended, blocked := none } }
  else refuse .wrongState s

/-- A suspended run goes on (R121). -/
def resumeRun (s : State) : State :=
  match s.run.direction with
  | .down => evalStop { s with run := { s.run with state := .running } }
  | .up =>
    if s.ilc.state = .normal then evalStart { s with run := { s.run with state := .running } }
    else testUpDone { s with run := { s.run with state := .held } }

/-- RUN-RESUME (R121). -/
def answerRunResume (s : State) : Answer × State :=
  if s.run.state = .suspended then ack (resumeRun s) else refuse .wrongState s

/-- The present run is cancelled (R122). -/
def cancelRun (s : State) : State :=
  match s.run.state, s.run.direction with
  | .idle, _ => s
  | _, .up =>
    let s1 := dissolveUp s
    { s1 with run := { s1.run with state := .idle, blocked := none } }
  | _, .down => { s with run := { s.run with state := .idle, stopQueue := [], stoppedCount := 0, blocked := none } }

/-- RUN-CANCEL (R122). -/
def answerRunCancel (s : State) : Answer × State := ack (cancelRun s)

/-- GET-RUN-STATUS (R125); the counter of the free value moves on (assumption log 1). -/
def answerGetRunStatus (s : State) : Answer × State :=
  answerData (runStatusPayload s) { s with freeCount := s.freeCount + 5 }

/-! ### Input loss, leaks, valves -/

/-- The sag statistics at 0 (R105). -/
def clearSags (s : State) : State :=
  { s with ilc := { s.ilc with sagCount := 0, lastSag := 0, longestSag := 0 } }

/-- GET-INPUT-STATUS; the statistics are cleared after the reply is built (R105). -/
def answerGetInputStatus (clear : Nat) (s : State) : Answer × State :=
  answerData (inputStatusPayload s) (if yes clear then clearSags s else s)

/-- GET-LEAK (R175). -/
def answerGetLeak (s : State) : Answer × State := answerData (leakPayload s) s

/-- GET-LEAK-CHANNEL (R138). -/
def answerGetLeakChannel (channel : Nat) (s : State) : Answer × State :=
  onChannel channel (fun c s => answerData (leakChannelPayload c s) s) s

/-- SET-LEAK-CHANNEL (R137). -/
def answerSetLeakChannel (r : RawChannelConfig) (s : State) : Answer × State :=
  if r.count ≠ r.trays.length ∨ 24 < r.count then refuse .badLength s
  else
    match channelOf r.channel, loopOf r.loop with
    | some c, some l =>
      if !r.trays.all (fun t => decide (t ≤ 23)) then refuse .badIndex s
      else if s.saveInFlight then refuse .busy s
      else if s.channels[c].state = .alarm then refuse .leakActive s
      else
        let cfg : ChannelConfig :=
          { enabled := yes r.enabled, loop := l, trays := traySet r.trays, isolate := yes r.isolate,
            closeValve := yes r.closeValve, nC := clamp 1 16 r.nC, nF := clamp 1 16 r.nF }
        (.ack (!(inRange 1 16 r.nC && inRange 1 16 r.nF)) false,
          autoStartTest (leakRecompute (applyChannelConfig c cfg s)))
    | _, _ => refuse .badIndex s

/-- LEAK-RELEASE (R136). -/
def answerLeakRelease (channel : Nat) (armed : Option ArmTarget) (s : State) : Answer × State :=
  onChannel channel
    (fun c s =>
      if armed ≠ some (.leakRelease c.val) then refuse .notArmed s
      else if s.channels[c].state ≠ .alarm ∨ s.channels[c].dryStreak < s.channels[c].cfg.nC then
        refuse .wrongState s
      else ack (releaseChannel c s)) s

/-- VALVE-OPEN (R142). -/
def answerValveOpen (loop : Nat) (s : State) : Answer × State :=
  onLoop loop (fun l s => if requiredClosed s l then refuse .leakActive s else ack (openCommand l s)) s

/-- VALVE-CLOSE (R141). -/
def answerValveClose (loop : Nat) (s : State) : Answer × State :=
  onLoop loop (fun l s => ack (closeCommand l s)) s

/-! ### Battery test -/

/-- GET-TEST (R175). -/
def answerGetTest (s : State) : Answer × State := answerData (testPayload s) s

/-- A test of a unit begins (R149). -/
def beginTest (b : BbuId) (s : State) : State :=
  prepareCheck b
    { s with test := { phase := .prepare, target := some b, suspended := false, testPower := s.params.testPower,
                       prepare := .running (s.params.prepareLimit * 60000), eMeas := 0, outcome := none,
                       health := none } }

/-- TEST-START (R149). -/
def answerTestStart (bbu : Nat) (s : State) : Answer × State :=
  onBbu bbu
    (fun b s =>
      let u := s.bbus[b]
      if s.testActive then refuse .wrongState s
      else if s.ilc.state ≠ .normal then refuse .wrongState s
      else if u.inService = false ∨ (u.state ≠ .charging ∧ u.state ≠ .full) then refuse .wrongState s
      else if s.params.readyMin ≠ 0 ∧ s.tProjWithout b < s.params.readyMin then refuse .noReserve s
      else ack (beginTest b s)) s

/-- The prepare timer is paused with the time it has left (R154). -/
def pausePrepare : PrepareTimer → PrepareTimer
  | .running n => .paused n
  | .paused n => .paused n
  | .stopped => .stopped

/-- The prepare timer runs again (R155). -/
def unpausePrepare : PrepareTimer → PrepareTimer
  | .paused n => .running n
  | .running n => .running n
  | .stopped => .stopped

/-- TEST-SUSPEND (R154). -/
def answerTestSuspend (s : State) : Answer × State :=
  if (s.test.phase = .prepare ∨ s.test.phase = .discharge) ∧ s.test.suspended = false then
    ack (clearTestPower { s with test := { s.test with
      suspended := true, prepare := pausePrepare s.test.prepare } })
  else refuse .wrongState s

/-- A suspended test goes on (R155). -/
def resumeTest (s : State) : State :=
  let s1 := { s with test := { s.test with suspended := false, prepare := unpausePrepare s.test.prepare } }
  match s.test.target, s.test.phase with
  | some b, .prepare => prepareCheck b s1
  | some b, .discharge => setTestPower b s.test.testPower s1
  | _, _ => s1

/-- TEST-RESUME (R155). -/
def answerTestResume (s : State) : Answer × State :=
  if s.test.suspended then ack (resumeTest s) else refuse .wrongState s

/-- TEST-ABORT (R157). -/
def answerTestAbort (s : State) : Answer × State :=
  if s.testActive then ack (abortTest .host s) else refuse .wrongState s

end Sys2Proof.Machine
end

