-- ==== Sys2Proof/Machine/HostLink.lean ====
section
/-! DEFINITION. The Host Link Interface: the request queue, evaluation of a request, the receive framer, breaks. -/
namespace Sys2Proof.Machine

/-- Changes the host link's record. -/
def setLink (h : HostLink) (s : State) : State := { s with hli := h }

/-- The payload-error count rises and the request is refused CHECK-ERROR (R164, R167). -/
def answerBadCheck (s : State) : Answer × State :=
  refuse .checkError (setLink { s.hli with payloadErrors := countUp 65535 s.hli.payloadErrors } s)

/-- The owning block's answer to a request, `armed` being the arm target it reads (R164, R165). -/
def answerBody (b : RequestBody) (armed : Option ArmTarget) (s : State) : Answer × State :=
  match b with
  | .identify => answerIdentify s
  | .getLinkStatus clear => answerGetLinkStatus clear armed s
  | .arm target channel => answerArm target channel s
  | .restart => answerRestart armed s
  | .getShelfStatus => answerGetShelfStatus s
  | .takeNotices count => answerTakeNotices count s
  | .saveProfile => answerSaveProfile s
  | .loadProfile => answerLoadProfile s
  | .getShelfParam ident => answerGetShelfParam ident s
  | .setShelfParam ident value => answerSetShelfParam ident value s
  | .getTrays first count => answerGetTrays first count s
  | .getTrayConfig tray => answerGetTrayConfig tray s
  | .setTrayConfig tray cfg => answerSetTrayConfig tray cfg s
  | .trayControl tray action => answerTrayControl tray action s
  | .clearFault tray => answerClearFault tray s
  | .getRoster => answerGetRoster s
  | .moduleService slot service => answerModuleService slot service s
  | .getBatteries => answerGetBatteries s
  | .getBbuConfig bbu => answerGetBbuConfig bbu s
  | .setBbuConfig bbu eRated maxCharge eFull => answerSetBbuConfig bbu eRated maxCharge eFull s
  | .runUp scope => answerRunUp scope s
  | .runDown scope => answerRunDown scope s
  | .runSuspend => answerRunSuspend s
  | .runResume => answerRunResume s
  | .runCancel => answerRunCancel s
  | .getRunStatus => answerGetRunStatus s
  | .getInputStatus clear => answerGetInputStatus clear s
  | .getLeak => answerGetLeak s
  | .getLeakChannel channel => answerGetLeakChannel channel s
  | .setLeakChannel cfg => answerSetLeakChannel cfg s
  | .leakRelease channel => answerLeakRelease channel armed s
  | .valveOpen loop => answerValveOpen loop s
  | .valveClose loop => answerValveClose loop s
  | .getTest => answerGetTest s
  | .testStart bbu => answerTestStart bbu s
  | .testSuspend => answerTestSuspend s
  | .testResume => answerTestResume s
  | .testAbort => answerTestAbort s
  | .badCheck => answerBadCheck s
  | .unknownKind => refuse .unknownKind s
  | .badLength => refuse .badLength s

/-- The kind byte and the payload of the reply to a request of some kind (R164). -/
def replyOf (kind : Byte) : Answer → Byte × List Byte
  | .ack clamped staged => (0x80, if clamped || staged then le8 (ackBits clamped staged) else [])
  | .data payload => (kind + 0x80, payload)
  | .refused code => (0xFF, [kind] ++ le8 (refusalCode code))

/-- The bytes of a reply on the wire, from this station (R160). -/
def replyFrame (station : Nat) (r : Reply) : List Byte :=
  frameBytes (BitVec.ofNat 8 station) r.kind r.tag r.payload

/-- The oldest request is taken and evaluated whole: it reads and consumes the arm target, and its reply is queued
for sending (R163 to R165). -/
def takeRequest (s : State) : State :=
  match s.hli.queue with
  | [] => s
  | r :: _ =>
    let out := answerBody r.body s.hli.arm (setLink { s.hli with arm := none } s)
    let reply := replyOf r.kind out.1
    setLink { out.2.hli with reply := some { kind := reply.1, tag := r.tag, payload := reply.2 } } out.2

/-- A complete request of this station is accepted, or dropped as an overrun; either restarts the silence timer. It
is taken at once when no other request is before it (R163, R166). Behind a RESTART it is not taken (R180). -/
def acceptRequest (r : Request) (s : State) : State :=
  let s1 := restartSilence (setLink { s.hli with framer := .hunt, inBreak := false } s)
  if s1.hli.queue.length < Config.requestRoom then
    let s2 := setLink { s1.hli with queue := s1.hli.queue ++ [r] } s1
    if s1.hli.queue.isEmpty ∧ s1.store.restart = .none then takeRequest s2 else s2
  else setLink { s1.hli with overruns := countUp 65535 s1.hli.overruns } s1

/-- A complete frame of this station (R163, R164). -/
def receiveFrame (kind tag : Byte) (payload : List Byte) (check : BitVec 16) (s : State) : State :=
  acceptRequest { kind := kind, tag := tag, body := parseRequest kind payload check } s

/-- The last byte of the reply has been sent: the request leaves the queue, and the next is taken, unless a RESTART
is now due (R163, R180). -/
def replyGone (s : State) : State :=
  match s.hli.reply with
  | none => s
  | some _ =>
    let s1 := setLink { s.hli with queue := s.hli.queue.tail, reply := none } s
    match s1.store.restart with
    | .ackSending => { s1 with store := { s1.store with restart := .due } }
    | .due => s1
    | .none => takeRequest s1

/-! ### The framer -/

/-- Hunting resumes within the bytes of a failed header (R161). -/
def rescan : List Byte → Framer
  | [] => .hunt
  | b :: rest => if b = Config.marker then .header rest else rescan rest

/-- A frame of this station without payload, or the start of its body; a frame of another station is skipped
(R161). -/
def goodHeader (station kind tag : Byte) (length : Nat) (s : State) : State :=
  if station ≠ BitVec.ofNat 8 s.hli.station then
    setLink { s.hli with framer := if length = 0 then .hunt else .skip (length + 2) } s
  else if length = 0 then receiveFrame kind tag [] 0 s
  else setLink { s.hli with framer := .body kind tag length [] } s

/-- The five header bytes are judged (R161). -/
def judgeHeader (bytes : List Byte) (s : State) : State :=
  match bytes with
  | [station, kind, tag, length, check] =>
    if crc8 [station, kind, tag, length] = check ∧ length.toNat ≤ Config.maxPayload then
      goodHeader station kind tag length.toNat s
    else setLink { s.hli with framer := rescan bytes, headerErrors := countUp 65535 s.hli.headerErrors } s
  | _ => s

/-- A byte is received (R161). The first byte after a break ends it (R162). -/
def receiveByte (b : Byte) (s : State) : State :=
  let s1 := setLink { s.hli with inBreak := false } s
  match s1.hli.framer with
  | .hunt => if b = Config.marker then setLink { s1.hli with framer := .header [] } s1 else s1
  | .header bytes =>
    if bytes.length < 4 then setLink { s1.hli with framer := .header (bytes ++ [b]) } s1
    else judgeHeader (bytes ++ [b]) s1
  | .skip left => setLink { s1.hli with framer := if left ≤ 1 then .hunt else .skip (left - 1) } s1
  | .body kind tag length bytes =>
    let all := bytes ++ [b]
    if all.length < length + 2 then setLink { s1.hli with framer := .body kind tag length all } s1
    else receiveFrame kind tag (all.take length) (bodyCheck length all) s1

/-- A byte error on a line that is not in break, as the framer's state takes it (R161). -/
def countByteError (s : State) : State :=
  match s.hli.framer with
  | .skip _ => setLink { s.hli with framer := .hunt, inBreak := false } s
  | _ => setLink { s.hli with framer := .hunt, inBreak := false, byteErrors := countUp 65535 s.hli.byteErrors } s

/-- A byte error; `backAtMark` says that the line has been at mark since the last link break. While the line stays in
that break nothing is counted; once it has been back at mark, a missing stop bit or a shorter break counts as any other
byte error (R161, R162; assumption log 17). -/
def byteError (backAtMark : Bool) (s : State) : State :=
  if s.hli.inBreak && !backAtMark then s else countByteError s

/-- A gap above 5 ms, as the framer's state takes it (R161). -/
def frameGap (s : State) : State :=
  match s.hli.framer with
  | .hunt => s
  | .skip _ => setLink { s.hli with framer := .hunt } s
  | _ => setLink { s.hli with framer := .hunt, timeouts := countUp 65535 s.hli.timeouts } s

/-- A link break of 10 ms (R162). A RESTART whose ACK it cuts off does not take effect (assumption log 16). -/
def linkBroken (s : State) : State :=
  let s1 := setLink { s.hli with framer := .hunt, inBreak := true, queue := [], reply := none, arm := none } s
  if s1.store.restart = .ackSending then { s1 with store := { s1.store with restart := .none } } else s1

/-- The number of MANUAL trays. -/
def manualCount (s : State) : Nat := (allTrays.filter fun i => s.trays[i].owner == .manual).length

/-- The host has been silent for the whole setting (R26, R166). -/
def hostSilent (s : State) : State :=
  match s.hli.silence with
  | none => s
  | some _ =>
    post .hostSilent none (some (manualCount s))
      { s with trays := Vector.ofFn fun i => { s.trays[i] with owner := .auto }
               hli := { s.hli with silence := none } }

end Sys2Proof.Machine
end

