-- ==== Sys2Proof/Machine/Resets.lean ====
section
/-! DEFINITION. Presence and PG as the pins change, the cold start sequence, and the warm reset. -/
namespace Sys2Proof.Machine

/-! ### Pin edges of a tray -/

/-- A PG rise and everything it leads to (R8, R13). -/
def pgRises (i : TrayId) (s : State) : State := propagate s (trayPgRise i s)

/-- A PG fall and everything it leads to (R8, R9, R13). -/
def pgFalls (i : TrayId) (s : State) : State := propagate s (trayPgFall i s)

/-- A tray loses presence (R14). -/
def presenceLost (i : TrayId) (s : State) : State :=
  propagate s (post .trayRemoved (some i.val) none (putTray i (removeTray s.trays[i]) s))

/-- A tray's presence is asserted (R14). -/
def presenceBack (i : TrayId) (s : State) : State := putTray i { s.trays[i] with present := true } s

/-! ### Cold reset -/

/-- Every record at its value after a cold reset, from the pins and the stored profile (R28, R50, R72, R90, R106,
R126, R145, R158, R169, R176, R177, R179). The command queue and the model's counter stay. -/
def coldValues (s : State) : State :=
  let w := bootConfig s.store
  { time := 0
    pins := s.pins
    trays := Vector.ofFn fun i => coldTray w.trays[i] s.pins.prsnt[i]
    mbc := { slots := Vector.ofFn fun k => coldModuleSlot s.pins.modulePresent[k], schedule := [], poll := none,
             driver := false, framer := .hunt, tag := 0, stagedPeriod := none, nextCycle := 0,
             rosterReady := false }
    rects := Vector.ofFn fun r => coldRect s.pins.modulePresent[rectSlotNo r]
    bbus := Vector.ofFn fun b => coldBbu w.bbus[b] s.pins.modulePresent[bbuSlotNo b]
    budget := coldBudget
    ilc := coldInputLoss
    run := coldRun
    channels := Vector.ofFn fun c => coldChannel w.channels[c]
    loops := Vector.ofFn fun l => coldLoop s.pins.openSwitch[l] s.pins.closedSwitch[l] w.params.valveTravel
    stagedScan := none
    nextScan := 0
    test := coldTest w.params.testPower
    hli := freshHostLink s.pins.addr s.pins.rate w.params.hostSilence
    notices := { records := [], lost := 0 }
    store := { s.store with valid := imageValid s.store, saving := none, autoPending := false, restart := .none,
                            lastReset := .cold, warmCount := 0 }
    params := w.params
    held := none
    freeCount := s.freeCount
    pending := s.pending }

/-- A tray whose PG reads asserted after a cold reset posts TRAY-UNEXPECTED-PG (R28). -/
def coldPg (s : State) : State :=
  allTrays.foldl (fun s i => if s.pins.pg[i] then trayPgRise i s else s) s

/-- A cold reset and the cold start sequence, its steps in the order of R181: notices and profile; the first bus cycle;
the first scan pass, due from now on (`nextScan`) and itself a SCAN_PASS with its readings (assumption log 8); IFAIL; the
auto-start mark. The notices of R28 follow those of step 1 (log 26). -/
def coldBoot (s : State) : State :=
  let s1 := post .reset none (some (resetKindCode .cold)) (coldValues s)
  let s2 := if s1.store.valid then s1 else post .profileInvalid none none s1
  let s3 := startCycle (coldPg s2)
  let s4 := if s3.pins.ifail then ifailAsserted s3 else s3
  { s4 with store := { s4.store with autoPending := s4.params.autoStart && s4.store.valid } }

/-! ### Warm reset -/

/-- The notice queue is emptied and RESET posted in one step (R170). -/
def warmNotices (kind : ResetKind) (s : State) : State :=
  post .reset none (some (resetKindCode kind)) { s with notices := { records := [], lost := 0 } }

/-- The reset record, a save abandoned, the auto-start mark and a RESTART (R177, R179, R180, R181). -/
def warmStore (kind : ResetKind) (s : State) : State :=
  { s with store := { s.store with
      lastReset := kind, warmCount := countUp 255 s.store.warmCount, saving := none, autoPending := false,
      restart := .none } }

/-- The host link after a warm reset (R169). -/
def warmLink (s : State) : State :=
  setLink (freshHostLink s.pins.addr s.pins.rate s.params.hostSilence) s

/-- The run after a warm reset (R127). -/
def warmRun (s : State) : State :=
  { s with run := { s.run with
      state := if s.run.state = .running ∨ s.run.state = .held then .suspended else s.run.state
      blocked := none
      startSpacing := spacingStart s.params.startSpacing
      stopSpacing := spacingStart s.params.stopSpacing } }

/-- A tray's running timer restarts at its full length (R29). -/
def restartTimer (t : Tray) : Tray :=
  match t.timer with
  | .idle => t
  | .inrushWait _ => { t with timer := .inrushWait t.cfg.pgTimeout }
  | .settle _ _ => { t with timer := .settle t.cfg.settle t.cfg.pgTimeout }
  | .stop _ => { t with timer := .stop t.cfg.stopTime }
  | .discharge _ => { t with timer := .discharge t.cfg.stopTime }

/-- The running timers of trays, shelf and valves restart at their full lengths (R29, R107, R146). -/
def warmTimers (s : State) : State :=
  { s with
    trays := Vector.ofFn fun i => restartTimer s.trays[i]
    ilc := { s.ilc with qualify := s.ilc.qualify.map fun _ => s.params.qualifyTime
                        restore := s.ilc.restore.map fun _ => s.params.restoreHold * 1000 }
    loops := Vector.ofFn fun l =>
      { s.loops[l] with travel := s.loops[l].travel.map fun _ => s.params.valveTravel * 1000 } }

/-- The module bus at a warm reset: the poll in flight is abandoned; the new cycle starts in `warmStart` (R51). -/
def warmBus (s : State) : State :=
  let s1 := { s with params := { s.params with period := s.mbc.stagedPeriod.getD s.params.period } }
  setBus
    { s.mbc with
      slots := Vector.ofFn fun k => { s.mbc.slots[k] with missCount := 0 }
      schedule := [], poll := none, driver := false, framer := .hunt, tag := 0, stagedPeriod := none
      nextCycle := s.time, rosterReady := false } s1

/-- A staged scan interval becomes active, and a new pass is due at once (R146; assumption log 8). -/
def warmScan (s : State) : State :=
  { s with params := { s.params with scanInterval := s.stagedScan.getD s.params.scanInterval },
           stagedScan := none, nextScan := s.time }

/-- The level PG is expected to have in a tray's state, where the state expects one (R29). -/
def expectedPg (t : Tray) : Option Bool :=
  match t.state with
  | .off => some false
  | .queued => some false
  | .on => some true
  | .stopping => none
  | .failed => some (decide (t.cause = some .stuckOn))
  | .inrush =>
    match t.timer with
    | .settle _ _ => some true
    | _ => some false

/-- PRSNT of one tray is reread (R29). A tray that was absent before the reset and whose PRSNT still reads released has
lost nothing: the model posts no TRAY-REMOVED for it (assumption log 39). -/
def rereadPresence (i : TrayId) (s : State) : State :=
  if s.pins.prsnt[i] then presenceBack i s
  else if s.trays[i].present then presenceLost i s
  else s

/-- PG of one tray is reread and a level that differs from the expected one is handled as the edge (R29). -/
def rereadPg (i : TrayId) (s : State) : State :=
  match expectedPg s.trays[i], s.pins.pg[i] with
  | some false, true => pgRises i s
  | some true, false => pgFalls i s
  | _, _ => s

/-- PRSNT and PG of the trays are reread once (R29). -/
def rereadTrays (s : State) : State :=
  allTrays.foldl (fun s i => rereadPg i s) (allTrays.foldl (fun s i => rereadPresence i s) s)

/-- The module presence inputs are reread once (R51). -/
def rereadModules (s : State) : State :=
  allSlots.foldl
    (fun s k =>
      if s.mbc.slots[k].present && !s.pins.modulePresent[k] then moduleReleased k s
      else if !s.mbc.slots[k].present && s.pins.modulePresent[k] then moduleAsserted k s
      else s) s

/-- The level of IFAIL that the shelf power state expects (R92). -/
def expectedIfail (st : ShelfState) : Bool :=
  match st with
  | .normal => false
  | .sagQualify => true
  | .rideThrough => true
  | .restoreHold => false
  | .exhausted => true

/-- IFAIL is reread once (R107). -/
def rereadIfail (s : State) : State :=
  match expectedIfail s.ilc.state, s.pins.ifail with
  | false, true => ifailAsserted s
  | true, false => ifailReleased s
  | _, _ => s

/-- One end switch is reread (R146). -/
def rereadSwitch (l : LoopId) (sw : EndSwitch) (recorded level : Bool) (s : State) : State :=
  if recorded = level then s else switchEdge l sw level s

/-- The eight end switches are reread once, loop 0 to loop 3 and of each the open switch first; the rule gives no order,
so this one, and with it the order of the VALVE-CLOSED notices of several loops, is the model's choice (R146;
assumption log 14). -/
def rereadValves (s : State) : State :=
  allLoops.foldl
    (fun s l =>
      let s1 := rereadSwitch l .opened s.loops[l].openSwitch s.pins.openSwitch[l] s
      rereadSwitch l .closed s1.loops[l].closedSwitch s1.pins.closedSwitch[l] s1) s

/-- The budget evaluates deficit after the rereads of trays and modules (R91). -/
def warmDeficit (s : State) : State := seqAfter s (evalDeficit s)

/-- What a warm reset does before it rereads the pins, ending with the start of the new bus cycle, so that a module found
at the reread waits for the cycle after it (R29, R51, R73, R91, R107, R127, R146, R159, R169, R170, R179). -/
def warmStart (kind : ResetKind) (s : State) : State :=
  let s1 := abortTest .reset (warmLink (warmStore kind (warmNotices kind s)))
  let s2 := warmScan (warmBus (warmTimers (warmRun s1)))
  startCycle (recomputeGrants (recomputeFloor (reserveChanged (setDeficit false false s2))))

/-- A warm reset, whole (R179; its order is assumption log 14). -/
def warmReset (kind : ResetKind) (s : State) : State :=
  leakRecompute (rereadValves (rereadIfail (warmDeficit (rereadModules (rereadTrays (warmStart kind s))))))

/-! ### The RESET pin -/

/-- The kind of reset that the RESET pin gives (R179). -/
def pinResetKind (keep : Bool) : ResetKind := if keep then .warmPin else .cold

/-- RESET is asserted. A cold reset takes hold at once; a warm one holds the outputs and stops the link and a save
(R179, R177; assumption log 15). -/
def resetAsserted (keep : Bool) (s : State) : State :=
  let s1 := { s with pins := { s.pins with keep := keep } }
  if keep then
    { s1 with hli := { s1.hli with framer := .hunt, queue := [], reply := none, arm := none }
              store := { s1.store with saving := none, restart := .none }
              held := some .warmPin }
  else { coldValues s1 with held := some .cold }

/-- RESET is released and the reset ends (R179). -/
def resetReleased (s : State) : State :=
  match s.held with
  | none => s
  | some .cold => coldBoot s
  | some kind => warmReset kind { s with held := none }

/-- Power-on with the pins as they read: a cold reset and the cold start sequence (R179, R181). -/
def powerUp (pins : Pins) (s : State) : State := coldBoot { s with pins := pins }

end Sys2Proof.Machine
end

