-- ==== Sys2Proof/Machine/Time.lean ====
section
/-! DEFINITION. What the part does by itself: a bus cycle that is due starts, or one millisecond passes on the time base,
in which running timers count down and those that run out put their expiry in the command queue (assumption log 3). -/
namespace Sys2Proof.Machine

/-- A running timer after one millisecond; at its last millisecond it stays, and its expiry command ends it. -/
def countDown (n : Nat) : Nat := if n ≤ 1 then n else n - 1

/-- A timer that may be stopped, after one millisecond. -/
def countDownOpt (t : Option Nat) : Option Nat := t.map countDown

/-- The timer runs out within this millisecond. -/
def runsOut (t : Option Nat) : Bool :=
  match t with
  | some n => decide (n ≤ 1)
  | none => false

/-- The command `c` when the condition holds. -/
def commandIf (b : Bool) (c : Instr) : List Instr := if b then [c] else []

/-- A tray's timer after one millisecond; a paused INRUSH wait stands (R2, R8). -/
def tickTrayTimer : TrayTimer → TrayTimer
  | .idle => .idle
  | .inrushWait n => .inrushWait (countDown n)
  | .settle n paused => .settle (countDown n) paused
  | .stop n => .stop (countDown n)
  | .discharge n => .discharge (countDown n)

/-- The expiry command of a tray's timer that runs out now. -/
def trayExpiry (i : TrayId) : TrayTimer → List Instr
  | .idle => []
  | .inrushWait n => commandIf (decide (n ≤ 1)) (.inrushWaitExpiry i)
  | .settle n _ => commandIf (decide (n ≤ 1)) (.settleExpiry i)
  | .stop n => commandIf (decide (n ≤ 1)) (.stopTimerExpiry i)
  | .discharge n => commandIf (decide (n ≤ 1)) (.dischargeWaitExpiry i)

/-- The prepare timer after one millisecond; paused it stands (R150, R154). -/
def tickPrepare : PrepareTimer → PrepareTimer
  | .running n => .running (countDown n)
  | .paused n => .paused n
  | .stopped => .stopped

/-- The prepare timer runs out within this millisecond. -/
def prepareRunsOut : PrepareTimer → Bool
  | .running n => decide (n ≤ 1)
  | .paused _ => false
  | .stopped => false

/-- The reply window of the poll in flight (R35). -/
def replyWindow (s : State) : Option Nat := s.mbc.poll.map fun p => p.window

/-- The next bus cycle is due: no cycle is under way and its time has come (R33). -/
def cycleDue (s : State) : Bool := s.mbc.poll.isNone && decide (s.mbc.nextCycle ≤ s.time)

/-- The expiries of one millisecond, in the model's order (assumption log 3). -/
def expiries (s : State) : List Instr :=
  allTrays.flatMap (fun i => trayExpiry i s.trays[i].timer) ++
  commandIf (runsOut s.ilc.qualify) .qualifyExpiry ++
  commandIf (runsOut s.ilc.restore) .restoreExpiry ++
  commandIf (runsOut s.run.startSpacing) .startSpacingExpiry ++
  commandIf (runsOut s.run.stopSpacing) .stopSpacingExpiry ++
  allLoops.flatMap (fun l => commandIf (runsOut s.loops[l].travel) (.valveTravelExpiry l)) ++
  commandIf (prepareRunsOut s.test.prepare) .prepareTimeout ++
  commandIf (runsOut s.hli.silence) .hostSilenceExpiry ++
  commandIf (runsOut (replyWindow s)) .replyWindowExpiry

/-- Every running timer after one millisecond. -/
def countTimers (s : State) : State :=
  { s with
    time := s.time + 1
    trays := Vector.ofFn fun i => { s.trays[i] with timer := tickTrayTimer s.trays[i].timer }
    ilc := { s.ilc with qualify := countDownOpt s.ilc.qualify, restore := countDownOpt s.ilc.restore }
    run := { s.run with startSpacing := countDownOpt s.run.startSpacing,
                        stopSpacing := countDownOpt s.run.stopSpacing }
    loops := Vector.ofFn fun l => { s.loops[l] with travel := countDownOpt s.loops[l].travel }
    test := { s.test with prepare := tickPrepare s.test.prepare }
    hli := { s.hli with silence := countDownOpt s.hli.silence }
    mbc := { s.mbc with poll := s.mbc.poll.map fun p => { p with window := countDown p.window } } }

/-- One millisecond. While RESET is held only the time base runs (R38, R179). -/
def tick (s : State) : State :=
  if s.held.isSome then { s with time := s.time + 1 }
  else { countTimers s with pending := s.pending ++ expiries s }

/-- What the part does by itself when no command waits: a bus cycle that is due starts at once, within the same
millisecond; otherwise a millisecond passes (R33; assumption log 3). -/
def idle (s : State) : State :=
  if s.held.isNone && cycleDue s then { s with pending := s.pending ++ [.busCycleStart] } else tick s

end Sys2Proof.Machine
end

