-- ==== Sys2Proof/Machine/Requests.lean ====
section
/-! DEFINITION. The meanings of the request rows: a complete good frame of the row's kind arrives for this station
(assumption log 2). What the owning block then answers and does is its definition in Sys2Proof/Machine/Answers.lean,
reached through `answerBody`. -/
namespace Sys2Proof.Machine

/-- The part takes a command when RESET is not held; while it is held, the command leaves the part as it is (R179,
assumption log 15). -/
def awake (f : State → State) (s : State) : Host.Outcome State Fault Refusal :=
  .next (if s.held.isSome then s else f s)

/-- A request with good checks arrives (R163). -/
def request (kind tag : Byte) (body : RequestBody) (s : State) : Host.Outcome State Fault Refusal :=
  awake (acceptRequest { kind := kind, tag := tag, body := body }) s

/-- IDENTIFY (R168). -/
def execIdentify (tag : Byte) (s : State) : Host.Outcome State Fault Refusal :=
  request 0x01 tag .identify s

/-- GET-LINK-STATUS (R167). -/
def execGetLinkStatus (tag : Byte) (clear : Nat) (s : State) : Host.Outcome State Fault Refusal :=
  request 0x02 tag (.getLinkStatus clear) s

/-- ARM (R165). -/
def execArm (tag : Byte) (target channel : Nat) (s : State) : Host.Outcome State Fault Refusal :=
  request 0x03 tag (.arm target channel) s

/-- RESTART (R180). -/
def execRestart (tag : Byte) (s : State) : Host.Outcome State Fault Refusal :=
  request 0x04 tag .restart s

/-- GET-SHELF-STATUS (R172). -/
def execGetShelfStatus (tag : Byte) (s : State) : Host.Outcome State Fault Refusal :=
  request 0x05 tag .getShelfStatus s

/-- TAKE-NOTICES (R171). -/
def execTakeNotices (tag : Byte) (count : Nat) (s : State) : Host.Outcome State Fault Refusal :=
  request 0x06 tag (.takeNotices count) s

/-- SAVE-PROFILE (R177). -/
def execSaveProfile (tag : Byte) (s : State) : Host.Outcome State Fault Refusal :=
  request 0x07 tag .saveProfile s

/-- LOAD-PROFILE (R178). -/
def execLoadProfile (tag : Byte) (s : State) : Host.Outcome State Fault Refusal :=
  request 0x08 tag .loadProfile s

/-- GET-SHELF-PARAM (R183). -/
def execGetShelfParam (tag : Byte) (ident : Nat) (s : State) : Host.Outcome State Fault Refusal :=
  request 0x09 tag (.getShelfParam ident) s

/-- SET-SHELF-PARAM (R183). -/
def execSetShelfParam (tag : Byte) (ident value : Nat) (s : State) : Host.Outcome State Fault Refusal :=
  request 0x0A tag (.setShelfParam ident value) s

/-- GET-TRAYS (R173). -/
def execGetTrays (tag : Byte) (first count : Nat) (s : State) : Host.Outcome State Fault Refusal :=
  request 0x10 tag (.getTrays first count) s

/-- GET-TRAY-CONFIG (R20). -/
def execGetTrayConfig (tag : Byte) (tray : Nat) (s : State) : Host.Outcome State Fault Refusal :=
  request 0x11 tag (.getTrayConfig tray) s

/-- SET-TRAY-CONFIG (R19). -/
def execSetTrayConfig (tag : Byte) (tray : Nat) (cfg : RawTrayConfig) (s : State) : Host.Outcome State Fault Refusal :=
  request 0x12 tag (.setTrayConfig tray cfg) s

/-- TRAY-CONTROL on (R22). -/
def execTrayControlOn (tag : Byte) (tray : Nat) (s : State) : Host.Outcome State Fault Refusal :=
  request 0x13 tag (.trayControl tray 0) s

/-- TRAY-CONTROL off (R23). -/
def execTrayControlOff (tag : Byte) (tray : Nat) (s : State) : Host.Outcome State Fault Refusal :=
  request 0x13 tag (.trayControl tray 1) s

/-- TRAY-CONTROL hold (R24). -/
def execTrayControlHold (tag : Byte) (tray : Nat) (s : State) : Host.Outcome State Fault Refusal :=
  request 0x13 tag (.trayControl tray 2) s

/-- TRAY-CONTROL unhold (R24). -/
def execTrayControlUnhold (tag : Byte) (tray : Nat) (s : State) : Host.Outcome State Fault Refusal :=
  request 0x13 tag (.trayControl tray 3) s

/-- TRAY-CONTROL pin (R25). -/
def execTrayControlPin (tag : Byte) (tray : Nat) (s : State) : Host.Outcome State Fault Refusal :=
  request 0x13 tag (.trayControl tray 4) s

/-- TRAY-CONTROL unpin (R25). -/
def execTrayControlUnpin (tag : Byte) (tray : Nat) (s : State) : Host.Outcome State Fault Refusal :=
  request 0x13 tag (.trayControl tray 5) s

/-- TRAY-CONTROL owner AUTO (R26). -/
def execTrayControlOwnerAuto (tag : Byte) (tray : Nat) (s : State) : Host.Outcome State Fault Refusal :=
  request 0x13 tag (.trayControl tray 6) s

/-- TRAY-CONTROL owner MANUAL (R26). -/
def execTrayControlOwnerManual (tag : Byte) (tray : Nat) (s : State) : Host.Outcome State Fault Refusal :=
  request 0x13 tag (.trayControl tray 7) s

/-- CLEAR-FAULT (R27). -/
def execClearFault (tag : Byte) (tray : Nat) (s : State) : Host.Outcome State Fault Refusal :=
  request 0x14 tag (.clearFault tray) s

/-- GET-ROSTER (R174). -/
def execGetRoster (tag : Byte) (s : State) : Host.Outcome State Fault Refusal :=
  request 0x18 tag .getRoster s

/-- MODULE-SERVICE (R48, R49). -/
def execModuleService (tag : Byte) (slot service : Nat) (s : State) : Host.Outcome State Fault Refusal :=
  request 0x19 tag (.moduleService slot service) s

/-- GET-BATTERIES (R174). -/
def execGetBatteries (tag : Byte) (s : State) : Host.Outcome State Fault Refusal :=
  request 0x1A tag .getBatteries s

/-- GET-BBU-CONFIG (R71). -/
def execGetBbuConfig (tag : Byte) (bbu : Nat) (s : State) : Host.Outcome State Fault Refusal :=
  request 0x1B tag (.getBbuConfig bbu) s

/-- SET-BBU-CONFIG (R70). -/
def execSetBbuConfig (tag : Byte) (bbu eRated maxCharge eFull : Nat) (s : State) : Host.Outcome State Fault Refusal :=
  request 0x1C tag (.setBbuConfig bbu eRated maxCharge eFull) s

/-- RUN-UP (R118). -/
def execRunUp (tag : Byte) (scope : List Byte) (s : State) : Host.Outcome State Fault Refusal :=
  request 0x20 tag (.runUp scope) s

/-- RUN-DOWN (R119). -/
def execRunDown (tag : Byte) (scope : List Byte) (s : State) : Host.Outcome State Fault Refusal :=
  request 0x21 tag (.runDown scope) s

/-- RUN-SUSPEND (R120). -/
def execRunSuspend (tag : Byte) (s : State) : Host.Outcome State Fault Refusal :=
  request 0x22 tag .runSuspend s

/-- RUN-RESUME (R121). -/
def execRunResume (tag : Byte) (s : State) : Host.Outcome State Fault Refusal :=
  request 0x23 tag .runResume s

/-- RUN-CANCEL (R122). -/
def execRunCancel (tag : Byte) (s : State) : Host.Outcome State Fault Refusal :=
  request 0x24 tag .runCancel s

/-- GET-RUN-STATUS (R125). -/
def execGetRunStatus (tag : Byte) (s : State) : Host.Outcome State Fault Refusal :=
  request 0x25 tag .getRunStatus s

/-- GET-INPUT-STATUS (R105). -/
def execGetInputStatus (tag : Byte) (clear : Nat) (s : State) : Host.Outcome State Fault Refusal :=
  request 0x28 tag (.getInputStatus clear) s

/-- GET-LEAK (R175). -/
def execGetLeak (tag : Byte) (s : State) : Host.Outcome State Fault Refusal :=
  request 0x30 tag .getLeak s

/-- GET-LEAK-CHANNEL (R138). -/
def execGetLeakChannel (tag : Byte) (channel : Nat) (s : State) : Host.Outcome State Fault Refusal :=
  request 0x31 tag (.getLeakChannel channel) s

/-- SET-LEAK-CHANNEL (R137). -/
def execSetLeakChannel (tag : Byte) (cfg : RawChannelConfig) (s : State) : Host.Outcome State Fault Refusal :=
  request 0x32 tag (.setLeakChannel cfg) s

/-- LEAK-RELEASE (R136). -/
def execLeakRelease (tag : Byte) (channel : Nat) (s : State) : Host.Outcome State Fault Refusal :=
  request 0x33 tag (.leakRelease channel) s

/-- VALVE-OPEN (R142). -/
def execValveOpen (tag : Byte) (loop : Nat) (s : State) : Host.Outcome State Fault Refusal :=
  request 0x34 tag (.valveOpen loop) s

/-- VALVE-CLOSE (R141). -/
def execValveClose (tag : Byte) (loop : Nat) (s : State) : Host.Outcome State Fault Refusal :=
  request 0x35 tag (.valveClose loop) s

/-- GET-TEST (R175). -/
def execGetTest (tag : Byte) (s : State) : Host.Outcome State Fault Refusal :=
  request 0x38 tag .getTest s

/-- TEST-START (R149). -/
def execTestStart (tag : Byte) (bbu : Nat) (s : State) : Host.Outcome State Fault Refusal :=
  request 0x39 tag (.testStart bbu) s

/-- TEST-SUSPEND (R154). -/
def execTestSuspend (tag : Byte) (s : State) : Host.Outcome State Fault Refusal :=
  request 0x3A tag .testSuspend s

/-- TEST-RESUME (R155). -/
def execTestResume (tag : Byte) (s : State) : Host.Outcome State Fault Refusal :=
  request 0x3B tag .testResume s

/-- TEST-ABORT (R157). -/
def execTestAbort (tag : Byte) (s : State) : Host.Outcome State Fault Refusal :=
  request 0x3C tag .testAbort s

end Sys2Proof.Machine
end

