-- ==== Sys2Proof/Machine/Events.lean ====
section
/-! DEFINITION. The meanings of the event rows. An event that cannot occur in the state it finds (a timer that does not
run expires) changes nothing (assumption log 4); an edge acts whatever the pin's level was (log 5). -/
namespace Sys2Proof.Machine

/-! ### The host link -/

/-- A complete frame for this station (R163, R164). -/
def execHostFrameReceived (kind tag : Byte) (payload : List Byte) (check : BitVec 16) (s : State) :
    Host.Outcome State Fault Refusal :=
  awake (receiveFrame kind tag payload check) s

/-- A byte error; the three kinds count alike (R161), and none within a link break (R162). -/
def execHostByteError (why : LineError) (s : State) : Host.Outcome State Fault Refusal :=
  awake (byteError why.backAtMark) s

/-- A gap above 5 ms (R161). -/
def execFrameGapTimeout (s : State) : Host.Outcome State Fault Refusal := awake frameGap s

/-- A link break of 10 ms (R162). -/
def execLinkBreak (s : State) : Host.Outcome State Fault Refusal := awake linkBroken s

/-- The last byte of a reply has been sent (R163). -/
def execReplySent (s : State) : Host.Outcome State Fault Refusal := awake replyGone s

/-- The silence timer expires (R166). -/
def execHostSilenceExpiry (s : State) : Host.Outcome State Fault Refusal := awake hostSilent s

/-- A byte is received (R161). -/
def execHostByteReceived (byte : Byte) (s : State) : Host.Outcome State Fault Refusal := awake (receiveByte byte) s

/-! ### Trays -/

/-- The level of a tray's PG pin. -/
def setPgPin (i : TrayId) (level : Bool) (s : State) : State :=
  { s with pins := { s.pins with pg := s.pins.pg.set i level } }
/-- The level of a tray's PRSNT pin. -/
def setPresencePin (i : TrayId) (level : Bool) (s : State) : State :=
  { s with pins := { s.pins with prsnt := s.pins.prsnt.set i level } }
/-- The level of a module presence pin. -/
def setModulePin (k : SlotId) (level : Bool) (s : State) : State :=
  { s with pins := { s.pins with modulePresent := s.pins.modulePresent.set k level } }
/-- The level of IFAIL. -/
def setIfailPin (level : Bool) (s : State) : State := { s with pins := { s.pins with ifail := level } }
/-- The level of a valve end switch. -/
def setSwitchPin (l : LoopId) (sw : EndSwitch) (made : Bool) (s : State) : State :=
  match sw with
  | .opened => { s with pins := { s.pins with openSwitch := s.pins.openSwitch.set l made } }
  | .closed => { s with pins := { s.pins with closedSwitch := s.pins.closedSwitch.set l made } }

/-- PG of a tray rises (R8, R13). -/
def execPgRise (tray : TrayId) (s : State) : Host.Outcome State Fault Refusal :=
  awake (pgRises tray) (setPgPin tray true s)

/-- PG of a tray falls (R8, R9, R13). -/
def execPgFall (tray : TrayId) (s : State) : Host.Outcome State Fault Refusal :=
  awake (pgFalls tray) (setPgPin tray false s)

/-- A tray's PRSNT is released (R14). -/
def execPresenceLoss (tray : TrayId) (s : State) : Host.Outcome State Fault Refusal :=
  awake (presenceLost tray) (setPresencePin tray false s)

/-- A tray's PRSNT is asserted (R14). -/
def execPresenceAsserted (tray : TrayId) (s : State) : Host.Outcome State Fault Refusal :=
  awake (presenceBack tray) (setPresencePin tray true s)

/-- The INRUSH wait runs out: FAILED with NO-PG (R8, R10). -/
def inrushWaitEnds (i : TrayId) (s : State) : State :=
  match s.trays[i].state, s.trays[i].timer with
  | .inrush, .inrushWait _ => propagate s (failTray i .noPg s)
  | _, _ => s

/-- INRUSH_WAIT_EXPIRY (R8). -/
def execInrushWaitExpiry (tray : TrayId) (s : State) : Host.Outcome State Fault Refusal :=
  awake (inrushWaitEnds tray) s

/-- The settle timer runs out: ON (R8). -/
def settleEnds (i : TrayId) (s : State) : State :=
  match s.trays[i].state, s.trays[i].timer with
  | .inrush, .settle _ _ => propagate s (reachOn i s)
  | _, _ => s

/-- SETTLE_EXPIRY (R8). -/
def execSettleExpiry (tray : TrayId) (s : State) : Host.Outcome State Fault Refusal := awake (settleEnds tray) s

/-- The stop timer runs out: OFF, or FAILED with STUCK-ON when PG is still asserted (R12). -/
def stopEnds (i : TrayId) (s : State) : State :=
  match s.trays[i].state, s.trays[i].timer with
  | .stopping, .stop _ =>
    propagate s (if s.pins.pg[i] then failTray i .stuckOn s else putTray i (enterOff s.trays[i]) s)
  | _, _ => s

/-- STOP_TIMER_EXPIRY (R12). -/
def execStopTimerExpiry (tray : TrayId) (s : State) : Host.Outcome State Fault Refusal := awake (stopEnds tray) s

/-- An UP run exists that a retried tray can join (R11). -/
def upRunExists (s : State) : Bool := s.run.direction == .up && s.run.state != .idle

/-- The retry goes ahead (R11). -/
def retryAllowed (s : State) (t : Tray) : Bool := t.owner == .auto && t.locks.isEmpty && upRunExists s

/-- A FAILED tray is retried: QUEUED at its place, one more retry used (R11). -/
def retryTray (i : TrayId) (s : State) : State :=
  let t := s.trays[i]
  joinQueue i (putTray i { t with state := .queued, retriesUsed := t.retriesUsed + 1, cause := none,
                                  timer := .idle } s)

/-- The retry is abandoned: TRAY-FAILED is posted as if none had been allowed (R11). -/
def abandonRetry (i : TrayId) (s : State) : State :=
  post .trayFailed (some i.val) (s.trays[i].cause.map failureCauseCode)
    (putTray i { s.trays[i] with timer := .idle } s)

/-- The discharge wait runs out (R11). -/
def dischargeEnds (i : TrayId) (s : State) : State :=
  match s.trays[i].state, s.trays[i].timer with
  | .failed, .discharge _ =>
    propagate s (if retryAllowed s s.trays[i] then retryTray i s else abandonRetry i s)
  | _, _ => s

/-- DISCHARGE_WAIT_EXPIRY (R11). -/
def execDischargeWaitExpiry (tray : TrayId) (s : State) : Host.Outcome State Fault Refusal :=
  awake (dischargeEnds tray) s

/-! ### The module bus -/

/-- A bus cycle starts (R33). -/
def execBusCycleStart (s : State) : Host.Outcome State Fault Refusal := awake busCycle s

/-- A frame, or what the receiver hears of one, comes in on the module bus (R35, R36). -/
def execModuleReplyReceived (frame : BusFrame) (s : State) : Host.Outcome State Fault Refusal :=
  awake (busReply frame) s

/-- The reply window runs out (R35). -/
def execReplyWindowExpiry (s : State) : Host.Outcome State Fault Refusal := awake pollMissed s

/-- A module's presence input is released (R32). -/
def execModulePresenceReleased (slot : SlotId) (s : State) : Host.Outcome State Fault Refusal :=
  awake (moduleReleased slot) (setModulePin slot false s)

/-- A module's presence input is asserted (R32). -/
def execModulePresenceAsserted (slot : SlotId) (s : State) : Host.Outcome State Fault Refusal :=
  awake (moduleAsserted slot) (setModulePin slot true s)

/-! ### The input and the runs -/

/-- IFAIL is asserted (R94, R102). -/
def execIfailAssert (s : State) : Host.Outcome State Fault Refusal := awake ifailAsserted (setIfailPin true s)

/-- IFAIL is released (R95, R100). -/
def execIfailRelease (s : State) : Host.Outcome State Fault Refusal := awake ifailReleased (setIfailPin false s)

/-- The qualify timer runs out (R96). -/
def qualifyEnds (s : State) : State :=
  if s.ilc.state = .sagQualify ∧ s.ilc.qualify.isSome then qualifyFailure s else s

/-- QUALIFY_EXPIRY (R96). -/
def execQualifyExpiry (s : State) : Host.Outcome State Fault Refusal := awake qualifyEnds s

/-- The restore timer runs out (R103). -/
def restoreEnds (s : State) : State :=
  if s.ilc.state = .restoreHold ∧ s.ilc.restore.isSome then restoreNormal s else s

/-- RESTORE_EXPIRY (R103). -/
def execRestoreExpiry (s : State) : Host.Outcome State Fault Refusal := awake restoreEnds s

/-- The start spacing timer runs out and the start rule is evaluated (R112). -/
def startSpacingEnds (s : State) : State :=
  if s.run.startSpacing.isSome then evalStart { s with run := { s.run with startSpacing := none } } else s

/-- START_SPACING_EXPIRY (R112). -/
def execStartSpacingExpiry (s : State) : Host.Outcome State Fault Refusal := awake startSpacingEnds s

/-- The stop spacing timer runs out and the stop rule is evaluated (R117). -/
def stopSpacingEnds (s : State) : State :=
  if s.run.stopSpacing.isSome then evalStop { s with run := { s.run with stopSpacing := none } } else s

/-- STOP_SPACING_EXPIRY (R117). -/
def execStopSpacingExpiry (s : State) : Host.Outcome State Fault Refusal := awake stopSpacingEnds s

/-- AUTO_START_RUN: the automatic power-up run is created when its conditions hold (R181). -/
def execAutoStartRun (s : State) : Host.Outcome State Fault Refusal := awake autoStartTest s

/-! ### Leaks, tests, the profile -/

/-- A scan pass (R129). -/
def execScanPass (readings : Vector CableReading 12) (s : State) : Host.Outcome State Fault Refusal :=
  awake (scan readings) s

/-- A valve end switch edge (R143). -/
def execValveSwitchEdge (loop : LoopId) (switch : EndSwitch) (made : Bool) (s : State) :
    Host.Outcome State Fault Refusal :=
  awake (switchEdge loop switch made) (setSwitchPin loop switch made s)

/-- The travel timer runs out (R143). -/
def travelEnds (l : LoopId) (s : State) : State := if s.loops[l].travel.isSome then travelExpires l s else s

/-- VALVE_TRAVEL_EXPIRY (R143). -/
def execValveTravelExpiry (loop : LoopId) (s : State) : Host.Outcome State Fault Refusal := awake (travelEnds loop) s

/-- The prepare timer runs out (R150). -/
def prepareEnds (s : State) : State :=
  match s.test.phase, s.test.prepare with
  | .prepare, .running _ => abortTest .prepareTimeout s
  | _, _ => s

/-- PREPARE_TIMEOUT (R150). -/
def execPrepareTimeout (s : State) : Host.Outcome State Fault Refusal := awake prepareEnds s

/-- A profile save ends (R177). -/
def execSaveComplete (outcome : SaveOutcome) (s : State) : Host.Outcome State Fault Refusal :=
  awake (endSave outcome) s

/-! ### Resets -/

/-- Power-on (R179, R181). -/
def execPowerOn (pins : Pins) (s : State) : Host.Outcome State Fault Refusal := .next (powerUp pins s)

/-- The RESET pin is asserted (R179). -/
def execResetPinAssert (keep : Bool) (s : State) : Host.Outcome State Fault Refusal := awake (resetAsserted keep) s

/-- The RESET pin is released (R179). -/
def execResetPinRelease (s : State) : Host.Outcome State Fault Refusal := .next (resetReleased s)

/-- The warm reset of a RESTART that has been acknowledged (R180). -/
def restartTakesEffect (s : State) : State := if s.store.restart = .none then s else warmReset .warmCommand s

/-- WARM_COMMAND_RESET (R180). -/
def execWarmCommandReset (s : State) : Host.Outcome State Fault Refusal := awake restartTakesEffect s

end Sys2Proof.Machine
end

