-- ==== Sys2Proof/Machine/Dispatch.lean ====
section
/-! DEFINITION. What each command does to everything but the queue: one arm a constructor. -/
namespace Sys2Proof.Machine

def exec (i : Instr) (s : State) : Host.Outcome State Fault Refusal :=
  match i with
  | .identify tag => Sys2Proof.Machine.execIdentify tag s
  | .getLinkStatus tag clear => Sys2Proof.Machine.execGetLinkStatus tag clear s
  | .arm tag target channel => Sys2Proof.Machine.execArm tag target channel s
  | .restart tag => Sys2Proof.Machine.execRestart tag s
  | .getShelfStatus tag => Sys2Proof.Machine.execGetShelfStatus tag s
  | .takeNotices tag count => Sys2Proof.Machine.execTakeNotices tag count s
  | .saveProfile tag => Sys2Proof.Machine.execSaveProfile tag s
  | .loadProfile tag => Sys2Proof.Machine.execLoadProfile tag s
  | .getShelfParam tag ident => Sys2Proof.Machine.execGetShelfParam tag ident s
  | .setShelfParam tag ident value => Sys2Proof.Machine.execSetShelfParam tag ident value s
  | .getTrays tag first count => Sys2Proof.Machine.execGetTrays tag first count s
  | .getTrayConfig tag tray => Sys2Proof.Machine.execGetTrayConfig tag tray s
  | .setTrayConfig tag tray cfg => Sys2Proof.Machine.execSetTrayConfig tag tray cfg s
  | .trayControlOn tag tray => Sys2Proof.Machine.execTrayControlOn tag tray s
  | .trayControlOff tag tray => Sys2Proof.Machine.execTrayControlOff tag tray s
  | .trayControlHold tag tray => Sys2Proof.Machine.execTrayControlHold tag tray s
  | .trayControlUnhold tag tray => Sys2Proof.Machine.execTrayControlUnhold tag tray s
  | .trayControlPin tag tray => Sys2Proof.Machine.execTrayControlPin tag tray s
  | .trayControlUnpin tag tray => Sys2Proof.Machine.execTrayControlUnpin tag tray s
  | .trayControlOwnerAuto tag tray => Sys2Proof.Machine.execTrayControlOwnerAuto tag tray s
  | .trayControlOwnerManual tag tray => Sys2Proof.Machine.execTrayControlOwnerManual tag tray s
  | .clearFault tag tray => Sys2Proof.Machine.execClearFault tag tray s
  | .getRoster tag => Sys2Proof.Machine.execGetRoster tag s
  | .moduleService tag slot service => Sys2Proof.Machine.execModuleService tag slot service s
  | .getBatteries tag => Sys2Proof.Machine.execGetBatteries tag s
  | .getBbuConfig tag bbu => Sys2Proof.Machine.execGetBbuConfig tag bbu s
  | .setBbuConfig tag bbu eRated maxCharge eFull => Sys2Proof.Machine.execSetBbuConfig tag bbu eRated maxCharge eFull s
  | .runUp tag scope => Sys2Proof.Machine.execRunUp tag scope s
  | .runDown tag scope => Sys2Proof.Machine.execRunDown tag scope s
  | .runSuspend tag => Sys2Proof.Machine.execRunSuspend tag s
  | .runResume tag => Sys2Proof.Machine.execRunResume tag s
  | .runCancel tag => Sys2Proof.Machine.execRunCancel tag s
  | .getRunStatus tag => Sys2Proof.Machine.execGetRunStatus tag s
  | .getInputStatus tag clear => Sys2Proof.Machine.execGetInputStatus tag clear s
  | .getLeak tag => Sys2Proof.Machine.execGetLeak tag s
  | .getLeakChannel tag channel => Sys2Proof.Machine.execGetLeakChannel tag channel s
  | .setLeakChannel tag cfg => Sys2Proof.Machine.execSetLeakChannel tag cfg s
  | .leakRelease tag channel => Sys2Proof.Machine.execLeakRelease tag channel s
  | .valveOpen tag loop => Sys2Proof.Machine.execValveOpen tag loop s
  | .valveClose tag loop => Sys2Proof.Machine.execValveClose tag loop s
  | .getTest tag => Sys2Proof.Machine.execGetTest tag s
  | .testStart tag bbu => Sys2Proof.Machine.execTestStart tag bbu s
  | .testSuspend tag => Sys2Proof.Machine.execTestSuspend tag s
  | .testResume tag => Sys2Proof.Machine.execTestResume tag s
  | .testAbort tag => Sys2Proof.Machine.execTestAbort tag s
  | .hostFrameReceived kind tag payload check => Sys2Proof.Machine.execHostFrameReceived kind tag payload check s
  | .hostByteError why => Sys2Proof.Machine.execHostByteError why s
  | .frameGapTimeout => Sys2Proof.Machine.execFrameGapTimeout s
  | .linkBreak => Sys2Proof.Machine.execLinkBreak s
  | .replySent => Sys2Proof.Machine.execReplySent s
  | .hostSilenceExpiry => Sys2Proof.Machine.execHostSilenceExpiry s
  | .pgRise tray => Sys2Proof.Machine.execPgRise tray s
  | .pgFall tray => Sys2Proof.Machine.execPgFall tray s
  | .presenceLoss tray => Sys2Proof.Machine.execPresenceLoss tray s
  | .presenceAsserted tray => Sys2Proof.Machine.execPresenceAsserted tray s
  | .inrushWaitExpiry tray => Sys2Proof.Machine.execInrushWaitExpiry tray s
  | .settleExpiry tray => Sys2Proof.Machine.execSettleExpiry tray s
  | .stopTimerExpiry tray => Sys2Proof.Machine.execStopTimerExpiry tray s
  | .dischargeWaitExpiry tray => Sys2Proof.Machine.execDischargeWaitExpiry tray s
  | .busCycleStart => Sys2Proof.Machine.execBusCycleStart s
  | .moduleReplyReceived frame => Sys2Proof.Machine.execModuleReplyReceived frame s
  | .replyWindowExpiry => Sys2Proof.Machine.execReplyWindowExpiry s
  | .modulePresenceReleased slot => Sys2Proof.Machine.execModulePresenceReleased slot s
  | .modulePresenceAsserted slot => Sys2Proof.Machine.execModulePresenceAsserted slot s
  | .ifailAssert => Sys2Proof.Machine.execIfailAssert s
  | .ifailRelease => Sys2Proof.Machine.execIfailRelease s
  | .qualifyExpiry => Sys2Proof.Machine.execQualifyExpiry s
  | .restoreExpiry => Sys2Proof.Machine.execRestoreExpiry s
  | .startSpacingExpiry => Sys2Proof.Machine.execStartSpacingExpiry s
  | .stopSpacingExpiry => Sys2Proof.Machine.execStopSpacingExpiry s
  | .autoStartRun => Sys2Proof.Machine.execAutoStartRun s
  | .scanPass readings => Sys2Proof.Machine.execScanPass readings s
  | .valveSwitchEdge loop switch made => Sys2Proof.Machine.execValveSwitchEdge loop switch made s
  | .valveTravelExpiry loop => Sys2Proof.Machine.execValveTravelExpiry loop s
  | .prepareTimeout => Sys2Proof.Machine.execPrepareTimeout s
  | .saveComplete outcome => Sys2Proof.Machine.execSaveComplete outcome s
  | .powerOn pins => Sys2Proof.Machine.execPowerOn pins s
  | .resetPinAssert keep => Sys2Proof.Machine.execResetPinAssert keep s
  | .resetPinRelease => Sys2Proof.Machine.execResetPinRelease s
  | .warmCommandReset => Sys2Proof.Machine.execWarmCommandReset s
  | .hostByteReceived byte => Sys2Proof.Machine.execHostByteReceived byte s

end Sys2Proof.Machine
end

