-- ==== Sys2Proof/Machine/Step.lean ====
section
/-! DEFINITION. One step: the command at the front of the queue, or what the part does by itself when it is empty. -/
namespace Sys2Proof.Machine

/-- One step of the part: it takes the command at the front of the queue; on an empty queue a due bus cycle is put in it,
or one millisecond passes (assumption log 3). -/
def step (s : State) : Host.Outcome State Fault Refusal :=
  match s.pending with
  | c :: rest => exec c { s with pending := rest }
  | [] => .next (idle s)

/-- The state with the command that a word spells put at the front of the queue; no word spells one, because no row
of the table gives bits. -/
def State.withFetchWord (s : State) (nbits w : Nat) : State :=
  match decodeTableWord nbits w with
  | some c => { s with pending := c :: s.pending }
  | none => s

end Sys2Proof.Machine
end

