-- ==== Sys2Proof/Safety.lean ====
section
/-! DEFINITION. What holds of the part at every step: the laws the spec states of its records, as decidable
propositions, and the words in which the statements speak of a request and of what stays the same. -/
namespace Sys2Proof.Machine

/-! ### Laws of the records -/

/-- The notice queue holds at most 32 notices, and the lost count is one byte (R170). -/
abbrev NoticeLaw (s : State) : Prop := s.notices.records.length ≤ 32 ∧ s.notices.lost ≤ 255

/-- The request queue holds at most two requests, the counters stay in their ranges, a reply is being sent only for a
request, and no reply waits while a request is being answered (R163, R167). -/
abbrev LinkLaw (s : State) : Prop :=
  s.hli.queue.length ≤ 2 ∧ s.hli.headerErrors ≤ 65535 ∧ s.hli.payloadErrors ≤ 65535 ∧
  s.hli.byteErrors ≤ 65535 ∧ s.hli.timeouts ≤ 65535 ∧ s.hli.overruns ≤ 65535 ∧
  (s.hli.reply.isSome → s.hli.queue ≠ [])

/-- A tray's lockouts fit its state (R5). -/
abbrev lockLaw (t : Tray) : Prop :=
  (t.state = .queued → t.locks.isEmpty = true) ∧
  (t.enable = true → t.locks.leak = false ∧ t.locks.shed = false)

/-- The timer is one that runs in the state (R2, R8, R12). -/
def timerFits (st : TrayState) (tm : TrayTimer) : Bool :=
  match st, tm with
  | .off, .idle => true
  | .queued, .idle => true
  | .on, .idle => true
  | .inrush, .inrushWait _ => true
  | .inrush, .settle _ _ => true
  | .stopping, .stop _ => true
  | .failed, .idle => true
  | .failed, .discharge _ => true
  | _, _ => false

/-- A tray's timer is one that its state runs, the failure cause is there exactly in FAILED, an OFF tray holds no
staged configuration, and a tray that is not present is OFF (R2, R8, R14, R18). -/
abbrev timerLaw (t : Tray) : Prop :=
  timerFits t.state t.timer = true ∧ (t.cause.isSome = true ↔ t.state = .failed) ∧
  (t.state = .off → t.staged = none) ∧ (t.present = false → t.state = .off)

/-- A tray's place in the run: it is in the start queue exactly while it is QUEUED, and is a member then; in a stop queue
only while it may stand there, and a member only while it is neither OFF nor MANUAL (R6, R109, R110, R116). -/
abbrev placeLaw (s : State) (i : TrayId) : Prop :=
  (i ∈ s.run.startQueue ↔ s.trays[i].state = .queued) ∧
  (i ∈ s.run.startQueue → i ∈ s.run.members) ∧
  (i ∈ s.run.stopQueue → s.trays[i].stoppable = true) ∧
  (i ∈ s.run.members → s.trays[i].state ≠ .off ∧ s.trays[i].owner = .auto) ∧
  (s.trays[i].state = .queued → s.trays[i].present = true ∧ s.trays[i].owner = .auto)

/-- Only the queue of the run's direction holds trays, and none does in IDLE; no tray stands twice (R108, R109,
R116). -/
abbrev queueLaw (r : RunRecord) : Prop :=
  r.startQueue.Nodup ∧ r.stopQueue.Nodup ∧
  (r.startQueue ≠ [] → r.direction = .up ∧ r.state ≠ .idle) ∧
  (r.stopQueue ≠ [] → r.direction = .down ∧ r.state ≠ .idle)

/-- The laws of the tray table and the run record (R2, R5, R6, R14, R108 to R110, R116). -/
abbrev TrayLaw (s : State) : Prop :=
  (∀ i : TrayId, lockLaw s.trays[i] ∧ timerLaw s.trays[i] ∧ placeLaw s i) ∧ queueLaw s.run

/-- Tray `a` stands before tray `b` in the start queue: lower rank, and at one rank lower index (R109). -/
abbrev StartsFirst (s : State) (a b : TrayId) : Prop :=
  s.trays[a].cfg.rank < s.trays[b].cfg.rank ∨ (s.trays[a].cfg.rank = s.trays[b].cfg.rank ∧ a < b)

/-- Tray `a` stands before tray `b` in the stop queue: higher rank, and at one rank higher index (R116). -/
abbrev StopsFirst (s : State) (a b : TrayId) : Prop :=
  s.trays[b].cfg.rank < s.trays[a].cfg.rank ∨ (s.trays[b].cfg.rank = s.trays[a].cfg.rank ∧ b < a)

/-- Each queue stands in its order (R109, R116). -/
abbrev OrderLaw (s : State) : Prop :=
  s.run.startQueue.Pairwise (StartsFirst s) ∧ s.run.stopQueue.Pairwise (StopsFirst s)

/-- The input loss record: which level of IFAIL, which timer and which stage each shelf power state has (R92, R97). -/
abbrev ShelfLaw (s : State) : Prop :=
  s.ilc.ifail = expectedIfail s.ilc.state ∧
  (s.ilc.qualify.isSome ↔ s.ilc.state = .sagQualify) ∧
  (s.ilc.restore.isSome ↔ s.ilc.state = .restoreHold) ∧
  s.ilc.stage ≤ 3 ∧ (s.ilc.state = .normal ∨ s.ilc.state = .sagQualify → s.ilc.stage = 0)

/-- No battery test is active in RIDE-THROUGH, RESTORE-HOLD or EXHAUSTED, and only an active one in PREPARE or
DISCHARGE is suspended (R147). -/
abbrev TestLaw (s : State) : Prop :=
  (s.testActive = true → (s.ilc.state = .normal ∨ s.ilc.state = .sagQualify) ∧ s.test.target.isSome) ∧
  (s.test.suspended = true → s.test.phase = .prepare ∨ s.test.phase = .discharge) ∧
  (s.test.outcome.isSome ↔ s.test.phase = .done)

/-- Every valve's drive fits its state, and a valve that is required closed is driven closed (R139, R140). -/
abbrev ValveLaw (s : State) : Prop :=
  ∀ l : LoopId,
    (s.loops[l].valve = .closing ∨ s.loops[l].valve = .closed → s.loops[l].drive = true) ∧
    (s.loops[l].valve = .opening ∨ s.loops[l].valve = .opened → s.loops[l].drive = false) ∧
    (requiredClosed s l = true → s.loops[l].drive = true)

/-- A loop is escalated exactly while two or more of its channels are in ALARM, a channel is DISABLED exactly while it
is not enabled, and a tray carries LEAK exactly while a channel or an escalation covers it (R128, R134, R135). -/
abbrev LeakLaw (s : State) : Prop :=
  (∀ l : LoopId, s.loops[l].escalated = decide (2 ≤ alarmsIn s l)) ∧
  (∀ c : ChannelId, s.channels[c].state = .disabled ↔ s.channels[c].cfg.enabled = false) ∧
  (∀ i : TrayId, s.trays[i].locks.leak = mustLeak s i)

/-- The charge grants fit in what is left of C after margin and committed load, there are none outside NORMAL (R83), and
none goes to a unit that has not been CHARGING at an arrival since it was put in service again (R49). -/
abbrev GrantLaw (s : State) : Prop :=
  s.grantTotal ≤ s.grantAvail ∧ ∀ b : BbuId, s.bbus[b].awaitsCharging = true → s.bbus[b].grant = 0

/-- No run stands complete between two commands (R114, R117). -/
abbrev OpenLaw (s : State) : Prop := upComplete s = false ∧ downComplete s = false

/-- A NORMAL shelf whose live load is above its capacity has no tray left that a deficit could shed (R86 to R88). -/
abbrev DeficitLaw (s : State) : Prop :=
  s.ilc.state = .normal → s.kLive ≤ s.budget.c ∨ deficitCandidates s = []

/-- The bus driver is released between two commands, and without a poll in flight the framer holds no part of a frame
(R30, R35). -/
abbrev BusLaw (s : State) : Prop := s.mbc.driver = false ∧ (s.mbc.poll = none → s.mbc.framer = .hunt)

/-- All of them together, the premise under which each is kept. -/
abbrev Laws (s : State) : Prop :=
  NoticeLaw s ∧ LinkLaw s ∧ BusLaw s ∧ TrayLaw s ∧ OrderLaw s ∧ ShelfLaw s ∧ TestLaw s ∧ ValveLaw s ∧ LeakLaw s ∧
  GrantLaw s ∧ OpenLaw s ∧ DeficitLaw s

/-! ### A request and its reply -/

/-- A request that arrives now is taken at once: no RESET, an empty request queue, no RESTART on its way (R163). -/
abbrev Ready (s : State) : Prop := s.held = none ∧ s.hli.queue = [] ∧ s.store.restart = .none

/-- The part as the owning block of a request finds it: the request stands in the queue, the silence timer has been
restarted and the arm target consumed (R163, R165, R166). -/
def asked (r : Request) (s : State) : State :=
  { s with hli := { s.hli with
      framer := .hunt, inBreak := false, queue := [r], arm := none,
      silence := silenceStart s.params.hostSilence } }

/-- The part with the reply to a request being sent (R163, R164). -/
def replying (r : Request) (a : Answer) (s : State) : State :=
  { s with hli := { s.hli with
      reply := some { kind := (replyOf r.kind a).1, tag := r.tag, payload := (replyOf r.kind a).2 } } }

/-- The part after a request that changes nothing but the link, answered with `a`. -/
def answered (r : Request) (a : Answer) (s : State) : State := replying r a (asked r s)

/-- The part after a request that changes nothing but the link, acknowledged without flags. -/
def acked (r : Request) (s : State) : State := answered r (.ack false false) s

/-- The part after a request refused with a code. -/
def turnedAway (r : Request) (code : RefusalCode) (s : State) : State := answered r (.refused code) s

/-- The bytes of a SET-LEAK-CHANNEL payload (Message and Record Layouts). -/
def leakConfigBytes (g : RawChannelConfig) : List Byte :=
  le8 g.channel ++ le8 g.enabled ++ le8 g.loop ++ le8 g.isolate ++ le8 g.closeValve ++ le8 g.nC ++ le8 g.nF ++
  le8 g.count ++ g.trays.flatMap le8

/-- The fourteen bytes of a tray configuration as a request carries it (Message and Record Layouts). -/
def rawTrayBytes (g : RawTrayConfig) : List Byte :=
  le16 g.alloc ++ le16 g.surge ++ le16 g.pgTimeout ++ le16 g.settle ++ le16 g.stopTime ++ le8 g.rank ++
  le8 g.shedClass ++ le8 g.pinned ++ le8 g.retries

/-- The kind, the tag and the payload of the frame that carries a request row (Message and Record Layouts). -/
def requestFrame : Instr → Option (Byte × Byte × List Byte)
  | .identify tag => some (0x01, tag, [])
  | .getLinkStatus tag clear => some (0x02, tag, le8 clear)
  | .arm tag target channel => some (0x03, tag, le8 target ++ le8 channel)
  | .restart tag => some (0x04, tag, [])
  | .getShelfStatus tag => some (0x05, tag, [])
  | .takeNotices tag count => some (0x06, tag, le8 count)
  | .saveProfile tag => some (0x07, tag, [])
  | .loadProfile tag => some (0x08, tag, [])
  | .getShelfParam tag ident => some (0x09, tag, le8 ident)
  | .setShelfParam tag ident value => some (0x0A, tag, le8 ident ++ le32 value)
  | .getTrays tag first count => some (0x10, tag, le8 first ++ le8 count)
  | .getTrayConfig tag tray => some (0x11, tag, le8 tray)
  | .setTrayConfig tag tray cfg => some (0x12, tag, le8 tray ++ rawTrayBytes cfg)
  | .trayControlOn tag tray => some (0x13, tag, le8 tray ++ le8 0)
  | .trayControlOff tag tray => some (0x13, tag, le8 tray ++ le8 1)
  | .trayControlHold tag tray => some (0x13, tag, le8 tray ++ le8 2)
  | .trayControlUnhold tag tray => some (0x13, tag, le8 tray ++ le8 3)
  | .trayControlPin tag tray => some (0x13, tag, le8 tray ++ le8 4)
  | .trayControlUnpin tag tray => some (0x13, tag, le8 tray ++ le8 5)
  | .trayControlOwnerAuto tag tray => some (0x13, tag, le8 tray ++ le8 6)
  | .trayControlOwnerManual tag tray => some (0x13, tag, le8 tray ++ le8 7)
  | .clearFault tag tray => some (0x14, tag, le8 tray)
  | .getRoster tag => some (0x18, tag, [])
  | .moduleService tag slot service => some (0x19, tag, le8 slot ++ le8 service)
  | .getBatteries tag => some (0x1A, tag, [])
  | .getBbuConfig tag bbu => some (0x1B, tag, le8 bbu)
  | .setBbuConfig tag bbu eRated maxCharge eFull =>
    some (0x1C, tag, le8 bbu ++ le32 eRated ++ le16 maxCharge ++ le32 eFull)
  | .runUp tag scope => some (0x20, tag, scope)
  | .runDown tag scope => some (0x21, tag, scope)
  | .runSuspend tag => some (0x22, tag, [])
  | .runResume tag => some (0x23, tag, [])
  | .runCancel tag => some (0x24, tag, [])
  | .getRunStatus tag => some (0x25, tag, [])
  | .getInputStatus tag clear => some (0x28, tag, le8 clear)
  | .getLeak tag => some (0x30, tag, [])
  | .getLeakChannel tag channel => some (0x31, tag, le8 channel)
  | .setLeakChannel tag cfg => some (0x32, tag, leakConfigBytes cfg)
  | .leakRelease tag channel => some (0x33, tag, le8 channel)
  | .valveOpen tag loop => some (0x34, tag, le8 loop)
  | .valveClose tag loop => some (0x35, tag, le8 loop)
  | .getTest tag => some (0x38, tag, [])
  | .testStart tag bbu => some (0x39, tag, le8 bbu)
  | .testSuspend tag => some (0x3A, tag, [])
  | .testResume tag => some (0x3B, tag, [])
  | .testAbort tag => some (0x3C, tag, [])
  | _ => none

/-- The kinds whose payload has one length, with that length (Message and Record Layouts). -/
def fixedKinds : List (Nat × Nat) :=
  [(0x01, 0), (0x02, 1), (0x03, 2), (0x04, 0), (0x05, 0), (0x06, 1), (0x07, 0), (0x08, 0), (0x09, 1), (0x0A, 5),
   (0x10, 2), (0x11, 1), (0x12, 15), (0x13, 2), (0x14, 1), (0x18, 0), (0x19, 2), (0x1A, 0), (0x1B, 1), (0x1C, 11),
   (0x22, 0), (0x23, 0), (0x24, 0), (0x25, 0), (0x28, 1), (0x30, 0), (0x31, 1), (0x33, 1), (0x34, 1), (0x35, 1),
   (0x38, 0), (0x39, 1), (0x3A, 0), (0x3B, 0), (0x3C, 0)]

/-- The kinds whose payload length depends on its contents (Message and Record Layouts). -/
def variableKinds : List Nat := [0x20, 0x21, 0x32]

/-- Commands one after another, stopping at the first that does not answer a next state. -/
def execAll : List Instr → State → Host.Outcome State Fault Refusal
  | [], s => .next s
  | c :: cs, s =>
    match exec c s with
    | .next t => execAll cs t
    | .fault f => .fault f
    | .refused r => .refused r

/-- The command ends a reset that the RESET pin holds (R179). -/
def endsReset : Instr → Bool
  | .powerOn _ => true
  | .resetPinRelease => true
  | _ => false

/-- Why the scope bytes of a run request are refused, if they are: first an undefined kind, then a length that does not
fit the kind or a count of trays above 24, then a rank above 15 or a tray above 23 (R182); no bytes at all are a wrong
length (assumption log 21). -/
def scopeFault (bytes : List Byte) : Option RefusalCode :=
  match bytes with
  | [] => some .badLength
  | kind :: rest =>
    if 2 < kind.toNat then some .badIndex
    else if kind = 0 ∧ rest.length ≠ 0 then some .badLength
    else if kind = 1 ∧ rest.length ≠ 2 then some .badLength
    else if kind = 2 ∧ (rest = [] ∨ 24 < (rest.headD 0).toNat ∨ rest.length ≠ 1 + (rest.headD 0).toNat) then
      some .badLength
    else if kind = 1 ∧ (∃ rank ∈ rest, 15 < rank.toNat) then some .badIndex
    else if kind = 2 ∧ (∃ tray ∈ rest.tail, 23 < tray.toNat) then some .badIndex
    else none

/-- The tray is in the scope that well-formed scope bytes give: every tray, the trays whose rank lies between the two
ranks, both included, or the trays named (R118, R119, R182). -/
def bytesSelect (bytes : List Byte) (s : State) (i : TrayId) : Bool :=
  match bytes with
  | [1, lowest, highest] =>
    decide (lowest.toNat ≤ s.trays[i].cfg.rank) && decide (s.trays[i].cfg.rank ≤ highest.toNat)
  | 2 :: _ :: trays => trays.any fun b => b.toNat == i.val
  | _ => true

/-- The scope that well-formed scope bytes give a run, the trays it names in ascending order (R108, R182). -/
def scopeOf (bytes : List Byte) : Scope :=
  match bytes with
  | [1, lowest, highest] => .ranks lowest.toNat highest.toNat
  | 2 :: _ :: trays => .trays (allTrays.filter fun i => trays.any fun b => b.toNat == i.val)
  | _ => .all

/-- The next notice after those held in `s` is this one, when the queue has room for it (R170). -/
abbrev NoticeNext (n : Notice) (s t : State) : Prop :=
  s.notices.records.length < 32 → s.notices.records ++ [n] <+: t.notices.records

/-- The notice is held in `t` if the queue has room left, so that no notice can have been lost on the way to `t`
(R170). -/
abbrev NoticeIn (n : Notice) (t : State) : Prop := t.notices.records.length < 32 → n ∈ t.notices.records

/-- The notices of one kind are those of before: the command has posted none of it. -/
abbrev NoneOfKind (k : NoticeKind) (s t : State) : Prop :=
  (t.notices.records.filter fun n => n.kind == k) = s.notices.records.filter fun n => n.kind == k

/-! ### What stays the same -/

/-- What a change of trays and its consequences (budget, runs, grants, notices) leave alone: every record but the
trays, the run, the grants, the two deficit flags and the notices. -/
structure TraySideOnly (s t : State) : Prop where
  time : t.time = s.time
  pins : t.pins = s.pins
  mbc : t.mbc = s.mbc
  rects : t.rects = s.rects
  bbus : ∀ b : BbuId, { t.bbus[b] with grant := 0 } = { s.bbus[b] with grant := 0 }
  capacity : t.budget.c = s.budget.c
  floorEff : t.budget.floorEff = s.budget.floorEff
  ilc : t.ilc = s.ilc
  channels : t.channels = s.channels
  loops : t.loops = s.loops
  stagedScan : t.stagedScan = s.stagedScan
  nextScan : t.nextScan = s.nextScan
  test : t.test = s.test
  hli : t.hli = s.hli
  store : t.store = s.store
  params : t.params = s.params
  held : t.held = s.held
  freeCount : t.freeCount = s.freeCount
  pending : t.pending = s.pending

/-- Every pin reads what the records say of it, so a reread after a warm reset finds nothing new (R29, R51, R107,
R146). -/
abbrev PinsAgree (s : State) : Prop :=
  (∀ i : TrayId, s.trays[i].present = s.pins.prsnt[i]) ∧
  (∀ i : TrayId, expectedPg s.trays[i] = none ∨ expectedPg s.trays[i] = some s.pins.pg[i]) ∧
  (∀ k : SlotId, s.mbc.slots[k].present = s.pins.modulePresent[k]) ∧
  s.pins.ifail = expectedIfail s.ilc.state ∧
  (∀ l : LoopId, s.loops[l].openSwitch = s.pins.openSwitch[l] ∧ s.loops[l].closedSwitch = s.pins.closedSwitch[l])

/-- The presence, end switch and IFAIL records read as their pins do (R14, R32, R92, R139). -/
abbrev PinsRead (s : State) : Prop :=
  (∀ i : TrayId, s.trays[i].present = s.pins.prsnt[i]) ∧
  (∀ k : SlotId, s.mbc.slots[k].present = s.pins.modulePresent[k]) ∧
  s.ilc.ifail = s.pins.ifail ∧
  (∀ l : LoopId, s.loops[l].openSwitch = s.pins.openSwitch[l] ∧ s.loops[l].closedSwitch = s.pins.closedSwitch[l])

/-- A warm reset finds nothing to shed for: no deficit in NORMAL, in RIDE-THROUGH a reserve and no higher stage, in
RESTORE-HOLD no fall of the reserve to 0 (R86, R97, R99). -/
abbrev RackAtRest (s : State) : Prop :=
  (s.ilc.state = .normal → s.kLive ≤ s.budget.c) ∧
  (s.ilc.state = .rideThrough → s.reserve ≠ 0 ∧ reachedStage s.params s.tEst ≤ s.ilc.stage) ∧
  (s.ilc.state = .restoreHold → s.reserve ≠ 0 ∨ s.ilc.lastR = 0)

/-- The command `c` ends a warm reset of kind `k`: the release of a RESET pin asserted with KEEP high, or the reset of a
RESTART. One whose ACK is still being sent counts as sent (R179, R180; assumption log 16). -/
abbrev EndsWarmReset (c : Instr) (k : ResetKind) (s : State) : Prop :=
  (c = .resetPinRelease ∧ k = .warmPin ∧ s.held = some .warmPin) ∨
  (c = .warmCommandReset ∧ k = .warmCommand ∧ s.held = none ∧ s.store.restart ≠ .none)

/-- What a warm reset of kind `k` keeps, restarts and sets, with every pin reading as recorded, no deficit, and a reserve
that calls for no shedding (R29, R51, R73, R91, R107, R127, R146, R159, R169, R170, R179). The first poll of the new bus
cycle is under way. -/
abbrev WarmKept (k : ResetKind) (s t : State) : Prop :=
  t.time = s.time ∧ t.pins = s.pins ∧ t.held = none ∧
  (∀ i : TrayId, t.trays[i] = restartTimer s.trays[i]) ∧
  t.mbc =
    { slots := Vector.ofFn fun j => { s.mbc.slots[j] with missCount := 0 }
      schedule := (presentSlots s).tail
      poll := (presentSlots s).head?.map fun j =>
        { slot := j, tag := 0, payload := pollPayload t j, inService := slotInService s j, window := 3 }
      driver := false, framer := .hunt, tag := if presentSlots s = [] then 0 else 1, stagedPeriod := none
      nextCycle := s.time + t.params.period, rosterReady := decide (presentSlots s = []) } ∧
  t.rects = s.rects ∧
  (∀ b : BbuId, { t.bbus[b] with grant := 0 } =
    { s.bbus[b] with grant := 0, testPower := if s.isTarget b then 0 else s.bbus[b].testPower }) ∧
  t.budget.c = s.budget.c ∧ t.budget.deficitActive = false ∧ t.budget.deficitUnresolved = false ∧
  t.ilc =
    { s.ilc with
      qualify := s.ilc.qualify.map fun _ => s.params.qualifyTime
      restore := s.ilc.restore.map fun _ => s.params.restoreHold * 1000
      lastR := s.reserve, lastTEst := s.tEst } ∧
  t.run =
    { s.run with
      state := if s.run.state = .running ∨ s.run.state = .held then .suspended else s.run.state, blocked := none,
      startSpacing := spacingStart s.params.startSpacing, stopSpacing := spacingStart s.params.stopSpacing } ∧
  t.channels = s.channels ∧
  (∀ l : LoopId, t.loops[l] =
    { s.loops[l] with travel := s.loops[l].travel.map fun _ => s.params.valveTravel * 1000 }) ∧
  t.stagedScan = none ∧ t.nextScan = s.time ∧
  t.params =
    { s.params with period := s.mbc.stagedPeriod.getD s.params.period,
                    scanInterval := s.stagedScan.getD s.params.scanInterval } ∧
  t.test = (if s.testActive then
      { s.test with phase := .done, prepare := .stopped, suspended := false, outcome := some (.aborted .reset) }
    else s.test) ∧
  t.hli = freshHostLink s.pins.addr s.pins.rate s.params.hostSilence ∧
  t.notices.lost = 0 ∧
  t.notices.records =
    { kind := .reset, subject := none, value := some (resetKindCode k), time := s.time } ::
    (if s.testActive then
      [{ kind := .testDone, subject := s.targetSlot, value := some 5, time := s.time }] else []) ∧
  t.store =
    { s.store with saving := none, autoPending := false, restart := .none, lastReset := k,
                   warmCount := min 255 (s.store.warmCount + 1) }

/-- The trays picked by their records are shed and no other tray changes (R16): INRUSH and ON go STOPPING with the stop
timer at full length, QUEUED goes OFF, FAILED waiting to retry keeps its state, and each gains SHED; a tray in any
other state is left. -/
abbrev ShedWhere (picked : Tray → Bool) (s t : State) : Prop :=
  ∀ i : TrayId,
    (picked s.trays[i] = true → s.trays[i].state = .inrush ∨ s.trays[i].state = .on →
      t.trays[i] =
        { s.trays[i] with
          state := .stopping, timer := .stop s.trays[i].cfg.stopTime,
          locks := { s.trays[i].locks with shed := true } }) ∧
    (picked s.trays[i] = true → s.trays[i].state = .queued →
      t.trays[i] = enterOff { s.trays[i] with locks := { s.trays[i].locks with shed := true } }) ∧
    (picked s.trays[i] = true → s.trays[i].state = .failed → s.trays[i].retryPending = true →
      t.trays[i] = { s.trays[i] with locks := { s.trays[i].locks with shed := true } }) ∧
    (picked s.trays[i] = false ∨ s.trays[i].state = .off ∨ s.trays[i].state = .stopping ∨
        (s.trays[i].state = .failed ∧ s.trays[i].retryPending = false) →
      t.trays[i] = s.trays[i])

/-- The tray belongs to the classes that stage k sheds (R98). -/
def inStage (k : Nat) (t : Tray) : Bool := decide (1 ≤ t.cfg.shedClass) && decide (t.cfg.shedClass ≤ k)

/-- The tray would be shed by a stage of its class, or by exhaustion (R98, R99). -/
def goesWithStage (t : Tray) : Bool :=
  t.state == .queued || t.state == .inrush || t.state == .on || (t.state == .failed && t.retryPending)

/-- What a shelf that leaves NORMAL, or changes state outside it, gives the other blocks (R84, R86, R93, R115): the
grants are 0, no deficit is in progress, and an UP run that runs is HELD. -/
def heldBack (s : State) : State :=
  { s with
    bbus := Vector.ofFn fun b => { s.bbus[b] with grant := 0 }
    budget := { s.budget with deficitActive := false, deficitUnresolved := false }
    run :=
      if s.run.direction = .up ∧ s.run.state = .running then { s.run with state := .held, blocked := none }
      else s.run }

/-- The tray is one that a run of a scope it is in can place in the start queue (R118, R123). -/
def joins (t : Tray) : Bool := t.present && t.state == .off && t.owner == .auto && t.locks == noLockouts

/-- The tray is one that a run of a scope it is in can place in the stop queue (R116). -/
def stops (t : Tray) : Bool :=
  (t.state == .inrush || t.state == .on) && t.owner == .auto && !t.cfg.pinned

/-- The tray is one that a run takes up again once SHED is cleared: it carries SHED and nothing else, and would join a
run without it (R123). -/
def recoverable (t : Tray) : Bool := t.locks.shed && joins (freeShed t)

/-! ### A deficit (R87) -/

/-- The tray can be shed for a deficit (R87). -/
def canBeShed (t : Tray) : Bool :=
  (t.state == .inrush || t.state == .on) && decide (1 ≤ t.cfg.shedClass) && decide (t.cfg.shedClass ≤ 3)

/-- A deficit sheds tray `a` before tray `b`: class 1 first; within a class the highest rank first; within a rank the
highest index first (R87). -/
def shedFirst (s : State) (a b : TrayId) : Bool :=
  decide (s.trays[a].cfg.shedClass < s.trays[b].cfg.shedClass) ||
  (s.trays[a].cfg.shedClass == s.trays[b].cfg.shedClass &&
    (decide (s.trays[b].cfg.rank < s.trays[a].cfg.rank) ||
     (s.trays[a].cfg.rank == s.trays[b].cfg.rank && decide (b < a))))

/-- The watts by which K_live falls when every tray of a set is shed (R76, R87). -/
def shedWatts (s : State) (p : TrayId → Bool) : Nat :=
  ((allTrays.filter fun i => canBeShed s.trays[i] && p i).map fun i => s.trays[i].counted).sum

/-- A deficit against the capacity `c` sheds the tray: when its turn comes, K_live is still above `c` (R87). -/
def shedForDeficit (s : State) (c : Nat) (i : TrayId) : Bool :=
  canBeShed s.trays[i] && decide (c + shedWatts s (fun j => shedFirst s j i) < s.kLive)

/-- The tray waits in the start queue, or has been started from it. -/
abbrev Joined (t : Tray) : Prop := t.state = .queued ∨ t.state = .inrush ∨ t.state = .on

/-- What the recovery rule makes of the trays freed of SHED (R123). With auto-recover on, in IDLE a new UP run of exactly
the recoverable trays is made, and an UP run takes them in, a SUSPENDED one without starting any; every other tray
outside the start queue is passed by and has lost SHED only. -/
abbrev RecoveryTaken (s t : State) : Prop :=
  (s.params.autoRecover = true →
    (s.run.state = .idle → (∃ i : TrayId, recoverable s.trays[i] = true) →
      t.run.direction = .up ∧ t.run.scope = .trays (allTrays.filter fun i => recoverable s.trays[i]) ∧
      ∀ i : TrayId, recoverable s.trays[i] = true → Joined t.trays[i]) ∧
    (s.run.state ≠ .idle → s.run.direction = .up →
      ∀ i : TrayId, recoverable s.trays[i] = true →
        Joined t.trays[i] ∧
        (s.run.state = .suspended →
          t.trays[i].state = .queued ∧ i ∈ t.run.startQueue ∧ i ∈ t.run.members))) ∧
  (∀ i : TrayId, s.trays[i].state ≠ .queued →
    recoverable s.trays[i] = false ∨ s.params.autoRecover = false ∨
      (s.run.direction = .down ∧ s.run.state ≠ .idle) →
    t.trays[i] = freeShed s.trays[i])

/-- The end of an UP run that has no tray left to start, tested after a command has changed a tray (R114). While a member
is in INRUSH or waits to retry the run goes on; otherwise it is IDLE without members, and RUN-DONE carries the numbers of
its members in ON and in FAILED, in the low and the high byte. -/
abbrev UpRunEnds (s t : State) : Prop :=
  s.run.direction = .up → s.run.state = .running ∨ s.run.state = .held → s.run.startQueue = [] →
    ((∃ i ∈ s.run.members, t.trays[i].state = .inrush ∨ t.trays[i].retryPending = true) →
      t.run.state = s.run.state ∧ NoneOfKind .runDone s t) ∧
    ((∀ i ∈ s.run.members, t.trays[i].state ≠ .inrush ∧ t.trays[i].retryPending = false) →
      t.run = { s.run with state := .idle, members := [], blocked := none } ∧
      NoticeIn
        { kind := .runDone, subject := some 0
          value := some
            ((s.run.members.filter fun i => t.trays[i].state == .on).length +
              256 * (s.run.members.filter fun i => t.trays[i].state == .failed).length)
          time := s.time } t)

/-- What the rack makes of the capacity that `t` holds, from the one in `s` (R77, R86 to R89, R123). Outside NORMAL no
tray changes. In NORMAL an unchanged C leaves every tray but those of the start queue; a changed one is evaluated for a
deficit and its flags follow; a fall sheds in the order of R87 and posts CAPACITY-DEFICIT, SHED-TRAY for each tray, and
DEFICIT-UNRESOLVED where all candidates do not suffice; a rise clears SHED everywhere, and, where it is not too small
for K_live, recovery takes up the trays freed and passes the others by. -/
abbrev CapacityTaken (s t : State) : Prop :=
  (s.ilc.state ≠ .normal → t.trays = s.trays) ∧
  (t.budget.c = s.budget.c →
    NoneOfKind .capacityDeficit s t ∧ NoneOfKind .shedTray s t ∧
    ∀ i : TrayId, s.trays[i].state ≠ .queued → t.trays[i] = s.trays[i]) ∧
  (s.ilc.state = .normal → t.budget.c ≠ s.budget.c →
    t.budget.deficitActive = decide (t.budget.c + shedWatts s (fun _ => true) < s.kLive) ∧
    t.budget.deficitUnresolved = decide (t.budget.c + shedWatts s (fun _ => true) < s.kLive) ∧
    (s.kLive ≤ t.budget.c →
      NoneOfKind .capacityDeficit s t ∧ NoneOfKind .shedTray s t ∧ NoneOfKind .deficitUnresolved s t) ∧
    (t.budget.c < s.kLive → s.budget.deficitActive = false →
      NoticeIn
        { kind := .capacityDeficit, subject := none, value := some (s.kLive - t.budget.c), time := s.time } t) ∧
    (s.budget.deficitActive = true → NoneOfKind .capacityDeficit s t) ∧
    (t.budget.c + shedWatts s (fun _ => true) < s.kLive →
      s.budget.deficitActive = false ∨ s.budget.deficitUnresolved = false →
      NoticeIn
        { kind := .deficitUnresolved, subject := none
          value := some (s.kLive - shedWatts s (fun _ => true) - t.budget.c), time := s.time } t) ∧
    (∀ i : TrayId, shedForDeficit s t.budget.c i = true →
      NoticeIn
        { kind := .shedTray, subject := some i.val, value := some s.trays[i].counted, time := s.time } t)) ∧
  (s.ilc.state = .normal → t.budget.c < s.budget.c →
    ∀ i : TrayId,
      (shedForDeficit s t.budget.c i = true →
        t.trays[i] =
          { s.trays[i] with
            state := .stopping, timer := .stop s.trays[i].cfg.stopTime,
            locks := { s.trays[i].locks with shed := true } }) ∧
      (shedForDeficit s t.budget.c i = false → s.trays[i].state ≠ .queued → t.trays[i] = s.trays[i])) ∧
  (s.ilc.state = .normal → s.budget.c < t.budget.c →
    (∀ i : TrayId, t.trays[i].locks.shed = false) ∧
    (s.kLive ≤ t.budget.c → RecoveryTaken s t))

/-- What the input loss controller makes of the reserve and the estimate that `t` holds (R92, R97 to R99): both are
stored; in RIDE-THROUGH a reserve of 0 exhausts the shelf, and otherwise a higher stage is taken with its set shed; in
RESTORE-HOLD a fall of the reserve to 0 exhausts it and the restore hold starts afresh; outside NORMAL no other tray
changes. -/
abbrev ReserveTaken (s t : State) : Prop :=
  (s.ilc.state = .normal ∨ s.ilc.state = .sagQualify ∨ s.ilc.state = .exhausted ∨
      (s.ilc.state = .restoreHold ∧ (t.reserve ≠ 0 ∨ s.ilc.lastR = 0)) →
    t.ilc = { s.ilc with lastR := t.reserve, lastTEst := t.tEst } ∧
    (s.ilc.state ≠ .normal → t.trays = s.trays)) ∧
  (s.ilc.state = .rideThrough → t.reserve ≠ 0 →
    t.ilc =
      { s.ilc with
        lastR := t.reserve, lastTEst := t.tEst, stage := max s.ilc.stage (reachedStage s.params t.tEst) } ∧
    (reachedStage s.params t.tEst ≤ s.ilc.stage → t.trays = s.trays ∧ NoneOfKind .shedStage s t) ∧
    (s.ilc.stage < reachedStage s.params t.tEst →
      ShedWhere (inStage (reachedStage s.params t.tEst)) s t ∧
      NoticeIn
        { kind := .shedStage, subject := some (reachedStage s.params t.tEst)
          value := some (allTrays.filter fun i =>
            inStage (reachedStage s.params t.tEst) s.trays[i] && goesWithStage s.trays[i]).length
          time := s.time } t)) ∧
  (s.ilc.state = .rideThrough ∨ (s.ilc.state = .restoreHold ∧ 0 < s.ilc.lastR) → t.reserve = 0 →
    t.ilc =
      { s.ilc with
        lastR := 0, lastTEst := t.tEst
        state := if s.ilc.state = .rideThrough then .exhausted else .restoreHold
        restore := if s.ilc.state = .rideThrough then none else some (s.params.restoreHold * 1000) } ∧
    ShedWhere (fun _ => true) s t ∧
    NoticeIn
      { kind := .reserveExhausted, subject := none
        value := some (allTrays.filter fun i => goesWithStage s.trays[i]).length, time := s.time } t)

/-- The first state with the records that the budget, the runs and the trays may change taken from the second: trays,
run, budget, battery records, notices, and the auto-start mark. -/
def withRackOf (s t : State) : State :=
  { s with
    trays := t.trays, run := t.run, budget := t.budget, bbus := t.bbus, notices := t.notices,
    store := { s.store with autoPending := t.store.autoPending } }

/-- Of the battery records nothing but the charge grants has changed. -/
abbrev GrantsOnly (s t : State) : Prop :=
  ∀ b : BbuId, { t.bbus[b] with grant := 0 } = { s.bbus[b] with grant := 0 }

/-- A battery test that has been aborted for a reason (R156). -/
def abortedTest (why : AbortReason) (r : TestRecord) : TestRecord :=
  { r with phase := .done, prepare := .stopped, suspended := false, outcome := some (.aborted why) }

end Sys2Proof.Machine
end

