-- ==== Sys2Proof/WellFormed.lean ====
section
/-! DEFINITION. Which commands can be spelled on the part's links: every payload field fits its bytes and no payload
is longer than a frame carries. A command that is not well formed cannot arrive; the meanings are total on it all the same. -/
namespace Sys2Proof

/-- The value fits a one-byte field. -/
def fits1 (n : Nat) : Bool := decide (n < 256)
/-- The value fits a two-byte field. -/
def fits2 (n : Nat) : Bool := decide (n < 65536)
/-- The value fits a four-byte field. -/
def fits4 (n : Nat) : Bool := decide (n < 4294967296)

/-- The fields of a tray configuration fit their fourteen bytes (Message and Record Layouts). -/
def RawTrayConfig.fits (c : RawTrayConfig) : Bool :=
  fits2 c.alloc && fits2 c.surge && fits2 c.pgTimeout && fits2 c.settle && fits2 c.stopTime &&
  fits1 c.rank && fits1 c.shedClass && fits1 c.pinned && fits1 c.retries

/-- The fields of a SET-LEAK-CHANNEL payload fit their bytes, and the payload is no longer than a frame's (R160). -/
def RawChannelConfig.fits (c : RawChannelConfig) : Bool :=
  fits1 c.channel && fits1 c.enabled && fits1 c.loop && fits1 c.isolate && fits1 c.closeValve &&
  fits1 c.nC && fits1 c.nF && fits1 c.count && c.trays.all fits1 &&
  decide (8 + c.trays.length ≤ Config.maxPayload)

/-- The bytes fit one payload (R160). -/
def payloadFits (p : List Byte) : Bool := decide (p.length ≤ Config.maxPayload)

/-- A frame on the module bus carries at most one payload's bytes (R30, R160). -/
def BusFrame.fits : BusFrame → Bool
  | .dropped => true
  | .complete _ _ _ p _ => payloadFits p
  | .heard _ => true

/-- The command can be spelled: see the head of this file. -/
def Instr.wellFormed : Instr → Bool
  | .identify _ => true
  | .getLinkStatus _ clear => fits1 clear
  | .arm _ target channel => fits1 target && fits1 channel
  | .restart _ => true
  | .getShelfStatus _ => true
  | .takeNotices _ count => fits1 count
  | .saveProfile _ => true
  | .loadProfile _ => true
  | .getShelfParam _ ident => fits1 ident
  | .setShelfParam _ ident value => fits1 ident && fits4 value
  | .getTrays _ first count => fits1 first && fits1 count
  | .getTrayConfig _ tray => fits1 tray
  | .setTrayConfig _ tray cfg => fits1 tray && cfg.fits
  | .trayControlOn _ tray => fits1 tray
  | .trayControlOff _ tray => fits1 tray
  | .trayControlHold _ tray => fits1 tray
  | .trayControlUnhold _ tray => fits1 tray
  | .trayControlPin _ tray => fits1 tray
  | .trayControlUnpin _ tray => fits1 tray
  | .trayControlOwnerAuto _ tray => fits1 tray
  | .trayControlOwnerManual _ tray => fits1 tray
  | .clearFault _ tray => fits1 tray
  | .getRoster _ => true
  | .moduleService _ slot service => fits1 slot && fits1 service
  | .getBatteries _ => true
  | .getBbuConfig _ bbu => fits1 bbu
  | .setBbuConfig _ bbu eRated maxCharge eFull => fits1 bbu && fits4 eRated && fits2 maxCharge && fits4 eFull
  | .runUp _ scope => payloadFits scope
  | .runDown _ scope => payloadFits scope
  | .runSuspend _ => true
  | .runResume _ => true
  | .runCancel _ => true
  | .getRunStatus _ => true
  | .getInputStatus _ clear => fits1 clear
  | .getLeak _ => true
  | .getLeakChannel _ channel => fits1 channel
  | .setLeakChannel _ cfg => cfg.fits
  | .leakRelease _ channel => fits1 channel
  | .valveOpen _ loop => fits1 loop
  | .valveClose _ loop => fits1 loop
  | .getTest _ => true
  | .testStart _ bbu => fits1 bbu
  | .testSuspend _ => true
  | .testResume _ => true
  | .testAbort _ => true
  | .hostFrameReceived _ _ payload _ => payloadFits payload
  | .hostByteError _ => true
  | .frameGapTimeout => true
  | .linkBreak => true
  | .replySent => true
  | .hostSilenceExpiry => true
  | .pgRise _ => true
  | .pgFall _ => true
  | .presenceLoss _ => true
  | .presenceAsserted _ => true
  | .inrushWaitExpiry _ => true
  | .settleExpiry _ => true
  | .stopTimerExpiry _ => true
  | .dischargeWaitExpiry _ => true
  | .busCycleStart => true
  | .moduleReplyReceived frame => frame.fits
  | .replyWindowExpiry => true
  | .modulePresenceReleased _ => true
  | .modulePresenceAsserted _ => true
  | .ifailAssert => true
  | .ifailRelease => true
  | .qualifyExpiry => true
  | .restoreExpiry => true
  | .startSpacingExpiry => true
  | .stopSpacingExpiry => true
  | .autoStartRun => true
  | .scanPass _ => true
  | .valveSwitchEdge _ _ _ => true
  | .valveTravelExpiry _ => true
  | .prepareTimeout => true
  | .saveComplete _ => true
  | .powerOn _ => true
  | .resetPinAssert _ => true
  | .resetPinRelease => true
  | .warmCommandReset => true
  | .hostByteReceived _ => true

end Sys2Proof
end

