-- ==== Sys2Proof/Certificates/Slice0/Obligations.lean ====
section
/-! DEFINITION. The statements for the provers. Each says what a command does, or what every step keeps; the spec's rules
they rest on are named in their docstrings. Where a statement rests on a choice of the model, its docstring names the
assumption log's entry. -/
section
open Sys2Proof Sys2Proof.Machine

/-! ### The machine -/

/-- A step runs the command at the front of the queue on the part with the queue's rest. -/
def Obligations.StepRunsTheFrontCommand : Prop :=
  ∀ (c : Instr) (rest : List Instr) (s : State),
    step { s with pending := c :: rest } = exec c { s with pending := rest }

/-- With no command waiting the part does what it does by itself. A bus cycle that is due, with no poll in flight, starts
at once and in no time: its command joins the queue (R33). Otherwise a millisecond passes: the time base counts, every
running timer counts down, a paused one stands, and a timer in its last millisecond, and no other, puts its expiry in
the queue. While RESET is held only the time base counts. This is the model's reading of its idle step (assumption
log 3). -/
def Obligations.IdleStepIsOneMillisecond : Prop :=
  ∀ (s : State),
    s.pending = [] →
    (s.held ≠ none → step s = .next { s with time := s.time + 1 }) ∧
    (s.held = none → s.mbc.poll = none → s.mbc.nextCycle ≤ s.time →
      step s = .next { s with pending := [.busCycleStart] }) ∧
    (s.held = none → s.mbc.poll ≠ none ∨ s.time < s.mbc.nextCycle →
      ∃ t, step s = .next t ∧ t = { countTimers s with pending := t.pending } ∧ t.time = s.time + 1 ∧
        (∀ i : TrayId, t.trays[i] = { s.trays[i] with timer := tickTrayTimer s.trays[i].timer }) ∧
        (∀ i : TrayId, Instr.inrushWaitExpiry i ∈ t.pending ↔
          s.trays[i].timer = .inrushWait 1 ∨ s.trays[i].timer = .inrushWait 0) ∧
        (∀ i : TrayId, Instr.settleExpiry i ∈ t.pending ↔
          ∃ paused, s.trays[i].timer = .settle 1 paused ∨ s.trays[i].timer = .settle 0 paused) ∧
        (∀ i : TrayId, Instr.stopTimerExpiry i ∈ t.pending ↔
          s.trays[i].timer = .stop 1 ∨ s.trays[i].timer = .stop 0) ∧
        (∀ i : TrayId, Instr.dischargeWaitExpiry i ∈ t.pending ↔
          s.trays[i].timer = .discharge 1 ∨ s.trays[i].timer = .discharge 0) ∧
        (Instr.qualifyExpiry ∈ t.pending ↔ s.ilc.qualify = some 1 ∨ s.ilc.qualify = some 0) ∧
        (Instr.restoreExpiry ∈ t.pending ↔ s.ilc.restore = some 1 ∨ s.ilc.restore = some 0) ∧
        (Instr.startSpacingExpiry ∈ t.pending ↔ s.run.startSpacing = some 1 ∨ s.run.startSpacing = some 0) ∧
        (Instr.stopSpacingExpiry ∈ t.pending ↔ s.run.stopSpacing = some 1 ∨ s.run.stopSpacing = some 0) ∧
        (∀ l : LoopId, Instr.valveTravelExpiry l ∈ t.pending ↔
          s.loops[l].travel = some 1 ∨ s.loops[l].travel = some 0) ∧
        (Instr.prepareTimeout ∈ t.pending ↔ s.test.prepare = .running 1 ∨ s.test.prepare = .running 0) ∧
        (Instr.hostSilenceExpiry ∈ t.pending ↔ s.hli.silence = some 1 ∨ s.hli.silence = some 0) ∧
        (Instr.replyWindowExpiry ∈ t.pending ↔
          s.mbc.poll.map Poll.window = some 1 ∨ s.mbc.poll.map Poll.window = some 0) ∧
        Instr.busCycleStart ∉ t.pending)

/-- Every command has a next state, and no command touches the queue of the commands that wait behind it. -/
def Obligations.EveryCommandAnswersANextState : Prop :=
  ∀ (c : Instr) (s : State), ∃ t, exec c s = .next t ∧ t.pending = s.pending

/-- While RESET is held, every command but the end of the reset and power-on leaves the part as it is; only the level
of a pin may change, for the reread at the end (R179; assumption log 15). The assertion of RESET itself puts a cold
reset's values in place at once, with every EN and every valve drive released and no notice held, or, with KEEP high,
holds every output and stops the link and a save. -/
def Obligations.ResetPinHoldsThePart : Prop :=
  ∀ (c : Instr) (s : State),
    (s.held ≠ none → endsReset c = false → ∃ t, exec c s = .next t ∧ t = { s with pins := t.pins }) ∧
    (s.held = none →
      exec (.resetPinAssert true) s = .next
        { s with
          pins := { s.pins with keep := true }
          hli := { s.hli with framer := .hunt, queue := [], reply := none, arm := none }
          store := { s.store with saving := none, restart := .none }
          held := some .warmPin }) ∧
    (s.held = none →
      ∃ t, exec (.resetPinAssert false) s = .next t ∧ t.held = some .cold ∧
        t.pins = { s.pins with keep := false } ∧ t.time = 0 ∧ t.notices.records = [] ∧
        (∀ i : TrayId, t.trays[i].enable = false) ∧ (∀ l : LoopId, t.loops[l].drive = false) ∧
        t.store.image = s.store.image)

/-! ### Resets -/

/-- The part right after reset is what power-on with every input at rest and no readable profile gives (assumption
log 6 for the pins and the absent profile); no command waits, no tray is powered, the reset is reported, and every law
of the records holds. -/
def Obligations.ResetIsAColdStart : Prop :=
  Laws State.reset ∧
  exec (.powerOn restingPins) State.reset = .next State.reset ∧ State.reset.pending = [] ∧
  (∀ i : TrayId, State.reset.trays[i].enable = false) ∧ State.reset.kT = 0 ∧ State.reset.budget.c = 0 ∧
  State.reset.ilc.state = .normal ∧ State.reset.run.state = .idle ∧
  State.reset.notices.records.head? = some { kind := .reset, subject := none, value := some 0, time := 0 }

/-- A cold reset, by power-on or at the release of RESET with KEEP low, and the tray table (R28). The configurations are
those of a stored image of this part's format whose CRC-16 over the rest of it is right, and the defaults otherwise
(R1, R176; format number and image bytes are free values, assumption log 18). -/
def Obligations.ColdResetTrays : Prop :=
  ∀ (s : State) (p : Pins) (img : StoredImage),
    ∃ t, exec (.powerOn p) s = .next t ∧
      (s.held = some .cold → s.pins = p → exec .resetPinRelease s = .next t) ∧
      (∀ i : TrayId, t.trays[i] =
        { cfg := (bootConfig s.store).trays[i], staged := none, state := .off,
          locks := { leak := false, shed := false, hold := false }, owner := .auto, retriesUsed := 0,
          cause := none, present := p.prsnt[i], timer := .idle }) ∧
      (s.store.image = some img → img.format = imageFormat →
          img.check = crc16 (imageBytes img.format img.config) →
        ∀ i : TrayId, t.trays[i].cfg = img.config.trays[i]) ∧
      (s.store.image = none ∨
          (s.store.image = some img ∧
            (img.format ≠ imageFormat ∨ img.check ≠ crc16 (imageBytes img.format img.config))) →
        ∀ i : TrayId, t.trays[i].cfg =
        { alloc := 1500, surge := 500, pgTimeout := 500, settle := 100, stopTime := 2000, rank := 8,
          shedClass := 2, pinned := false, retries := 1 }) ∧
      (∀ i : TrayId, t.trays[i].enable = false ∧ t.trays[i].counted = 0 ∧ t.trays[i].retryPending = false) ∧
      t.notices.records.head? = some { kind := .reset, subject := none, value := some 0, time := 0 } ∧
      (∀ i : TrayId,
        ({ kind := .trayUnexpectedPg, subject := some i.val, value := none, time := 0 } : Notice) ∈
          t.notices.records ↔ p.pg[i] = true)

/-- A cold reset and the battery records (R72), their settings from a good stored image or the defaults (R176; assumption
log 18). -/
def Obligations.ColdResetBatteries : Prop :=
  ∀ (s : State) (p : Pins) (img : StoredImage),
    ∃ t, exec (.powerOn p) s = .next t ∧
      (s.held = some .cold → s.pins = p → exec .resetPinRelease s = .next t) ∧
      (∀ b : BbuId, t.bbus[b] =
        { state := if p.modulePresent[bbuSlotNo b] then .silent else .empty,
          eRated := (bootConfig s.store).bbus[b].eRated, maxCharge := (bootConfig s.store).bbus[b].maxCharge,
          eFull := (bootConfig s.store).bbus[b].eFull, stored := 0, seeded := false, firstSeedDone := false,
          lastArrival := none, telemetry := none, inService := true, grant := 0, permit := true, testPower := 0,
          awaitsCharging := false }) ∧
      (s.store.image = some img → img.format = imageFormat →
          img.check = crc16 (imageBytes img.format img.config) →
        (∀ b : BbuId, t.bbus[b].eRated = img.config.bbus[b].eRated ∧
          t.bbus[b].maxCharge = img.config.bbus[b].maxCharge ∧ t.bbus[b].eFull = img.config.bbus[b].eFull) ∧
        t.params.efficiency = img.config.params.efficiency ∧
        t.params.floorFraction = img.config.params.floorFraction) ∧
      (s.store.image = none ∨
          (s.store.image = some img ∧
            (img.format ≠ imageFormat ∨ img.check ≠ crc16 (imageBytes img.format img.config))) → ∀ b : BbuId,
        t.bbus[b].eRated = 360000 ∧ t.bbus[b].maxCharge = 800 ∧ t.bbus[b].eFull = t.bbus[b].eRated) ∧
      (∀ b : BbuId, t.usable b = 0) ∧
      (s.store.image = none ∨
          (s.store.image = some img ∧
            (img.format ≠ imageFormat ∨ img.check ≠ crc16 (imageBytes img.format img.config))) →
        t.params.efficiency = 92 ∧ t.params.floorFraction = 10) ∧
      t.reserve = 0 ∧ t.lDis = 0 ∧ t.tEst = 65535

/-- A cold reset and every other block (R50, R90, R106, R126, R145, R158, R169, R176, R179, R181). The first bus cycle has
started: the first fitted module's poll is in flight, or, with none fitted, the cycle has ended and the roster is ready.
The first scan pass is due and is a command of its own, which carries its readings (assumption log 8). -/
def Obligations.ColdResetOtherBlocks : Prop :=
  ∀ (s : State) (p : Pins),
    ∃ t, exec (.powerOn p) s = .next t ∧
      (s.held = some .cold → s.pins = p → exec .resetPinRelease s = .next t) ∧
      t.time = 0 ∧ t.pins = p ∧ t.held = none ∧ t.params = (bootConfig s.store).params ∧
      t.mbc =
        { slots := Vector.ofFn fun k => { present := p.modulePresent[k], missCount := 0, announced := false },
          schedule := (allSlots.filter fun k => p.modulePresent[k]).tail
          poll := (allSlots.filter fun k => p.modulePresent[k]).head?.map fun k =>
            { slot := k, tag := 0, payload := if k.val < 6 then [1] else [0, 0, 1, 0, 0], inService := true,
              window := 3 }
          driver := false, framer := .hunt, tag := if ∀ k : SlotId, p.modulePresent[k] = false then 0 else 1
          stagedPeriod := none, nextCycle := t.params.period
          rosterReady := decide (∀ k : SlotId, p.modulePresent[k] = false) } ∧
      (∀ r : RectId, t.rects[r] =
        { state := if p.modulePresent[rectSlotNo r] then .silent else .empty, inService := true,
          telemetry := none }) ∧
      t.budget = { c := 0, floorEff := 0, deficitActive := false, deficitUnresolved := false } ∧
      t.kT = 0 ∧ t.kLive = 0 ∧ t.redundancy = .none ∧
      t.ilc =
        { state := if p.ifail then .sagQualify else .normal, stage := 0, ifail := p.ifail,
          qualify := if p.ifail then some t.params.qualifyTime else none, restore := none,
          sagStart := if p.ifail then some 0 else none, sagCount := 0, lastSag := 0, longestSag := 0,
          lastR := 0, lastTEst := 65535 } ∧
      t.run =
        { direction := .up, state := .idle, scope := .all, startQueue := [], stopQueue := [], members := [],
          stoppedCount := 0, blocked := none, startSpacing := none, stopSpacing := none } ∧
      (∀ c : ChannelId, t.channels[c] =
        { cfg := (bootConfig s.store).channels[c],
          state := if (bootConfig s.store).channels[c].enabled then .dry else .disabled, wetRun := 0,
          faultRun := 0, dryStreak := 0, samples := 0, transients := 0, cableFlag := false }) ∧
      (∀ l : LoopId, t.loops[l] =
        { valve := if p.openSwitch[l] then .opened else .opening, drive := false, openSwitch := p.openSwitch[l],
          closedSwitch := p.closedSwitch[l],
          travel := if p.openSwitch[l] then none else some (t.params.valveTravel * 1000), escalated := false }) ∧
      t.stagedScan = none ∧ t.nextScan = 0 ∧
      t.test =
        { phase := .idle, target := none, suspended := false, testPower := t.params.testPower,
          prepare := .stopped, eMeas := 0, outcome := none, health := none } ∧
      t.hli =
        { station := p.addr.val, rate := p.rate, framer := .hunt, inBreak := false, queue := [], reply := none,
          arm := none, headerErrors := 0, payloadErrors := 0, byteErrors := 0, timeouts := 0, overruns := 0,
          silence := if t.params.hostSilence = 0 then none else some (t.params.hostSilence * 1000) } ∧
      t.notices.lost = 0 ∧
      (({ kind := .profileInvalid, subject := none, value := none, time := 0 } : Notice) ∈ t.notices.records ↔
        imageValid s.store = false) ∧
      (imageValid s.store = true ↔
        ∃ img ∈ s.store.image,
          img.format = imageFormat ∧ img.check = crc16 (imageBytes img.format img.config)) ∧
      t.store =
        { image := s.store.image, valid := imageValid s.store, saving := none,
          autoPending := t.params.autoStart && imageValid s.store, restart := .none, lastReset := .cold,
          warmCount := 0 }

/-- A warm reset, by the RESET pin with KEEP high or by a RESTART (R29, R51, R73, R91, R107, R127, R146, R159, R169, R170,
R179, R180), in every shelf power state. Where every pin reads as recorded, no deficit stands and the reserve calls for no
shedding, the rack stays as it is: timers restart, the link, the notices and the module bus begin afresh with the first
poll in flight, a run is suspended, a test is aborted. Afterwards the records read as the pins do, and a level found
changed is handled as its edge: a tray that is gone, a PG that differs from the one expected (its timers restarted
before), a module that is gone or newly fitted, which waits for the cycle after the first, IFAIL by the shelf's state, the
switch of the end a valve travels to. The order of the blocks' work is assumption log 14; a tray absent before
and after is no presence loss (log 39). A RESTART whose ACK is still being sent counts as sent (log 16); with no RESTART on
its way, and with no RESET held, the two rows change nothing (log 4). -/
def Obligations.WarmResetKeepsTheRack : Prop :=
  ∀ (s : State) (c : Instr) (k : ResetKind) (i : TrayId) (r : RectId) (b : BbuId) (l : LoopId) (left paused : Nat),
    (s.held = none → s.store.restart = .none → exec .warmCommandReset s = .next s) ∧
    (s.held = none → exec .resetPinRelease s = .next s) ∧
    (Laws s → PinsAgree s → RackAtRest s → EndsWarmReset c k s → ∃ t, exec c s = .next t ∧ WarmKept k s t) ∧
    (Laws s → EndsWarmReset c k s →
      ∃ t, exec c s = .next t ∧ t.held = none ∧ t.pins = s.pins ∧ t.time = s.time ∧ PinsRead t ∧
        -- modules (R32, R51)
        (∀ j : SlotId, s.mbc.slots[j].present = true → s.pins.modulePresent[j] = false →
          t.mbc.slots[j] = { present := false, missCount := 0, announced := false }) ∧
        (∀ j : SlotId, s.mbc.slots[j].present = false → s.pins.modulePresent[j] = true →
          t.mbc.slots[j] = { present := true, missCount := 0, announced := false } ∧ j ∉ t.mbc.schedule ∧
          t.mbc.poll.map Poll.slot ≠ some j) ∧
        (s.mbc.slots[rectSlotNo r].present = true → s.pins.modulePresent[rectSlotNo r] = false →
          t.rects[r] = { s.rects[r] with state := .empty, telemetry := none }) ∧
        (s.mbc.slots[rectSlotNo r].present = false → s.pins.modulePresent[rectSlotNo r] = true →
          t.rects[r] = { s.rects[r] with state := .silent, telemetry := none }) ∧
        (s.mbc.slots[bbuSlotNo b].present = true → s.pins.modulePresent[bbuSlotNo b] = false →
          t.bbus[b] =
            { s.bbus[b] with
              state := .empty, telemetry := none, seeded := false, stored := 0, lastArrival := none, grant := 0
              testPower := if s.isTarget b then 0 else s.bbus[b].testPower }) ∧
        (s.mbc.slots[bbuSlotNo b].present = false → s.pins.modulePresent[bbuSlotNo b] = true →
          t.bbus[b] =
            { s.bbus[b] with
              state := .silent, telemetry := none, seeded := false, grant := 0
              testPower := if s.isTarget b then 0 else s.bbus[b].testPower }) ∧
        -- IFAIL (R107)
        (s.ilc.state = .normal → s.pins.ifail = true →
          t.ilc.state = .sagQualify ∧ t.ilc.sagStart = some s.time ∧ t.ilc.qualify = some s.params.qualifyTime) ∧
        (s.ilc.state = .sagQualify → s.pins.ifail = false →
          t.ilc.state = .normal ∧ t.ilc.lastSag = min 65535 (s.time - s.ilc.sagStart.getD s.time) ∧
          NoticeIn { kind := .sagRidden, subject := none, value := some t.ilc.lastSag, time := s.time } t) ∧
        (s.ilc.state = .rideThrough ∨ s.ilc.state = .exhausted → s.pins.ifail = false →
          t.ilc.state = .restoreHold ∧ t.ilc.restore = some (s.params.restoreHold * 1000) ∧
          s.ilc.stage ≤ t.ilc.stage) ∧
        (s.ilc.state = .restoreHold → s.pins.ifail = true →
          t.ilc.state = (if t.ilc.lastR = 0 then .exhausted else .rideThrough) ∧ t.ilc.restore = none ∧
          s.ilc.stage ≤ t.ilc.stage) ∧
        -- valves (R143, R146)
        (s.loops[l].valve = .closing → s.loops[l].closedSwitch = false → s.pins.closedSwitch[l] = true →
          t.loops[l].valve = .closed ∧ t.loops[l].travel = none ∧
          NoticeIn { kind := .valveClosed, subject := some l.val, value := none, time := s.time } t) ∧
        (s.loops[l].valve = .opening → s.loops[l].openSwitch = false → s.pins.openSwitch[l] = true →
          t.loops[l].valve = .opened ∧ t.loops[l].travel = none)) ∧
    -- trays (R29)
    (Laws s → RackAtRest s → EndsWarmReset c k s → s.pins.ifail = expectedIfail s.ilc.state →
      (∀ j : SlotId, s.mbc.slots[j].present = s.pins.modulePresent[j]) →
      ∃ t, exec c s = .next t ∧
        (s.trays[i].present = false → s.pins.prsnt[i] = true →
          t.trays[i] = { s.trays[i] with present := true }) ∧
        (s.trays[i].present = true → s.pins.prsnt[i] = false →
          t.trays[i] = { enterOff s.trays[i] with present := false } ∧
          NoticeIn { kind := .trayRemoved, subject := some i.val, value := none, time := s.time } t) ∧
        (s.trays[i].present = s.pins.prsnt[i] →
          (s.trays[i].state = .off ∨ s.trays[i].state = .queued ∨
              (s.trays[i].state = .failed ∧ s.trays[i].cause ≠ some .stuckOn) → s.pins.pg[i] = true →
            t.trays[i] = restartTimer s.trays[i] ∧
            NoticeIn { kind := .trayUnexpectedPg, subject := some i.val, value := none, time := s.time } t) ∧
          (s.trays[i].timer = .inrushWait left → s.pins.pg[i] = true → s.trays[i].cfg.settle ≠ 0 →
            t.trays[i] =
              { s.trays[i] with timer := .settle s.trays[i].cfg.settle s.trays[i].cfg.pgTimeout }) ∧
          (s.trays[i].timer = .inrushWait left → s.pins.pg[i] = true → s.trays[i].cfg.settle = 0 →
            t.trays[i] = enterOn s.trays[i]) ∧
          (s.trays[i].timer = .settle left paused → s.pins.pg[i] = false →
            t.trays[i] = { s.trays[i] with timer := .inrushWait s.trays[i].cfg.pgTimeout }) ∧
          (s.trays[i].state = .on → s.pins.pg[i] = false →
            t.trays[i] =
              { s.trays[i] with
                state := .failed, cause := some .pgLost
                timer :=
                  if s.trays[i].owner = .auto ∧ s.trays[i].retriesUsed < s.trays[i].cfg.retries then
                    .discharge s.trays[i].cfg.stopTime
                  else .idle }) ∧
          (s.trays[i].cause = some .stuckOn → s.pins.pg[i] = false → t.trays[i] = enterOff s.trays[i]) ∧
          (s.trays[i].state = .stopping → t.trays[i] = restartTimer s.trays[i])))

/-! ### The host link -/

/-- A request row is the arrival of the complete good frame that carries it, at the kind code and the layout of
Message and Record Layouts (assumption log 2). -/
def Obligations.RequestRowsAreFrames : Prop :=
  ∀ (c : Instr) (s : State) (kind tag : Byte) (payload : List Byte),
    c.wellFormed = true →
    requestFrame c = some (kind, tag, payload) →
    exec c s = exec (.hostFrameReceived kind tag payload (crc16 payload)) s

/-- The bytes of a frame for this station, received one by one by a framer in HUNT, do what the complete frame does
(R160, R161, R163). -/
def Obligations.BytesMakeTheFrame : Prop :=
  ∀ (s : State) (kind tag : Byte) (payload : List Byte),
    s.held = none →
    s.hli.framer = .hunt →
    payload.length ≤ 248 →
    execAll ((frameBytes (BitVec.ofNat 8 s.hli.station) kind tag payload).map .hostByteReceived) s =
      exec (.hostFrameReceived kind tag payload (crc16 payload)) s

/-- The receive framer, state by state, on a byte, a byte error and a gap above 5 ms (R161, R162). A failed header is
scanned again from its first byte for a start marker. -/
def Obligations.FramerStates : Prop :=
  ∀ (s : State) (b station kind tag length : Byte) (bytes : List Byte) (left : Nat) (why : LineError),
    s.held = none →
    (s.hli.framer = .hunt →
      exec (.hostByteReceived b) s = .next
        { s with hli := { s.hli with framer := if b = 0xC3 then .header [] else .hunt, inBreak := false } }) ∧
    (s.hli.framer = .header bytes → bytes.length < 4 →
      exec (.hostByteReceived b) s = .next
        { s with hli := { s.hli with framer := .header (bytes ++ [b]), inBreak := false } }) ∧
    (s.hli.framer = .header [station, kind, tag, length] →
      crc8 [station, kind, tag, length] ≠ b ∨ 248 < length.toNat →
      exec (.hostByteReceived b) s = .next
        { s with hli := { s.hli with
            framer :=
              if ([station, kind, tag, length, b].dropWhile (· != 0xC3)).isEmpty then .hunt
              else .header ([station, kind, tag, length, b].dropWhile (· != 0xC3)).tail
            headerErrors := min 65535 (s.hli.headerErrors + 1), inBreak := false } }) ∧
    (s.hli.framer = .header [station, kind, tag, length] →
      crc8 [station, kind, tag, length] = b → length.toNat ≤ 248 → station ≠ BitVec.ofNat 8 s.hli.station →
      exec (.hostByteReceived b) s = .next
        { s with hli := { s.hli with
            framer := if length = 0 then .hunt else .skip (length.toNat + 2), inBreak := false } }) ∧
    (s.hli.framer = .header [station, kind, tag, length] →
      crc8 [station, kind, tag, length] = b → length.toNat ≤ 248 → station = BitVec.ofNat 8 s.hli.station →
      length ≠ 0 →
      exec (.hostByteReceived b) s = .next
        { s with hli := { s.hli with framer := .body kind tag length.toNat [], inBreak := false } }) ∧
    (s.hli.framer = .header [station, kind, tag, length] →
      crc8 [station, kind, tag, length] = b → station = BitVec.ofNat 8 s.hli.station → length = 0 →
      exec (.hostByteReceived b) s = exec (.hostFrameReceived kind tag [] 0) s) ∧
    (s.hli.framer = .skip left →
      exec (.hostByteReceived b) s = .next
        { s with hli := { s.hli with framer := if left ≤ 1 then .hunt else .skip (left - 1), inBreak := false } }) ∧
    (s.hli.framer = .body kind tag left bytes → bytes.length + 1 < left + 2 →
      exec (.hostByteReceived b) s = .next
        { s with hli := { s.hli with framer := .body kind tag left (bytes ++ [b]), inBreak := false } }) ∧
    (s.hli.framer = .body kind tag left (bytes ++ [station]) → bytes.length = left →
      exec (.hostByteReceived b) s = exec (.hostFrameReceived kind tag bytes (checkOf station b)) s) ∧
    (s.hli.framer = .skip left → s.hli.inBreak = false →
      exec (.hostByteError why) s = .next { s with hli := { s.hli with framer := .hunt } } ∧
      exec .frameGapTimeout s = .next { s with hli := { s.hli with framer := .hunt } }) ∧
    (s.hli.framer = .hunt → exec .frameGapTimeout s = .next s) ∧
    (s.hli.framer = .hunt ∨ s.hli.framer = .header bytes ∨ s.hli.framer = .body kind tag left bytes →
      s.hli.inBreak = false →
      exec (.hostByteError why) s = .next
        { s with hli := { s.hli with framer := .hunt, byteErrors := min 65535 (s.hli.byteErrors + 1) } }) ∧
    (s.hli.framer = .header bytes ∨ s.hli.framer = .body kind tag left bytes →
      exec .frameGapTimeout s = .next
        { s with hli := { s.hli with framer := .hunt, timeouts := min 65535 (s.hli.timeouts + 1) } })

/-- A link break resets the link and no other block (R162): the framer hunts, the queue is emptied, the reply stops, the
arm target goes, counters and silence timer stay; while the line stays in the break byte errors and gaps count nothing,
and the first byte after it is received normally. Once the line has been back at mark a byte error of any kind, such as a
missing stop bit or a shorter break, counts as usual (R161; that the error says so is assumption log 17). A RESTART whose
ACK the break cuts off does not take effect (log 16). -/
def Obligations.LinkBreakResetsTheLink : Prop :=
  ∀ (s : State) (b : Byte) (kind : ByteError),
    s.held = none →
    ∃ t, exec .linkBreak s = .next t ∧
      t =
        { s with
          hli := { s.hli with framer := .hunt, inBreak := true, queue := [], reply := none, arm := none }
          store := { s.store with
            restart := if s.store.restart = .ackSending then .none else s.store.restart } } ∧
      exec (.hostByteError ⟨kind, false⟩) t = .next t ∧
      exec (.hostByteError ⟨kind, true⟩) t = .next
        { t with hli := { t.hli with inBreak := false, byteErrors := min 65535 (s.hli.byteErrors + 1) } } ∧
      exec .frameGapTimeout t = .next t ∧ exec .linkBreak t = .next t ∧
      exec (.hostByteReceived b) t = exec (.hostByteReceived b) { t with hli := { t.hli with inBreak := false } }

/-- A complete frame joins a queue of at most two: dropped and counted at two, waiting behind one (or behind a RESTART on
its way, R180), taken at once otherwise; each restarts the silence timer (R163, R166). A frame that is taken gets
exactly one reply, with its tag and of one of three kinds (R164), and consumes the arm target unless it is ARM
(R165). -/
def Obligations.FramesAreQueuedAndAnswered : Prop :=
  ∀ (s : State) (kind tag : Byte) (payload : List Byte) (check : BitVec 16),
    s.held = none →
    (2 ≤ s.hli.queue.length →
      exec (.hostFrameReceived kind tag payload check) s = .next
        { s with hli := { s.hli with
            framer := .hunt, inBreak := false, overruns := min 65535 (s.hli.overruns + 1),
            silence := if s.params.hostSilence = 0 then none else some (s.params.hostSilence * 1000) } }) ∧
    (s.hli.queue.length = 1 ∨ (s.hli.queue = [] ∧ s.store.restart ≠ .none) →
      exec (.hostFrameReceived kind tag payload check) s = .next
        { s with hli := { s.hli with
            framer := .hunt, inBreak := false,
            queue := s.hli.queue ++ [{ kind := kind, tag := tag, body := parseRequest kind payload check }],
            silence := if s.params.hostSilence = 0 then none else some (s.params.hostSilence * 1000) } }) ∧
    (s.hli.queue = [] → s.store.restart = .none →
      ∃ t, exec (.hostFrameReceived kind tag payload check) s = .next t ∧ t.hli.queue.length = 1 ∧
        t.hli.framer = .hunt ∧ t.hli.inBreak = false ∧ t.hli.station = s.hli.station ∧
        (kind ≠ 0x03 → t.hli.arm = none) ∧
        t.hli.reply.any (fun a =>
          a.tag == tag &&
          ((a.kind == 0x80 && (a.payload.isEmpty || a.payload == [1] || a.payload == [2] || a.payload == [3])) ||
           a.kind == kind + 0x80 ||
           (a.kind == 0xFF && a.payload.head? == some kind && a.payload.length == 2))) = true)

/-- The three refusals made before any owner sees a request, in their order (R164): a wrong payload check, an undefined
kind, a wrong length of a kind with a fixed one. -/
def Obligations.GenericRefusals : Prop :=
  ∀ (s : State) (kind tag : Byte) (payload : List Byte) (check : BitVec 16),
    Ready s →
    (payload ≠ [] → crc16 payload ≠ check →
      exec (.hostFrameReceived kind tag payload check) s = .next
        (turnedAway ⟨kind, tag, .badCheck⟩ .checkError
          { s with hli := { s.hli with payloadErrors := min 65535 (s.hli.payloadErrors + 1) } })) ∧
    (payload = [] ∨ crc16 payload = check →
      kind.toNat ∉ fixedKinds.map Prod.fst → kind.toNat ∉ variableKinds →
      exec (.hostFrameReceived kind tag payload check) s =
        .next (turnedAway ⟨kind, tag, .unknownKind⟩ .unknownKind s)) ∧
    (payload = [] ∨ crc16 payload = check →
      kind.toNat ∈ fixedKinds.map Prod.fst → (kind.toNat, payload.length) ∉ fixedKinds →
      exec (.hostFrameReceived kind tag payload check) s =
        .next (turnedAway ⟨kind, tag, .badLength⟩ .badLength s))

/-- The last byte of a reply has gone: its request leaves the queue and the next one is taken, whatever it asks; after a
RESTART's ACK the reset is due and nothing more is taken (R163, R180). With no reply being sent nothing changes
(assumption log 4). -/
def Obligations.ReplySentTakesTheNext : Prop :=
  ∀ (s : State) (r : Request),
    s.held = none →
    (s.hli.reply = none → exec .replySent s = .next s) ∧
    (s.hli.reply ≠ none → s.hli.queue.length ≤ 1 → s.store.restart = .none →
      exec .replySent s = .next { s with hli := { s.hli with queue := [], reply := none } }) ∧
    (s.hli.reply ≠ none → s.hli.queue.tail = [r] → s.store.restart = .none →
      ∃ t, exec .replySent s = .next t ∧ t.hli.queue = [r] ∧ t.hli.reply.any (fun a => a.tag == r.tag) = true) ∧
    (s.hli.reply ≠ none → s.store.restart ≠ .none →
      exec .replySent s = .next
        { s with hli := { s.hli with queue := s.hli.queue.tail, reply := none },
                 store := { s.store with restart := .due } })

/-- ARM and RESTART (R165, R180): ARM replaces the target, an undefined one or a channel above 11 leaves none; RESTART
needs its own target and no save, and its reset then waits for the last byte of its ACK (assumption log 16 names that
state). -/
def Obligations.ArmAndRestart : Prop :=
  ∀ (s : State) (tag : Byte) (target channel : Nat),
    Ready s →
    (target = 0 →
      exec (.arm tag target channel) s = .next
        { acked ⟨0x03, tag, .arm target channel⟩ s with
          hli := { (acked ⟨0x03, tag, .arm target channel⟩ s).hli with arm := some .restart } }) ∧
    (target = 1 → channel ≤ 11 →
      exec (.arm tag target channel) s = .next
        { acked ⟨0x03, tag, .arm target channel⟩ s with
          hli := { (acked ⟨0x03, tag, .arm target channel⟩ s).hli with arm := some (.leakRelease channel) } }) ∧
    (2 ≤ target ∨ (target = 1 ∧ 11 < channel) →
      exec (.arm tag target channel) s = .next (turnedAway ⟨0x03, tag, .arm target channel⟩ .badIndex s)) ∧
    (s.hli.arm ≠ some .restart →
      exec (.restart tag) s = .next (turnedAway ⟨0x04, tag, .restart⟩ .notArmed s)) ∧
    (s.hli.arm = some .restart → s.store.saving ≠ none →
      exec (.restart tag) s = .next (turnedAway ⟨0x04, tag, .restart⟩ .busy s)) ∧
    (s.hli.arm = some .restart → s.store.saving = none →
      exec (.restart tag) s = .next
        (acked ⟨0x04, tag, .restart⟩ { s with store := { s.store with restart := .ackSending } }))

/-- The silence timer expires: every MANUAL tray becomes AUTO with no change of state, HOST-SILENT is posted with their
number, 0 included, and the timer is stopped (R26, R166). A stopped timer does not expire (assumption log 4). -/
def Obligations.HostSilence : Prop :=
  ∀ (s : State),
    s.held = none →
    (s.hli.silence = none → exec .hostSilenceExpiry s = .next s) ∧
    (s.hli.silence ≠ none →
      ∃ t, exec .hostSilenceExpiry s = .next t ∧
        t = { s with trays := t.trays, hli := { s.hli with silence := none }, notices := t.notices } ∧
        (∀ i : TrayId, t.trays[i] = { s.trays[i] with owner := .auto }) ∧
        NoticeNext
          { kind := .hostSilent, subject := none,
            value := some (allTrays.filter fun i => s.trays[i].owner == .manual).length, time := s.time } s t)

/-! ### Reports -/

/-- IDENTIFY (R168): the four codes, nothing changed, in every state. -/
def Obligations.IdentifyReply : Prop :=
  ∀ (s : State) (tag : Byte),
    Ready s →
    exec (.identify tag) s = .next
      (answered ⟨0x01, tag, .identify⟩ (.data [0x51, 0x0E, 0x24, 0x02, 0x01, BitVec.ofNat 8 s.hli.station]) s) ∧
    (answered ⟨0x01, tag, .identify⟩ (.data []) s).hli.arm = none

/-- The status reports answer DATA with the records as they stand, in the fields and the order of Message and Record
Layouts, and change nothing but the link (R125, R167, R172, R174, R175); GET-LINK-STATUS clears its counters when it is
told to. The scope bytes of GET-RUN-STATUS that the scope's kind does not use are free, and the model's counter of free
bytes moves on (assumption log 1); seconds left are rounded down (log 22). -/
def Obligations.StatusReports : Prop :=
  ∀ (s : State) (tag : Byte) (clear : Nat),
    Ready s →
    exec (.getShelfStatus tag) s = .next
      (answered ⟨0x05, tag, .getShelfStatus⟩
        (.data
          (le8 (shelfStateCode s.ilc.state) ++ le8 s.ilc.stage ++ le16 s.tEst ++ le32 s.reserve ++
            le16 s.budget.c ++ le32 s.kT ++ le32 s.kLive ++ le16 s.grantTotal ++
            le8 (redundancyCode s.redundancy) ++ le8 (directionCode s.run.direction) ++
            le8 (runStateCode s.run.state) ++ le8 ((s.run.blocked.map blockedCode).getD 0xFF) ++
            le8 (if s.run.direction = .up then s.run.startQueue.length else s.run.stopQueue.length) ++
            le8 (allTrays.filter fun i => s.trays[i].state == .inrush).length ++
            le8 (allChannels.filter fun c => s.channels[c].state == .alarm).length ++
            le8 (s.loops[0].escalated.toNat + 2 * s.loops[1].escalated.toNat + 4 * s.loops[2].escalated.toNat +
              8 * s.loops[3].escalated.toNat) ++
            le8 s.notices.records.length ++ le8 s.notices.lost ++ le8 (resetKindCode s.store.lastReset) ++
            le8 s.store.warmCount ++
            le8 (s.mbc.rosterReady.toNat + 2 * s.store.valid.toNat + 4 * s.store.saving.isSome.toNat))) s) ∧
    exec (.getRoster tag) s = .next
      (answered ⟨0x18, tag, .getRoster⟩
        (.data
          ((allRects.flatMap fun r =>
            le8 (rectStateCode s.rects[r].state) ++
            le8 (s.rects[r].inService.toNat + 2 * (s.rects[r].telemetry.any (·.inputPresent)).toNat +
              4 * (s.rects[r].telemetry.any (·.outputOn)).toNat +
              8 * s.mbc.slots[rectSlotNo r].announced.toNat + 16 * s.rects[r].telemetry.isSome.toNat) ++
            le16 ((s.rects[r].telemetry.map (·.output)).getD 0xFFFF) ++
            le16 ((s.rects[r].telemetry.map (·.rated)).getD 0xFFFF) ++
            le8 ((s.rects[r].telemetry.map (·.tempClass)).getD 0xFF) ++
            le8 ((s.rects[r].telemetry.map fun x => rectFaultCode x.fault).getD 0xFF) ++
            le16 s.rects[r].usablePower ++ le8 s.mbc.slots[rectSlotNo r].missCount) ++
            le8 (policyCode s.params.policy) ++ le16 s.budget.c ++ le16 s.lMeas ++
            le8 (redundancyCode s.redundancy))) s) ∧
    exec (.getBatteries tag) s = .next
      (answered ⟨0x1A, tag, .getBatteries⟩
        (.data
          ((allBbus.flatMap fun b =>
            le8 (bbuStateCode s.bbus[b].state) ++
            le8 (s.bbus[b].inService.toNat + 2 * s.bbus[b].seeded.toNat + 4 * s.bbus[b].permit.toNat) ++
            le8 s.mbc.slots[bbuSlotNo b].missCount ++ le32 (s.bbus[b].stored / 1000) ++ le32 s.bbus[b].eFull ++
            le32 (s.usable b) ++ leInt16 ((s.bbus[b].telemetry.map (·.power)).getD 0x7FFF) ++
            le8 ((s.bbus[b].telemetry.map (·.soc)).getD 0xFF) ++
            le8 ((s.bbus[b].telemetry.map (·.fullFlag.toNat)).getD 0xFF) ++
            le8 ((s.bbus[b].telemetry.map (·.cutoff.toNat)).getD 0xFF) ++
            leInt8 ((s.bbus[b].telemetry.map (·.cellTemp)).getD 0x7F) ++
            le8 ((s.bbus[b].telemetry.map fun x => bbuFaultCode x.fault).getD 0xFF) ++
            le16 s.bbus[b].grant ++ le16 s.bbus[b].testPower) ++
            le32 s.reserve ++ le16 s.lDis ++ le16 s.tEst)) s) ∧
    exec (.getLeak tag) s = .next
      (answered ⟨0x30, tag, .getLeak⟩
        (.data
          ((allChannels.flatMap fun c =>
            le8 (channelStateCode s.channels[c].state) ++ le8 s.channels[c].wetRun ++
            le8 s.channels[c].faultRun ++ le8 s.channels[c].dryStreak ++ le8 s.channels[c].samples ++
            le16 s.channels[c].transients ++ le8 s.channels[c].cableFlag.toNat) ++
          (allLoops.flatMap fun l =>
            le8 (valveStateCode s.loops[l].valve) ++
            le8 (s.loops[l].drive.toNat + 2 * s.loops[l].openSwitch.toNat + 4 * s.loops[l].closedSwitch.toNat +
              8 * s.loops[l].escalated.toNat) ++
            le16 (s.loops[l].travel.getD 0)))) s) ∧
    exec (.getTest tag) s = .next
      (answered ⟨0x38, tag, .getTest⟩
        (.data
          (le8 (testPhaseCode s.test.phase) ++ le8 ((s.test.target.map (·.val)).getD 0xFF) ++
            le8 s.test.suspended.toNat ++ le16 s.test.testPower ++ le32 (prepareLeft s.test.prepare) ++
            le32 (s.test.eMeas / 1000) ++ le8 ((s.test.outcome.map testOutcomeCode).getD 0xFF) ++
            le8 (s.test.health.getD 0xFF))) s) ∧
    exec (.getRunStatus tag) s = .next
      (answered ⟨0x25, tag, .getRunStatus⟩
        (.data
          (le8 (directionCode s.run.direction) ++ le8 (runStateCode s.run.state) ++ scopeBytes s ++
            le8 ((s.run.blocked.map blockedCode).getD 0xFF) ++ le16 (s.run.startSpacing.getD 0) ++
            le16 (s.run.stopSpacing.getD 0) ++ le8 s.inrushCount ++ le8 (activeQueue s.run).length ++
            ((activeQueue s.run).flatMap fun i => le8 i) ++ trayBits s.run.members ++
            le8 s.run.stoppedCount))
        { s with freeCount := s.freeCount + 5 }) ∧
    (scopeBytes s).length = 6 ∧
    exec (.getLinkStatus tag clear) s = .next
      (answered ⟨0x02, tag, .getLinkStatus clear⟩
        (.data
          (le16 s.hli.headerErrors ++ le16 s.hli.payloadErrors ++ le16 s.hli.byteErrors ++ le16 s.hli.timeouts ++
            le16 s.hli.overruns ++ le8 s.hli.station ++ le8 (rateCode s.hli.rate) ++ le16 s.params.hostSilence ++
            le16 ((silenceStart s.params.hostSilence).getD 0 / 1000) ++ le8 s.hli.arm.isSome.toNat))
        (if clear = 0 then s
         else { s with hli := { s.hli with
            headerErrors := 0, payloadErrors := 0, byteErrors := 0, timeouts := 0, overruns := 0 } }))

/-- TAKE-NOTICES (R171): up to `count` records, clamped to 1..8, leave the head of the queue; the reply gives their
number, the number left, the lost count and the records with their ages; the lost count is then 0, and ALERT stays
asserted exactly while a record is left. -/
def Obligations.TakeNotices : Prop :=
  ∀ (s : State) (tag : Byte) (count n : Nat),
    Ready s →
    n = min (min 8 (max 1 count)) s.notices.records.length →
    ∃ t, exec (.takeNotices tag count) s = .next t ∧
      t = answered ⟨0x06, tag, .takeNotices count⟩
        (.data (le8 n ++ le8 (s.notices.records.length - n) ++ le8 s.notices.lost ++
          (s.notices.records.take n).flatMap fun a =>
            le8 (noticeKindCode a.kind) ++ le8 (a.subject.getD 0xFF) ++ le32 (a.value.getD 0xFFFFFFFF) ++
            le16 (min 65535 ((s.time - a.time) / 1000))))
        { s with notices := { records := s.notices.records.drop n, lost := 0 } } ∧
      t.alert = decide (n < s.notices.records.length)

/-- GET-INPUT-STATUS (R105): the record as it stands; with the clear flag the three statistics are 0 afterwards. -/
def Obligations.InputStatus : Prop :=
  ∀ (s : State) (tag : Byte) (clear : Nat),
    Ready s →
    exec (.getInputStatus tag clear) s = .next
      (answered ⟨0x28, tag, .getInputStatus clear⟩
        (.data (le8 (shelfStateCode s.ilc.state) ++ le8 s.ilc.stage ++ le8 s.ilc.ifail.toNat ++
          le16 (s.ilc.qualify.getD 0) ++ le32 (s.ilc.restore.getD 0) ++ le32 s.ilc.lastR ++ le16 s.ilc.lastTEst ++
          le16 s.ilc.sagCount ++ le16 s.ilc.lastSag ++ le16 s.ilc.longestSag))
        (if clear = 0 then s
         else { s with ilc := { s.ilc with sagCount := 0, lastSag := 0, longestSag := 0 } }))

/-- The reports on one record (R20, R71, R138, R173): BAD-INDEX past the last record, and otherwise the record's fields
in the order of Message and Record Layouts, with nothing changed. -/
def Obligations.IndexedReports : Prop :=
  ∀ (s : State) (tag : Byte) (n count : Nat) (i : TrayId) (b : BbuId) (c : ChannelId),
    Ready s →
    (24 ≤ n → exec (.getTrayConfig tag n) s = .next (turnedAway ⟨0x11, tag, .getTrayConfig n⟩ .badIndex s)) ∧
    exec (.getTrayConfig tag i) s = .next
      (answered ⟨0x11, tag, .getTrayConfig i⟩
        (.data (le8 i ++ trayConfigBytes s.trays[i].cfg ++ le8 s.trays[i].staged.isSome.toNat ++
          (s.trays[i].staged.map trayConfigBytes).getD (List.replicate 14 0))) s) ∧
    (6 ≤ n → exec (.getBbuConfig tag n) s = .next (turnedAway ⟨0x1B, tag, .getBbuConfig n⟩ .badIndex s)) ∧
    exec (.getBbuConfig tag b) s = .next
      (answered ⟨0x1B, tag, .getBbuConfig b⟩
        (.data (le8 b ++ le32 s.bbus[b].eRated ++ le16 s.bbus[b].maxCharge ++ le32 s.bbus[b].eFull ++
          le8 s.bbus[b].inService.toNat)) s) ∧
    (12 ≤ n → exec (.getLeakChannel tag n) s = .next (turnedAway ⟨0x31, tag, .getLeakChannel n⟩ .badIndex s)) ∧
    exec (.getLeakChannel tag c) s = .next
      (answered ⟨0x31, tag, .getLeakChannel c⟩
        (.data (le8 c ++ le8 s.channels[c].cfg.enabled.toNat ++ le8 s.channels[c].cfg.loop ++
          le8 s.channels[c].cfg.isolate.toNat ++ le8 s.channels[c].cfg.closeValve.toNat ++
          le8 s.channels[c].cfg.nC ++ le8 s.channels[c].cfg.nF ++ le8 s.channels[c].cfg.trays.length ++
          s.channels[c].cfg.trays.flatMap fun j => le8 j)) s) ∧
    (24 ≤ n → exec (.getTrays tag n count) s = .next (turnedAway ⟨0x10, tag, .getTrays n count⟩ .badIndex s)) ∧
    exec (.getTrays tag i count) s = .next
      (answered ⟨0x10, tag, .getTrays i count⟩
        (.data
          (le8 i ++ le8 (min (min 24 (max 1 count)) (24 - i.val)) ++
            ((allTrays.filter fun j => decide (i ≤ j) && decide (j.val < i.val + min 24 (max 1 count))).flatMap
              fun j =>
                le8 (trayStateCode s.trays[j].state) ++
                le8 (s.trays[j].locks.leak.toNat + 2 * s.trays[j].locks.shed.toNat +
                  4 * s.trays[j].locks.hold.toNat) ++
                le8 ((s.trays[j].owner == .manual).toNat + 2 * s.trays[j].present.toNat +
                  4 * s.trays[j].retryPending.toNat + 8 * s.trays[j].staged.isSome.toNat +
                  16 * s.trays[j].enable.toNat + 32 * s.pins.pg[j].toNat) ++
                le8 s.trays[j].retriesUsed ++ le8 ((s.trays[j].cause.map failureCauseCode).getD 0xFF) ++
                le16 s.trays[j].counted))) s)

/-! ### The profile and the shelf parameters -/

/-- A profile save (R176, R177): BUSY while one is in flight; otherwise the image is built from the working configuration,
with its format number and the CRC-16 over the rest, the profile is invalid from that moment, and the ACK goes out at
once. Its end makes the profile valid with that image and
posts PROFILE-SAVED, or leaves it invalid and posts PROFILE-SAVE-FAILED. That no image can be read during a save is the
model's choice (assumption log 18), that the end of no save changes nothing is log 4. -/
def Obligations.ProfileSave : Prop :=
  ∀ (s : State) (tag : Byte) (img : StoredImage) (how : SaveOutcome),
    (Ready s → s.store.saving ≠ none →
      exec (.saveProfile tag) s = .next (turnedAway ⟨0x07, tag, .saveProfile⟩ .busy s)) ∧
    (Ready s → s.store.saving = none →
      exec (.saveProfile tag) s = .next
        (acked ⟨0x07, tag, .saveProfile⟩
          { s with
            store :=
              { s.store with
                saving := some
                  { format := imageFormat, config := workingConfig s
                    check := crc16 (imageBytes imageFormat (workingConfig s)) }
                image := none, valid := false } })) ∧
    (s.held = none → s.store.saving = none → exec (.saveComplete how) s = .next s) ∧
    (s.held = none → s.store.saving = some img →
      ∃ t, exec (.saveComplete how) s = .next t ∧
        t =
          { s with
            notices := t.notices
            store := { s.store with
              saving := none
              image :=
                if how = .equal then some img else s.store.image
              valid := if how = .equal then true else s.store.valid } } ∧
        NoticeNext
          { kind := if how = .equal then .profileSaved else .profileSaveFailed, subject := none, value := none,
            time := s.time } s t)

/-- LOAD-PROFILE (R178): its refusals in their order; when it is taken, every value of the stored image is in force or
staged as its own request would make it, brought into its range, and save in flight and profile valid stay. -/
def Obligations.LoadProfile : Prop :=
  ∀ (s : State) (tag : Byte) (img : StoredImage),
    Ready s →
    (s.store.saving ≠ none →
      exec (.loadProfile tag) s = .next (turnedAway ⟨0x08, tag, .loadProfile⟩ .busy s)) ∧
    (s.store.saving = none →
      s.run.state ≠ .idle ∨ s.ilc.state ≠ .normal ∨ s.test.suspended = true →
      exec (.loadProfile tag) s = .next (turnedAway ⟨0x08, tag, .loadProfile⟩ .wrongState s)) ∧
    (s.store.saving = none → s.run.state = .idle → s.ilc.state = .normal → s.test.suspended = false →
      (∃ c : ChannelId, s.channels[c].state = .alarm) →
      exec (.loadProfile tag) s = .next (turnedAway ⟨0x08, tag, .loadProfile⟩ .leakActive s)) ∧
    (s.store.saving = none → s.run.state = .idle → s.ilc.state = .normal → s.test.suspended = false →
      (∀ c : ChannelId, s.channels[c].state ≠ .alarm) → s.store.valid = false →
      exec (.loadProfile tag) s = .next (turnedAway ⟨0x08, tag, .loadProfile⟩ .wrongState s)) ∧
    (s.store.saving = none → s.run.state = .idle → s.ilc.state = .normal → s.test.suspended = false →
      (∀ c : ChannelId, s.channels[c].state ≠ .alarm) → s.store.valid = true → s.store.image = some img →
      TrayLaw s →
      ∃ t, exec (.loadProfile tag) s = .next t ∧
        t.hli.reply = some
          { kind := 0x80, tag := tag, payload := if profileClamped img.config then [1] else [] } ∧
        (∀ k : Fin 23, workingParam t k = paramClamp k (paramGet img.config.params k)) ∧
        (∀ i : TrayId, s.trays[i].state = .off →
          t.trays[i].cfg = clampTrayConfig (rawOfTrayConfig img.config.trays[i]) ∧ t.trays[i].staged = none) ∧
        (∀ i : TrayId, s.trays[i].state ≠ .off →
          t.trays[i].cfg = s.trays[i].cfg ∧
          t.trays[i].staged = some (clampTrayConfig (rawOfTrayConfig img.config.trays[i]))) ∧
        (∀ b : BbuId, t.bbus[b].eRated = min 4000000 (max 10000 img.config.bbus[b].eRated) ∧
          t.bbus[b].maxCharge = min 3000 img.config.bbus[b].maxCharge ∧
          t.bbus[b].eFull = min 4000000 (max 1000 img.config.bbus[b].eFull)) ∧
        (∀ c : ChannelId, t.channels[c].cfg =
          ({ img.config.channels[c] with
              nC := min 16 (max 1 img.config.channels[c].nC)
              nF := min 16 (max 1 img.config.channels[c].nF) } : ChannelConfig)) ∧
        t =
          { s with
            trays := t.trays, run := t.run, budget := t.budget, bbus := t.bbus, notices := t.notices
            channels := t.channels, params := t.params, stagedScan := t.stagedScan, hli := t.hli
            mbc := { s.mbc with stagedPeriod := t.mbc.stagedPeriod }
            ilc := { s.ilc with lastR := t.ilc.lastR, lastTEst := t.ilc.lastTEst }
            store := { s.store with autoPending := t.store.autoPending } })

/-- The shelf parameters (R183, R34, R69, R78, R104, R124, R129, R144, R148, R166): BAD-INDEX above 22, BUSY in a save;
otherwise the value is clamped to its range and is the working value, period and scan interval staged, no other
parameter changes, and the ACK carries CLAMPED as it should. The parameters that only a later event reads change
nothing else; a changed policy gives the new C at once (R46). -/
def Obligations.ShelfParameters : Prop :=
  ∀ (s : State) (tag : Byte) (k value : Nat),
    Ready s →
    (23 ≤ k →
      exec (.setShelfParam tag k value) s = .next (turnedAway ⟨0x0A, tag, .setShelfParam k value⟩ .badIndex s) ∧
      exec (.getShelfParam tag k) s = .next (turnedAway ⟨0x09, tag, .getShelfParam k⟩ .badIndex s)) ∧
    (k ≤ 22 →
      exec (.getShelfParam tag k) s = .next
        (answered ⟨0x09, tag, .getShelfParam k⟩ (.data (le8 k ++ le32 (workingParam s k))) s)) ∧
    (k ≤ 22 → s.store.saving ≠ none →
      exec (.setShelfParam tag k value) s = .next (turnedAway ⟨0x0A, tag, .setShelfParam k value⟩ .busy s)) ∧
    (k ≤ 22 → s.store.saving = none →
      ∃ t, exec (.setShelfParam tag k value) s = .next t ∧
        t.hli.reply = some
          { kind := 0x80, tag := tag, payload := if paramClamped k value then [1] else [] } ∧
        workingParam t k = min (paramRange k).2 (max (paramRange k).1 value) ∧
        (∀ j : Fin 23, j.val ≠ k → workingParam t j = workingParam s j) ∧
        t =
          withRackOf
            { s with
              ilc := t.ilc, params := t.params, stagedScan := t.stagedScan, hli := t.hli
              mbc := { s.mbc with stagedPeriod := t.mbc.stagedPeriod } } t ∧
        GrantsOnly s t ∧ (k ∉ [6, 9, 10, 11] → t.ilc = s.ilc) ∧
        (k = 0 ∨ k = 17 → t.params = s.params) ∧
        (k = 1 → t.budget.c = capacityOf t.params.policy t.rects ∧ (TrayLaw s → OpenLaw s → CapacityTaken s t)) ∧
        (k = 22 → t.hli.silence = silenceStart t.params.hostSilence)) ∧
    (k ∈ [5, 7, 8, 13, 14, 15, 16, 18, 19, 20, 21] → s.store.saving = none →
      exec (.setShelfParam tag k value) s = .next
        (answered ⟨0x0A, tag, .setShelfParam k value⟩ (.ack (paramClamped k value) false)
          { s with params := paramPut s.params k (paramClamp k value) }))

/-! ### Trays: requests -/

/-- SET-TRAY-CONFIG (R19): BAD-INDEX above 23, BUSY in a save; otherwise the nine values, clamped, become the active
configuration of an OFF tray, which then holds no staged one, and the staged configuration of a tray in any other
state; the ACK carries CLAMPED and STAGED as they apply, and nothing else changes. -/
def Obligations.SetTrayConfig : Prop :=
  ∀ (s : State) (tag : Byte) (n : Nat) (i : TrayId) (g : RawTrayConfig),
    Ready s →
    TrayLaw s →
    (24 ≤ n →
      exec (.setTrayConfig tag n g) s = .next (turnedAway ⟨0x12, tag, .setTrayConfig n g⟩ .badIndex s)) ∧
    (s.store.saving ≠ none →
      exec (.setTrayConfig tag i g) s = .next (turnedAway ⟨0x12, tag, .setTrayConfig i g⟩ .busy s)) ∧
    (s.store.saving = none → s.trays[i].state = .off →
      exec (.setTrayConfig tag i g) s = .next
        (answered ⟨0x12, tag, .setTrayConfig i g⟩ (.ack (trayConfigClamped g) false)
          { s with trays := s.trays.set i { s.trays[i] with cfg := clampTrayConfig g, staged := none } })) ∧
    (s.store.saving = none → s.trays[i].state ≠ .off →
      exec (.setTrayConfig tag i g) s = .next
        (answered ⟨0x12, tag, .setTrayConfig i g⟩ (.ack (trayConfigClamped g) true)
          { s with trays := s.trays.set i { s.trays[i] with staged := some (clampTrayConfig g) } })) ∧
    clampTrayConfig g =
      { alloc := min 6000 g.alloc, surge := min 6000 g.surge, pgTimeout := min 5000 (max 10 g.pgTimeout),
        settle := min 5000 g.settle, stopTime := min 10000 (max 10 g.stopTime), rank := min 15 g.rank,
        shedClass := min 3 g.shedClass, pinned := g.pinned != 0, retries := min 3 g.retries }

/-- TRAY-CONTROL on (R7, R21, R22, R79): the refusals in their order; a MANUAL start that passes them puts the tray in
INRUSH with EN asserted and its INRUSH wait at full length, alloc and surge counted, and no other tray changed; with PG
asserted already the wait is paused whole and the settle timer starts, or the tray is ON where settle is 0. -/
def Obligations.ManualStart : Prop :=
  ∀ (s : State) (tag : Byte) (n : Nat) (i : TrayId),
    Ready s →
    TrayLaw s →
    (24 ≤ n →
      exec (.trayControlOn tag n) s = .next (turnedAway ⟨0x13, tag, .trayControl n 0⟩ .badIndex s)) ∧
    (s.ilc.state ≠ .normal →
      exec (.trayControlOn tag i) s = .next (turnedAway ⟨0x13, tag, .trayControl i 0⟩ .held s)) ∧
    (s.ilc.state = .normal → s.trays[i].locks ≠ noLockouts ∨ s.trays[i].state = .failed →
      exec (.trayControlOn tag i) s = .next (turnedAway ⟨0x13, tag, .trayControl i 0⟩ .lockedOut s)) ∧
    (s.ilc.state = .normal → s.trays[i].locks = noLockouts → s.trays[i].state ≠ .failed →
      s.trays[i].state ≠ .off ∨ s.trays[i].present = false ∨ s.trays[i].owner = .auto →
      exec (.trayControlOn tag i) s = .next (turnedAway ⟨0x13, tag, .trayControl i 0⟩ .wrongState s)) ∧
    (s.ilc.state = .normal → s.trays[i].locks = noLockouts → s.trays[i].state = .off →
      s.trays[i].present = true → s.trays[i].owner = .manual →
      (s.params.slots ≤ s.inrushCount →
        exec (.trayControlOn tag i) s = .next (turnedAway ⟨0x13, tag, .trayControl i 0⟩ .slotsFull s)) ∧
      (s.inrushCount < s.params.slots →
        s.budget.c < s.kT + s.trays[i].cfg.alloc + s.trays[i].cfg.surge + s.params.margin + s.budget.floorEff ∨
          (s.params.readyMin ≠ 0 ∧ s.tProj s.trays[i].cfg.alloc < s.params.readyMin) →
        exec (.trayControlOn tag i) s = .next (turnedAway ⟨0x13, tag, .trayControl i 0⟩ .noBudget s)) ∧
      (s.inrushCount < s.params.slots →
        s.kT + s.trays[i].cfg.alloc + s.trays[i].cfg.surge + s.params.margin + s.budget.floorEff ≤ s.budget.c →
        s.params.readyMin = 0 ∨ s.params.readyMin ≤ s.tProj s.trays[i].cfg.alloc →
        ∃ t, exec (.trayControlOn tag i) s = .next t ∧
          TraySideOnly (acked ⟨0x13, tag, .trayControl i 0⟩ s) t ∧ t.trays[i].enable = true ∧
          (s.pins.pg[i] = false →
            t.trays = s.trays.set i
              { s.trays[i] with state := .inrush, timer := .inrushWait s.trays[i].cfg.pgTimeout } ∧
            t.kT = s.kT + s.trays[i].cfg.alloc + s.trays[i].cfg.surge) ∧
          (s.pins.pg[i] = true → s.trays[i].cfg.settle ≠ 0 →
            t.trays = s.trays.set i
              { s.trays[i] with
                state := .inrush, timer := .settle s.trays[i].cfg.settle s.trays[i].cfg.pgTimeout }) ∧
          (s.pins.pg[i] = true → s.trays[i].cfg.settle = 0 → t.trays[i].state = .on)))

/-- TRAY-CONTROL off (R15, R21, R23): WRONG-STATE unless the tray is QUEUED, INRUSH or ON, PINNED for a pinned tray;
otherwise a QUEUED tray leaves the start queue for OFF and an INRUSH or ON tray enters STOPPING with the stop timer at
full length, and no lockout is added. -/
def Obligations.HostStop : Prop :=
  ∀ (s : State) (tag : Byte) (n : Nat) (i : TrayId),
    Ready s →
    TrayLaw s →
    (24 ≤ n →
      exec (.trayControlOff tag n) s = .next (turnedAway ⟨0x13, tag, .trayControl n 1⟩ .badIndex s)) ∧
    (s.trays[i].state = .off ∨ s.trays[i].state = .stopping ∨ s.trays[i].state = .failed →
      exec (.trayControlOff tag i) s = .next (turnedAway ⟨0x13, tag, .trayControl i 1⟩ .wrongState s)) ∧
    (s.trays[i].state = .queued ∨ s.trays[i].state = .inrush ∨ s.trays[i].state = .on →
      s.trays[i].cfg.pinned = true →
      exec (.trayControlOff tag i) s = .next (turnedAway ⟨0x13, tag, .trayControl i 1⟩ .pinned s)) ∧
    (s.trays[i].state = .queued → s.trays[i].cfg.pinned = false →
      ∃ t, exec (.trayControlOff tag i) s = .next t ∧
        TraySideOnly (acked ⟨0x13, tag, .trayControl i 1⟩ s) t ∧ t.trays[i] = enterOff s.trays[i] ∧
        i ∉ t.run.startQueue ∧ i ∉ t.run.members) ∧
    (s.trays[i].state = .inrush ∨ s.trays[i].state = .on → s.trays[i].cfg.pinned = false →
      ∃ t, exec (.trayControlOff tag i) s = .next t ∧
        TraySideOnly (acked ⟨0x13, tag, .trayControl i 1⟩ s) t ∧
        t.trays[i] = { s.trays[i] with state := .stopping, timer := .stop s.trays[i].cfg.stopTime } ∧
        i ∉ t.run.stopQueue)

/-- TRAY-CONTROL hold, unhold, pin, unpin, owner AUTO and owner MANUAL (R21, R24 to R26): BAD-INDEX above 23, pin and
unpin BUSY in a save, and otherwise refused in no state. HOLD is added or removed, the owner changed, the pinned field
of the active and a staged configuration set; a QUEUED tray that is held or made MANUAL leaves the start queue for OFF,
one in a stop queue that is pinned or made MANUAL leaves it; nothing else about the tray changes, and no other tray
unless a QUEUED one has gone. -/
def Obligations.TrayControls : Prop :=
  ∀ (s : State) (tag : Byte) (n : Nat) (i : TrayId),
    Ready s →
    TrayLaw s →
    (24 ≤ n →
      exec (.trayControlHold tag n) s = .next (turnedAway ⟨0x13, tag, .trayControl n 2⟩ .badIndex s) ∧
      exec (.trayControlUnhold tag n) s = .next (turnedAway ⟨0x13, tag, .trayControl n 3⟩ .badIndex s) ∧
      exec (.trayControlPin tag n) s = .next (turnedAway ⟨0x13, tag, .trayControl n 4⟩ .badIndex s) ∧
      exec (.trayControlUnpin tag n) s = .next (turnedAway ⟨0x13, tag, .trayControl n 5⟩ .badIndex s) ∧
      exec (.trayControlOwnerAuto tag n) s = .next (turnedAway ⟨0x13, tag, .trayControl n 6⟩ .badIndex s) ∧
      exec (.trayControlOwnerManual tag n) s = .next (turnedAway ⟨0x13, tag, .trayControl n 7⟩ .badIndex s)) ∧
    (∃ t, exec (.trayControlHold tag i) s = .next t ∧
      TraySideOnly (acked ⟨0x13, tag, .trayControl i 2⟩ s) t ∧
      (s.trays[i].state = .queued →
        t.trays[i] = enterOff { s.trays[i] with locks := { s.trays[i].locks with hold := true } } ∧
        i ∉ t.run.startQueue) ∧
      (s.trays[i].state ≠ .queued →
        t.trays = s.trays.set i { s.trays[i] with locks := { s.trays[i].locks with hold := true } })) ∧
    exec (.trayControlUnhold tag i) s = .next
      (acked ⟨0x13, tag, .trayControl i 3⟩
        { s with trays := s.trays.set i { s.trays[i] with locks := { s.trays[i].locks with hold := false } } }) ∧
    exec (.trayControlOwnerAuto tag i) s = .next
      (acked ⟨0x13, tag, .trayControl i 6⟩
        { s with trays := s.trays.set i { s.trays[i] with owner := .auto } }) ∧
    (∃ t, exec (.trayControlOwnerManual tag i) s = .next t ∧
      TraySideOnly (acked ⟨0x13, tag, .trayControl i 7⟩ s) t ∧
      (s.trays[i].state = .queued →
        t.trays[i] = enterOff { s.trays[i] with owner := .manual } ∧ i ∉ t.run.startQueue) ∧
      (s.trays[i].state ≠ .queued → t.trays = s.trays.set i { s.trays[i] with owner := .manual }) ∧
      i ∉ t.run.stopQueue ∧ i ∉ t.run.members) ∧
    (s.store.saving ≠ none →
      exec (.trayControlPin tag i) s = .next (turnedAway ⟨0x13, tag, .trayControl i 4⟩ .busy s) ∧
      exec (.trayControlUnpin tag i) s = .next (turnedAway ⟨0x13, tag, .trayControl i 5⟩ .busy s)) ∧
    (s.store.saving = none →
      ∃ t, exec (.trayControlPin tag i) s = .next t ∧
        TraySideOnly (acked ⟨0x13, tag, .trayControl i 4⟩ s) t ∧
        t.trays = s.trays.set i
          { s.trays[i] with
            cfg := { s.trays[i].cfg with pinned := true }
            staged := s.trays[i].staged.map fun c => { c with pinned := true } } ∧
        i ∉ t.run.stopQueue ∧ t.run.startQueue = s.run.startQueue) ∧
    (s.store.saving = none →
      exec (.trayControlUnpin tag i) s = .next
        (acked ⟨0x13, tag, .trayControl i 5⟩
          { s with
            trays := s.trays.set i
              { s.trays[i] with
                cfg := { s.trays[i].cfg with pinned := false }
                staged := s.trays[i].staged.map fun c => { c with pinned := false } } }))

/-- CLEAR-FAULT (R27): BAD-INDEX above 23, WRONG-STATE unless FAILED; otherwise the tray enters OFF with its wait
stopped, its cause gone, no retries used and a staged configuration applied, lockouts and owner kept; a STUCK-ON tray
whose PG is still asserted posts TRAY-UNEXPECTED-PG, as the first notice of the step (assumption log 10). -/
def Obligations.ClearFault : Prop :=
  ∀ (s : State) (tag : Byte) (n : Nat) (i : TrayId),
    Ready s →
    TrayLaw s →
    (24 ≤ n → exec (.clearFault tag n) s = .next (turnedAway ⟨0x14, tag, .clearFault n⟩ .badIndex s)) ∧
    (s.trays[i].state ≠ .failed →
      exec (.clearFault tag i) s = .next (turnedAway ⟨0x14, tag, .clearFault i⟩ .wrongState s)) ∧
    (s.trays[i].state = .failed →
      ∃ t, exec (.clearFault tag i) s = .next t ∧
        TraySideOnly (acked ⟨0x14, tag, .clearFault i⟩ s) t ∧
        t.trays[i] =
          { s.trays[i] with
            cfg := s.trays[i].staged.getD s.trays[i].cfg, staged := none, state := .off, retriesUsed := 0,
            cause := none, timer := .idle } ∧
        t.trays[i].counted = 0 ∧
        (s.trays[i].cause = some .stuckOn → s.pins.pg[i] = true →
          NoticeNext { kind := .trayUnexpectedPg, subject := some i.val, value := none, time := s.time } s t))

/-! ### Trays: pins and timers -/

/-- A PG edge, by the tray's state (R8 to R10, R12, R13). A rise: INRUSH pauses its wait and starts the settle timer; OFF,
QUEUED and FAILED without STUCK-ON post TRAY-UNEXPECTED-PG and stay as they are. A fall: a settling tray resumes its
INRUSH wait from the time it had left; an ON tray enters FAILED with PG-LOST, retried after a discharge wait if AUTO
with retries left and otherwise reported; a STUCK-ON tray enters OFF. Every other state takes no notice. The tray's own
notice comes before those of other blocks in the step (assumption log 10). An UP run that the edge leaves without a tray
to wait for ends with its RUN-DONE (R114). -/
def Obligations.PgEdges : Prop :=
  ∀ (s : State) (i : TrayId) (left paused : Nat),
    s.held = none →
    TrayLaw s →
    OpenLaw s →
    (s.trays[i].timer = .inrushWait left → s.trays[i].cfg.settle ≠ 0 →
      exec (.pgRise i) s = .next
        { s with
          pins := { s.pins with pg := s.pins.pg.set i true }
          trays := s.trays.set i { s.trays[i] with timer := .settle s.trays[i].cfg.settle left } }) ∧
    (s.trays[i].timer = .inrushWait left → s.trays[i].cfg.settle = 0 → DeficitLaw s →
      ∃ t, exec (.pgRise i) s = .next t ∧
        TraySideOnly { s with pins := { s.pins with pg := s.pins.pg.set i true } } t ∧
        t.trays[i] = enterOn s.trays[i] ∧
        NoticeNext { kind := .trayOn, subject := some i.val, value := none, time := s.time } s t ∧
        UpRunEnds s t) ∧
    (s.trays[i].state = .off ∨ s.trays[i].state = .queued ∨
        (s.trays[i].state = .failed ∧ s.trays[i].cause ≠ some .stuckOn) →
      ∃ t, exec (.pgRise i) s = .next t ∧
        t = { s with pins := { s.pins with pg := s.pins.pg.set i true }, notices := t.notices } ∧
        NoticeNext { kind := .trayUnexpectedPg, subject := some i.val, value := none, time := s.time } s t) ∧
    (s.trays[i].state = .on ∨ s.trays[i].state = .stopping ∨ s.trays[i].cause = some .stuckOn →
      exec (.pgRise i) s = .next { s with pins := { s.pins with pg := s.pins.pg.set i true } }) ∧
    (s.trays[i].timer = .settle left paused →
      exec (.pgFall i) s = .next
        { s with
          pins := { s.pins with pg := s.pins.pg.set i false }
          trays := s.trays.set i { s.trays[i] with timer := .inrushWait paused } }) ∧
    (s.trays[i].state = .on →
      ∃ t, exec (.pgFall i) s = .next t ∧
        TraySideOnly { s with pins := { s.pins with pg := s.pins.pg.set i false } } t ∧
        t.trays[i] =
          { s.trays[i] with
            state := .failed, cause := some .pgLost
            timer :=
              if s.trays[i].owner = .auto ∧ s.trays[i].retriesUsed < s.trays[i].cfg.retries then
                .discharge s.trays[i].cfg.stopTime
              else .idle } ∧
        (s.trays[i].owner = .manual ∨ s.trays[i].cfg.retries ≤ s.trays[i].retriesUsed →
          NoticeNext { kind := .trayFailed, subject := some i.val, value := some 1, time := s.time } s t) ∧
        (DeficitLaw s → UpRunEnds s t)) ∧
    (s.trays[i].cause = some .stuckOn →
      ∃ t, exec (.pgFall i) s = .next t ∧
        TraySideOnly { s with pins := { s.pins with pg := s.pins.pg.set i false } } t ∧
        t.trays[i] = enterOff s.trays[i]) ∧
    (s.trays[i].state = .off ∨ s.trays[i].state = .queued ∨ s.trays[i].state = .stopping ∨
        s.trays[i].timer = .inrushWait left ∨
        (s.trays[i].state = .failed ∧ s.trays[i].cause ≠ some .stuckOn) →
      exec (.pgFall i) s = .next { s with pins := { s.pins with pg := s.pins.pg.set i false } })

/-- The two timers of INRUSH (R8, R10): the wait runs out into FAILED with NO-PG, retried or reported; the settle timer
runs out into ON, the surge released, no retries used, TRAY-ON posted. The tray's own notice comes before those of other
blocks in the step (assumption log 10). An UP run that the expiry leaves without a tray to wait for ends with its RUN-DONE
(R114). A timer that does not run does not expire (log 4). -/
def Obligations.InrushTimers : Prop :=
  ∀ (s : State) (i : TrayId) (left paused : Nat),
    s.held = none →
    TrayLaw s →
    (s.trays[i].timer = .inrushWait left →
      ∃ t, exec (.inrushWaitExpiry i) s = .next t ∧ TraySideOnly s t ∧
        t.trays[i] =
          { s.trays[i] with
            state := .failed, cause := some .noPg
            timer :=
              if s.trays[i].owner = .auto ∧ s.trays[i].retriesUsed < s.trays[i].cfg.retries then
                .discharge s.trays[i].cfg.stopTime
              else .idle } ∧
        t.trays[i].counted = 0 ∧ t.trays[i].enable = false ∧
        (s.trays[i].owner = .manual ∨ s.trays[i].cfg.retries ≤ s.trays[i].retriesUsed →
          NoticeNext { kind := .trayFailed, subject := some i.val, value := some 0, time := s.time } s t) ∧
        (OpenLaw s → DeficitLaw s → UpRunEnds s t)) ∧
    (s.trays[i].timer = .settle left paused → DeficitLaw s →
      ∃ t, exec (.settleExpiry i) s = .next t ∧ TraySideOnly s t ∧
        t.trays[i] = { s.trays[i] with state := .on, timer := .idle, retriesUsed := 0 } ∧
        t.trays[i].counted = s.trays[i].cfg.alloc ∧ t.trays[i].enable = true ∧
        NoticeNext { kind := .trayOn, subject := some i.val, value := none, time := s.time } s t ∧
        (OpenLaw s → UpRunEnds s t)) ∧
    (s.trays[i].state ≠ .inrush →
      exec (.inrushWaitExpiry i) s = .next s ∧ exec (.settleExpiry i) s = .next s)

/-- The stop timer and the discharge wait (R10 to R12): a stopped tray enters OFF, or FAILED with STUCK-ON, still
counted, where PG is asserted; a waiting tray is retried if it is AUTO, free of lockouts and an UP run exists, taking
its place in the queue of a run that does not run, and is otherwise reported and stays FAILED. TRAY-FAILED comes before
the notices of other blocks in the step (assumption log 10). An UP run that the expiry leaves without a tray to wait for
ends with its RUN-DONE (R114). A timer that does not run does not expire (log 4). -/
def Obligations.StopAndRetryTimers : Prop :=
  ∀ (s : State) (i : TrayId) (left : Nat),
    s.held = none →
    TrayLaw s →
    (s.trays[i].timer = .stop left → s.pins.pg[i] = false →
      ∃ t, exec (.stopTimerExpiry i) s = .next t ∧ TraySideOnly s t ∧ t.trays[i] = enterOff s.trays[i] ∧
        t.trays[i].counted = 0 ∧ (OpenLaw s → DeficitLaw s → UpRunEnds s t)) ∧
    (s.trays[i].timer = .stop left → s.pins.pg[i] = true →
      ∃ t, exec (.stopTimerExpiry i) s = .next t ∧ TraySideOnly s t ∧
        t.trays[i] = { s.trays[i] with state := .failed, cause := some .stuckOn, timer := .idle } ∧
        t.trays[i].counted = s.trays[i].cfg.alloc ∧
        NoticeNext { kind := .trayFailed, subject := some i.val, value := some 2, time := s.time } s t) ∧
    (s.trays[i].timer = .discharge left →
      s.trays[i].owner = .auto → s.trays[i].locks = noLockouts → s.run.direction = .up → s.run.state ≠ .idle →
      ∃ t, exec (.dischargeWaitExpiry i) s = .next t ∧ TraySideOnly s t ∧ t.trays[i].state ≠ .failed ∧
        t.trays[i].cause = none ∧
        (s.run.state ≠ .running →
          t.trays[i] =
            { s.trays[i] with
              state := .queued, cause := none, timer := .idle,
              retriesUsed := s.trays[i].retriesUsed + 1 } ∧
          i ∈ t.run.startQueue ∧ i ∈ t.run.members) ∧
        (t.trays[i].state = .on ∨ t.trays[i].retriesUsed = s.trays[i].retriesUsed + 1)) ∧
    (s.trays[i].timer = .discharge left →
      s.trays[i].owner = .manual ∨ s.trays[i].locks ≠ noLockouts ∨ s.run.direction = .down ∨ s.run.state = .idle →
      ∃ t, exec (.dischargeWaitExpiry i) s = .next t ∧ TraySideOnly s t ∧
        t.trays[i] = { s.trays[i] with timer := .idle } ∧
        NoticeNext
          { kind := .trayFailed, subject := some i.val, value := s.trays[i].cause.map failureCauseCode,
            time := s.time } s t ∧
        (OpenLaw s → DeficitLaw s → UpRunEnds s t)) ∧
    (s.trays[i].state ≠ .stopping → exec (.stopTimerExpiry i) s = .next s) ∧
    (s.trays[i].timer = .idle → exec (.dischargeWaitExpiry i) s = .next s)

/-- Presence lost, in whatever state (R14): the tray is OFF, not present, without timer, cause and retries used, any
staged configuration applied, out of every queue; lockouts and owner are kept, and TRAY-REMOVED is posted, before the
notices of other blocks in the step (assumption log 10). An UP run without a tray left to wait for ends with its RUN-DONE
(R114). Presence asserted sets present and nothing else. -/
def Obligations.TrayPresence : Prop :=
  ∀ (s : State) (i : TrayId),
    s.held = none →
    TrayLaw s →
    (∃ t, exec (.presenceLoss i) s = .next t ∧
      TraySideOnly { s with pins := { s.pins with prsnt := s.pins.prsnt.set i false } } t ∧
      t.trays[i] =
        { s.trays[i] with
          cfg := s.trays[i].staged.getD s.trays[i].cfg, staged := none, state := .off, retriesUsed := 0,
          cause := none, timer := .idle, present := false } ∧
      i ∉ t.run.startQueue ∧ i ∉ t.run.stopQueue ∧ i ∉ t.run.members ∧
      NoticeNext { kind := .trayRemoved, subject := some i.val, value := none, time := s.time } s t ∧
      (OpenLaw s → DeficitLaw s → UpRunEnds s t)) ∧
    exec (.presenceAsserted i) s = .next
      { s with
        pins := { s.pins with prsnt := s.pins.prsnt.set i true }
        trays := s.trays.set i { s.trays[i] with present := true } }

/-! ### The module bus -/

/-- The start of a bus cycle (R30, R33, R34, R35, R39): a staged period becomes active and the next cycle is due one
period on; the present slots are polled in order, the first at once, its frame built from the tag counter and the
setpoints as they stand, with a window of 3 ms and the framer hunting; a cycle without slots ends as it starts and makes
the roster ready. The driver is enabled while the poll is sent, before the window opens, and released then; the bytes take
no time of the model's (assumption log 19), so a step ends with it released. No cycle starts within another (log 4). -/
def Obligations.BusCycle : Prop :=
  ∀ (s : State) (r : RectId) (b : BbuId),
    s.held = none →
    (s.mbc.poll ≠ none → exec .busCycleStart s = .next s) ∧
    (s.mbc.poll = none → presentSlots s ≠ [] →
      ∃ t, exec .busCycleStart s = .next t ∧
        t =
          { s with
            params := { s.params with period := s.mbc.stagedPeriod.getD s.params.period }
            mbc :=
              { s.mbc with
                schedule := (presentSlots s).tail, poll := t.mbc.poll, driver := false, framer := .hunt,
                tag := s.mbc.tag + 1, stagedPeriod := none,
                nextCycle := s.time + s.mbc.stagedPeriod.getD s.params.period } } ∧
        t.mbc.poll.map Poll.slot = (presentSlots s).head? ∧
        t.mbc.poll.map Poll.tag = some s.mbc.tag ∧ t.mbc.poll.map Poll.window = some 3 ∧
        ((presentSlots s).head? = some (rectSlotNo r) →
          t.mbc.poll.map Poll.payload = some (le8 s.rects[r].inService.toNat) ∧
          t.mbc.poll.map Poll.frame =
            some (frameBytes (BitVec.ofNat 8 (0x10 + r.val)) 0x60 s.mbc.tag (le8 s.rects[r].inService.toNat)) ∧
          t.mbc.poll.map Poll.inService = some s.rects[r].inService) ∧
        ((presentSlots s).head? = some (bbuSlotNo b) →
          t.mbc.poll.map Poll.payload =
            some (le16 s.bbus[b].grant ++ le8 s.bbus[b].permit.toNat ++ le16 s.bbus[b].testPower) ∧
          t.mbc.poll.map Poll.frame =
            some (frameBytes (BitVec.ofNat 8 (0x20 + b.val)) 0x61 s.mbc.tag
              (le16 s.bbus[b].grant ++ le8 s.bbus[b].permit.toNat ++ le16 s.bbus[b].testPower)) ∧
          t.mbc.poll.map Poll.inService = some s.bbus[b].inService)) ∧
    (s.mbc.poll = none → presentSlots s = [] →
      ∃ t, exec .busCycleStart s = .next t ∧
        t =
          withRackOf
            { s with
              params := { s.params with period := s.mbc.stagedPeriod.getD s.params.period }
              mbc :=
                { s.mbc with
                  schedule := [], poll := none, framer := .hunt, stagedPeriod := none, rosterReady := true,
                  nextCycle := s.time + s.mbc.stagedPeriod.getD s.params.period } } t ∧
        GrantsOnly s t) ∧
    (∀ k : SlotId,
      (startPoll k s).mbc.driver = true ∧ (pollSent (startPoll k s)).mbc.driver = false ∧
      (startPoll k s).mbc.poll.map Poll.window = some 0 ∧
      (pollSent (startPoll k s)).mbc.poll.map Poll.window = some 3)

/-- A valid reply of a rectifier (R36, R38, R42 to R46): the misses are forgotten and MODULE-BACK is posted for an
announced slot; the telemetry is stored with its conversions; the state follows from it and from the service setting of
the answered poll; MODULE-FAULT is posted for a slot that is newly FAULTED or has a new code, and for no other; C is what
the SOURCING slots and the policy give; the next poll of the cycle is under way. In NORMAL a change of C is evaluated for a
deficit, which sheds trays in the order of class, rank and index until K_live fits, and a rise clears SHED and hands the
trays freed to recovery; outside NORMAL no tray changes (R77, R86 to R89, R123; with the auto-start mark gone). -/
def Obligations.RectifierReply : Prop :=
  ∀ (s : State) (p : Poll) (r : RectId) (b0 b1 b2 b3 b4 b5 b6 b7 : Byte),
    s.held = none →
    s.mbc.poll = some p →
    p.slot = rectSlotNo r →
    ∃ t,
      exec (.moduleReplyReceived
        (.complete (slotStation p.slot) 0xE0 p.tag [b0, b1, b2, b3, b4, b5, b6, b7]
          (crc16 [b0, b1, b2, b3, b4, b5, b6, b7]))) s = .next t ∧
      t = withRackOf { s with mbc := t.mbc, rects := t.rects } t ∧ GrantsOnly s t ∧
      t.mbc.slots = s.mbc.slots.set (rectSlotNo r)
        { s.mbc.slots[rectSlotNo r] with missCount := 0, announced := false } ∧
      t.mbc.schedule = s.mbc.schedule.tail ∧ t.mbc.poll.map Poll.slot = s.mbc.schedule.head? ∧
      t.rects = s.rects.set r
        { s.rects[r] with
          telemetry := some
            { output := min 8000 (b0.toNat + 256 * b1.toNat), rated := min 8000 (b2.toNat + 256 * b3.toNat),
              tempClass := min 3 b4.toNat, inputPresent := b5 != 0, outputOn := b6 != 0,
              fault := rectFaultOf b7.toNat }
          state :=
            if b7 ≠ 0 then .faulted else if p.inService = false then .standby
            else if b5 = 0 then .inputLost else if b6 ≠ 0 then .sourcing else .starting } ∧
      t.rects[r].usablePower =
        (if b7 = 0 ∧ p.inService = true ∧ b5 ≠ 0 ∧ b6 ≠ 0 then
          min 8000 (b2.toNat + 256 * b3.toNat) *
            (if b4 = 0 then 100 else if b4 = 1 then 90 else if b4 = 2 then 75 else 50) / 100
         else 0) ∧
      t.budget.c = capacityOf s.params.policy t.rects ∧
      (s.mbc.slots[rectSlotNo r].announced = true →
        NoticeNext { kind := .moduleBack, subject := some r.val, value := none, time := s.time } s t) ∧
      (b7 ≠ 0 →
        s.rects[r].state ≠ .faulted ∨ s.rects[r].telemetry.map (·.fault) ≠ some (rectFaultOf b7.toNat) →
        NoticeIn
          { kind := .moduleFault, subject := some r.val, value := some (min 4 b7.toNat), time := s.time } t) ∧
      (b7 = 0 ∨
          (s.rects[r].state = .faulted ∧ s.rects[r].telemetry.map (·.fault) = some (rectFaultOf b7.toNat)) →
        NoneOfKind .moduleFault s t) ∧
      (TrayLaw s → OpenLaw s → s.store.autoPending = false → CapacityTaken s t)

/-- Shelf capacity (R46): under N the sum of U over the SOURCING slots; under N+1 with two or more, that sum less the
largest; with one, its U; with none, 0. -/
def Obligations.ShelfCapacity : Prop :=
  ∀ (rects : Vector RectSlot 6) (r : RectId),
    capacityOf .n rects = (allRects.map fun q => rects[q].usablePower).sum ∧
    ((∀ q : RectId, rects[q].state ≠ .sourcing) → capacityOf .nPlus1 rects = 0) ∧
    ((∀ q : RectId, rects[q].state = .sourcing ↔ q = r) → capacityOf .nPlus1 rects = rects[r].usablePower) ∧
    (2 ≤ (allRects.filter fun q => rects[q].state == .sourcing).length → rects[r].state = .sourcing →
      (∀ q : RectId, rects[q].usablePower ≤ rects[r].usablePower) →
      capacityOf .nPlus1 rects + rects[r].usablePower = capacityOf .n rects)

/-- A valid reply of a battery unit (R36, R38, R54, R55, R57, R59 to R64, R66, R97 to R99): the telemetry is stored with its conversions
and gives the state; the account seeds when it has no starting point or after a gap above 500 ms, with BBU-RESEED after
the first time, and integrates otherwise, within its range; the arrival's time is kept; MODULE-FAULT is posted for a unit
that is newly FAULTED or has a new code, and for no other (R57). The new R and T_est reach the input loss controller, which
in RIDE-THROUGH evaluates exhaustion and then the stage, in RESTORE-HOLD a fall of R to 0 (R97 to R99). A test's cutoff,
which writes the account once more, has a statement of its own. A unit put in service again is granted nothing until an
arrival at which it is CHARGING, and that arrival recomputes the grants (R49; the recomputation is assumption log 38). -/
def Obligations.BatteryReply : Prop :=
  ∀ (s : State) (p : Poll) (b : BbuId) (b0 b1 b2 b3 b4 b5 b6 : Byte) (power : Int) (gap : Nat),
    s.held = none →
    s.mbc.poll = some p →
    p.slot = bbuSlotNo b →
    power = max (-6000) (min 6000 (s16 b0 b1)) →
    gap = s.time - s.bbus[b].lastArrival.getD s.time →
    ¬ (s.isTarget b = true ∧ s.test.phase = .discharge ∧ b4 ≠ 0) →
    ∃ t,
      exec (.moduleReplyReceived
        (.complete (slotStation p.slot) 0xE1 p.tag [b0, b1, b2, b3, b4, b5, b6]
          (crc16 [b0, b1, b2, b3, b4, b5, b6]))) s = .next t ∧
      t = withRackOf { s with mbc := t.mbc, ilc := t.ilc, test := t.test } t ∧
      (∀ c : BbuId, c ≠ b → { t.bbus[c] with grant := 0 } = { s.bbus[c] with grant := 0 }) ∧
      t.mbc.slots = s.mbc.slots.set (bbuSlotNo b)
        { s.mbc.slots[bbuSlotNo b] with missCount := 0, announced := false } ∧
      { t.bbus[b] with grant := 0, testPower := 0 } =
        { s.bbus[b] with
          grant := 0, testPower := 0, seeded := true, lastArrival := some s.time
          telemetry := some
            { power := power, soc := min 100 b2.toNat, fullFlag := b3 != 0, cutoff := b4 != 0,
              cellTemp := max (-40) (min 125 (s8 b5)), fault := bbuFaultOf b6.toNat }
          state :=
            if b6 ≠ 0 then .faulted else if p.inService = false then .standby
            else if 20 ≤ power then .discharging else if b3 ≠ 0 then .full else .charging
          awaitsCharging :=
            s.bbus[b].awaitsCharging &&
              !decide (b6 = 0 ∧ p.inService = true ∧ power < 20 ∧ b3 = 0)
          firstSeedDone :=
            if s.bbus[b].seeded = false ∨ 500 < gap then true else s.bbus[b].firstSeedDone
          stored :=
            if s.bbus[b].seeded = false ∨ 500 < gap then s.bbus[b].eFull * min 100 b2.toNat / 100 * 1000
            else
              min (s.bbus[b].eFull * 1000)
                (if 0 < power then s.bbus[b].stored - power.toNat * gap
                 else s.bbus[b].stored + (-power).toNat * gap * s.params.efficiency / 100) } ∧
      t.ilc.lastR = t.reserve ∧ t.ilc.lastTEst = t.tEst ∧
      (s.mbc.slots[bbuSlotNo b].announced = false → b6 = 0 → s.bbus[b].firstSeedDone = true →
        s.bbus[b].seeded = false ∨ 500 < gap →
        NoticeNext
          { kind := .bbuReseed, subject := some (6 + b.val),
            value := some (s.bbus[b].eFull * min 100 b2.toNat / 100), time := s.time } s t) ∧
      (b6 ≠ 0 →
        s.bbus[b].state ≠ .faulted ∨ s.bbus[b].telemetry.map (·.fault) ≠ some (bbuFaultOf b6.toNat) →
        NoticeIn
          { kind := .moduleFault, subject := some (6 + b.val), value := some (min 4 b6.toNat), time := s.time } t) ∧
      (b6 = 0 ∨ (s.bbus[b].state = .faulted ∧ s.bbus[b].telemetry.map (·.fault) = some (bbuFaultOf b6.toNat)) →
        NoneOfKind .moduleFault s t) ∧
      (s.bbus[b].awaitsCharging = true → GrantLaw s →
        b6 ≠ 0 ∨ p.inService = false ∨ 20 ≤ power ∨ b3 ≠ 0 → t.bbus[b].grant = 0) ∧
      (s.bbus[b].awaitsCharging = true → b6 = 0 → p.inService = true → power < 20 → b3 = 0 →
        t = recomputeGrants t) ∧
      (ShelfLaw s → OpenLaw s → ReserveTaken s t)

/-- Misses (R35 to R37): a dropped frame, and a frame with a wrong check, station, kind, tag or length, end the poll as the
end of its window does; so do a byte error or a gap within a frame that has begun, and a wrong header; the bytes of a whole
frame do what the frame does, and a byte error or a gap before one does nothing; each miss counts up to 3; the third makes the slot SILENT, its telemetry kept, and posts
MODULE-SILENT unless that is announced already, before the notices of the blocks that the silence reaches (assumption
log 10); the next poll follows. With no poll in flight neither does anything (log 4). -/
def Obligations.PollMisses : Prop :=
  ∀ (s : State) (p : Poll) (station kind tag length b0 : Byte) (payload : List Byte) (check : BitVec 16)
    (events : List BusEvent) (why : ByteError) (r : RectId) (b : BbuId),
    s.held = none →
    (s.mbc.poll = none →
      exec .replyWindowExpiry s = .next s ∧
      exec (.moduleReplyReceived (.complete station kind tag payload check)) s = .next s ∧
      exec (.moduleReplyReceived (.heard events)) s = .next s) ∧
    (s.mbc.poll ≠ none → s.mbc.framer = .hunt → payload.length ≤ 248 →
      exec (.moduleReplyReceived (.heard ((frameBytes station kind tag payload).map .byte))) s =
        exec (.moduleReplyReceived (.complete station kind tag payload (crc16 payload))) s) ∧
    (s.mbc.poll ≠ none → s.mbc.framer ≠ .hunt →
      exec (.moduleReplyReceived (.heard [.gap])) s = exec .replyWindowExpiry s ∧
      exec (.moduleReplyReceived (.heard [.byteError why])) s = exec .replyWindowExpiry s) ∧
    (s.mbc.framer = .hunt →
      exec (.moduleReplyReceived (.heard [.gap])) s = .next s ∧
      exec (.moduleReplyReceived (.heard [.byteError why])) s = .next s) ∧
    (s.mbc.poll ≠ none → s.mbc.framer = .header [station, kind, tag, length] →
      crc8 [station, kind, tag, length] ≠ b0 ∨ 248 < length.toNat →
      exec (.moduleReplyReceived (.heard [.byte b0])) s = exec .replyWindowExpiry s) ∧
    (s.mbc.poll = some p →
      (payload ≠ [] ∧ crc16 payload ≠ check) ∨ station ≠ slotStation p.slot ∨
        kind ≠ (if p.slot.val < 6 then 0xE0 else 0xE1) ∨ tag ≠ p.tag ∨
        payload.length ≠ (if p.slot.val < 6 then 8 else 7) →
      exec (.moduleReplyReceived (.complete station kind tag payload check)) s = exec .replyWindowExpiry s) ∧
    (s.mbc.poll = some p → exec (.moduleReplyReceived .dropped) s = exec .replyWindowExpiry s) ∧
    (s.mbc.poll = some p → s.mbc.slots[p.slot].missCount ≤ 3 →
      ∃ t, exec .replyWindowExpiry s = .next t ∧
        t = withRackOf { s with mbc := t.mbc, rects := t.rects, ilc := t.ilc, test := t.test } t ∧
        t.mbc.slots = s.mbc.slots.set p.slot
          { s.mbc.slots[p.slot] with
            missCount := min 3 (s.mbc.slots[p.slot].missCount + 1)
            announced := if s.mbc.slots[p.slot].missCount = 2 then true else s.mbc.slots[p.slot].announced } ∧
        t.mbc.schedule = s.mbc.schedule.tail ∧ t.mbc.poll.map Poll.slot = s.mbc.schedule.head? ∧
        (s.mbc.slots[p.slot].missCount ≠ 2 →
          t.rects = s.rects ∧ ∀ c : BbuId, { t.bbus[c] with grant := 0 } = { s.bbus[c] with grant := 0 }) ∧
        (s.mbc.slots[p.slot].missCount = 2 → p.slot = rectSlotNo r →
          t.rects = s.rects.set r { s.rects[r] with state := .silent } ∧
          t.budget.c = capacityOf s.params.policy t.rects ∧
          (TrayLaw s → OpenLaw s → s.store.autoPending = false → CapacityTaken s t)) ∧
        (s.mbc.slots[p.slot].missCount = 2 → p.slot = bbuSlotNo b → s.bbus[b].state ≠ .silent →
          { t.bbus[b] with grant := 0, testPower := 0 } =
            { s.bbus[b] with grant := 0, testPower := 0, state := .silent, seeded := false } ∧
          (ShelfLaw s → OpenLaw s → ReserveTaken s t)) ∧
        (s.mbc.slots[p.slot].missCount = 2 → s.mbc.slots[p.slot].announced = false →
          NoticeNext { kind := .moduleSilent, subject := some p.slot.val, value := none, time := s.time } s t))

/-- A module's presence (R32, R43, R56): released, the bus record is cleared, the slot leaves the present schedule, a poll
of it in flight ends without a miss, and its owner makes it EMPTY with no telemetry and, for a battery, an empty
account; asserted, the slot is present and SILENT and waits for the next cycle. An assertion at a slot that is present
already only shows on the pin (assumption log 4). -/
def Obligations.ModulePresence : Prop :=
  ∀ (s : State) (k : SlotId) (r : RectId) (b : BbuId),
    s.held = none →
    (∃ t, exec (.modulePresenceReleased k) s = .next t ∧
      t =
        withRackOf
          { s with
            pins := { s.pins with modulePresent := s.pins.modulePresent.set k false }
            mbc := t.mbc, rects := t.rects, ilc := t.ilc, test := t.test } t ∧
      t.mbc.slots = s.mbc.slots.set k { present := false, missCount := 0, announced := false } ∧
      (s.mbc.poll.map Poll.slot ≠ some k →
        t.mbc.poll = s.mbc.poll ∧ t.mbc.schedule = s.mbc.schedule.filter fun j => j != k) ∧
      (s.mbc.poll.map Poll.slot = some k →
        t.mbc.poll.map Poll.slot = (s.mbc.schedule.filter fun j => j != k).head?) ∧
      (k = rectSlotNo r →
        t.rects = s.rects.set r { s.rects[r] with state := .empty, telemetry := none } ∧
        t.budget.c = capacityOf s.params.policy t.rects ∧
        (TrayLaw s → OpenLaw s → s.store.autoPending = false → CapacityTaken s t)) ∧
      (k = bbuSlotNo b → s.bbus[b].state ≠ .empty →
        { t.bbus[b] with testPower := 0 } =
          { s.bbus[b] with
            testPower := 0, state := .empty, telemetry := none, seeded := false, stored := 0, lastArrival := none,
            grant := 0 } ∧
        (ShelfLaw s → OpenLaw s → ReserveTaken s t))) ∧
    (s.mbc.slots[k].present = false →
      ∃ t, exec (.modulePresenceAsserted k) s = .next t ∧
        t =
          withRackOf
            { s with
              pins := { s.pins with modulePresent := s.pins.modulePresent.set k true }
              mbc :=
                { s.mbc with slots := s.mbc.slots.set k { present := true, missCount := 0, announced := false } }
              rects := t.rects, ilc := t.ilc, test := t.test } t ∧
        (k = rectSlotNo r → t.rects = s.rects.set r { s.rects[r] with state := .silent, telemetry := none }) ∧
        (k = bbuSlotNo b → s.bbus[b].state ≠ .silent →
          { t.bbus[b] with grant := 0, testPower := 0 } =
            { s.bbus[b] with grant := 0, testPower := 0, state := .silent, telemetry := none, seeded := false })) ∧
    (s.mbc.slots[k].present = true →
      exec (.modulePresenceAsserted k) s = .next
        { s with pins := { s.pins with modulePresent := s.pins.modulePresent.set k true } })

/-- MODULE-SERVICE (R48, R49): its refusals in their order. For a rectifier slot only the setting changes, and taking one
out is refused where C without it would be below K_live; a battery slot put out loses its permit and its grant, and a
running test of it ends with BBU-LOST; put in, it has its permit back, its grant is 0, also where it is still CHARGING, and it awaits the arrival at which it is
CHARGING again. A slot that is already as asked is left. -/
def Obligations.ModuleService : Prop :=
  ∀ (s : State) (tag : Byte) (n v : Nat) (r : RectId) (b : BbuId),
    Ready s →
    (12 ≤ n ∨ 2 ≤ v →
      exec (.moduleService tag n v) s = .next (turnedAway ⟨0x19, tag, .moduleService n v⟩ .badIndex s)) ∧
    exec (.moduleService tag r 1) s = .next
      (acked ⟨0x19, tag, .moduleService r 1⟩ { s with rects := s.rects.set r { s.rects[r] with inService := true } }) ∧
    (s.rects[r].inService = true →
      capacityOf s.params.policy (s.rects.set r { s.rects[r] with state := .empty }) < s.kLive →
      exec (.moduleService tag r 0) s = .next (turnedAway ⟨0x19, tag, .moduleService r 0⟩ .noBudget s)) ∧
    (s.rects[r].inService = false ∨
        s.kLive ≤ capacityOf s.params.policy (s.rects.set r { s.rects[r] with state := .empty }) →
      exec (.moduleService tag r 0) s = .next
        (acked ⟨0x19, tag, .moduleService r 0⟩
          { s with rects := s.rects.set r { s.rects[r] with inService := false } })) ∧
    (s.isSuspendedTarget b = true → v ≤ 1 →
      exec (.moduleService tag (6 + b.val) v) s =
        .next (turnedAway ⟨0x19, tag, .moduleService (6 + b.val) v⟩ .wrongState s)) ∧
    (s.isSuspendedTarget b = false → v = s.bbus[b].inService.toNat →
      exec (.moduleService tag (6 + b.val) v) s = .next (acked ⟨0x19, tag, .moduleService (6 + b.val) v⟩ s)) ∧
    (s.isSuspendedTarget b = false → s.bbus[b].inService = true →
      ∃ t, exec (.moduleService tag (6 + b.val) 0) s = .next t ∧
        t =
          { acked ⟨0x19, tag, .moduleService (6 + b.val) 0⟩ s with
            bbus := t.bbus, test := t.test, notices := t.notices } ∧
        (∀ c : BbuId, c ≠ b → { t.bbus[c] with grant := 0 } = { s.bbus[c] with grant := 0 }) ∧
        { t.bbus[b] with testPower := 0 } =
          { s.bbus[b] with testPower := 0, inService := false, permit := false, grant := 0 } ∧
        (s.isTarget b = true → t.test.phase = .done ∧ t.test.outcome = some (.aborted .bbuLost) ∧
          t.bbus[b].testPower = 0) ∧
        (s.isTarget b = false → t.test = s.test ∧ t.notices = s.notices)) ∧
    (s.isSuspendedTarget b = false → s.bbus[b].inService = false →
      ∃ t, exec (.moduleService tag (6 + b.val) 1) s = .next t ∧
        t =
          { acked ⟨0x19, tag, .moduleService (6 + b.val) 1⟩ s with
            bbus := t.bbus, test := t.test, notices := t.notices } ∧
        (∀ c : BbuId, c ≠ b → { t.bbus[c] with grant := 0 } = { s.bbus[c] with grant := 0 }) ∧
        { t.bbus[b] with grant := 0 } =
          { s.bbus[b] with grant := 0, inService := true, permit := true, awaitsCharging := true } ∧
        t.bbus[b].grant = 0 ∧ t.test = s.test ∧ t.notices = s.notices)

/-- SET-BBU-CONFIG (R70): its refusals in their order; otherwise E_rated, max charge power and a nonzero E_full take their
values, clamped, stored energy is brought under a lower E_full, and the new R and T_est reach the input loss
controller; state, seeded and service stay. Whole joules and the clamp in millijoules follow assumption log 25. -/
def Obligations.SetBbuConfig : Prop :=
  ∀ (s : State) (tag : Byte) (n : Nat) (b : BbuId) (eRated maxCharge eFull full : Nat),
    Ready s →
    full = (if eFull = 0 then s.bbus[b].eFull else min 4000000 (max 1000 eFull)) →
    (6 ≤ n →
      exec (.setBbuConfig tag n eRated maxCharge eFull) s =
        .next (turnedAway ⟨0x1C, tag, .setBbuConfig n eRated maxCharge eFull⟩ .badIndex s)) ∧
    (s.store.saving ≠ none →
      exec (.setBbuConfig tag b eRated maxCharge eFull) s =
        .next (turnedAway ⟨0x1C, tag, .setBbuConfig b eRated maxCharge eFull⟩ .busy s)) ∧
    (s.store.saving = none → s.isSuspendedTarget b = true →
      exec (.setBbuConfig tag b eRated maxCharge eFull) s =
        .next (turnedAway ⟨0x1C, tag, .setBbuConfig b eRated maxCharge eFull⟩ .wrongState s)) ∧
    (s.store.saving = none → s.isSuspendedTarget b = false →
      ∃ t, exec (.setBbuConfig tag b eRated maxCharge eFull) s = .next t ∧
        t =
          answered ⟨0x1C, tag, .setBbuConfig b eRated maxCharge eFull⟩
            (.ack
              (decide ¬ (10000 ≤ eRated ∧ eRated ≤ 4000000 ∧ maxCharge ≤ 3000 ∧
                (eFull = 0 ∨ (1000 ≤ eFull ∧ eFull ≤ 4000000)))) false)
            (withRackOf { s with ilc := t.ilc } t) ∧
        { t.bbus[b] with grant := 0 } =
          { s.bbus[b] with
            grant := 0, eRated := min 4000000 (max 10000 eRated), maxCharge := min 3000 maxCharge, eFull := full,
            stored := min s.bbus[b].stored (full * 1000) } ∧
        (∀ c : BbuId, c ≠ b → { t.bbus[c] with grant := 0 } = { s.bbus[c] with grant := 0 }) ∧
        t.ilc.lastR = t.reserve ∧ t.ilc.lastTEst = t.tEst)

/-! ### The budget -/

/-- A distribution of the charge grants (R49, R83, R85): nothing outside NORMAL; in NORMAL at most what C leaves over the margin
and the committed load; no BBU above its max charge power; nothing to a BBU that is not CHARGING, is out of service, was put in again
and has not been CHARGING at an arrival since (R49), or is discharged by a test; and an emptier unit is filled before a fuller one gets anything. Exactly: each eligible unit, in
order of increasing stored energy over E_full and then of slot, gets the smaller of its max charge power and what the
units before it have left of max(0, C - M - K_t). Nothing else changes. -/
def Obligations.GrantDistribution : Prop :=
  ∀ (s : State) (a b : BbuId),
    (∀ c : BbuId, { (recomputeGrants s).bbus[c] with grant := 0 } = { s.bbus[c] with grant := 0 }) ∧
    recomputeGrants s = { s with bbus := (recomputeGrants s).bbus } ∧
    (s.ilc.state ≠ .normal → (recomputeGrants s).grantTotal = 0) ∧
    (recomputeGrants s).grantTotal ≤ s.budget.c - (s.params.margin + s.kT) ∧
    (recomputeGrants s).bbus[a].grant ≤ s.bbus[a].maxCharge ∧
    (s.bbus[a].state ≠ .charging ∨ s.bbus[a].inService = false ∨ s.bbus[a].awaitsCharging = true ∨
        (s.test.target = some a ∧ s.test.phase = .discharge) →
      (recomputeGrants s).bbus[a].grant = 0) ∧
    (grantEligible s a = true ↔
      s.bbus[a].state = .charging ∧ s.bbus[a].inService = true ∧ s.bbus[a].awaitsCharging = false ∧
      ¬ (s.test.target = some a ∧ s.test.phase = .discharge)) ∧
    (s.ilc.state = .normal → (∀ c : BbuId, 0 < s.bbus[c].eFull) → grantEligible s a = true →
      (recomputeGrants s).bbus[a].grant =
        min s.bbus[a].maxCharge
          (s.budget.c - (s.params.margin + s.kT) -
            ((allBbus.filter fun c =>
              grantEligible s c &&
                decide (s.bbus[c].stored * s.bbus[a].eFull < s.bbus[a].stored * s.bbus[c].eFull ∨
                  (s.bbus[c].stored * s.bbus[a].eFull = s.bbus[a].stored * s.bbus[c].eFull ∧ c < a))).map
              fun c => (recomputeGrants s).bbus[c].grant).sum)) ∧
    (grantEligible s a = true → grantEligible s b = true →
      s.bbus[a].stored * s.bbus[b].eFull < s.bbus[b].stored * s.bbus[a].eFull ∨
        (s.bbus[a].stored * s.bbus[b].eFull = s.bbus[b].stored * s.bbus[a].eFull ∧ a < b) →
      (∀ c : BbuId, 0 < s.bbus[c].eFull) →
      0 < (recomputeGrants s).bbus[b].grant →
      (recomputeGrants s).bbus[a].grant = s.bbus[a].maxCharge)

/-! ### Input loss -/

/-- IFAIL and the restore timer (R94, R95, R98 to R103, R123). Asserted in NORMAL: SAG-QUALIFY, its time and timer recorded,
nothing posted, everything else but grants, deficit and the run left. Asserted in RESTORE-HOLD: back to RIDE-THROUGH
with the stage kept, or raised and its set shed, or EXHAUSTED where the reserve is 0. Released in SAG-QUALIFY: the sag is measured and
counted. Released in RIDE-THROUGH or EXHAUSTED: RESTORE-HOLD with a full timer and no tray changed. The restore timer's
end: NORMAL, stage 0, SHED cleared, and, where no deficit stands, the trays freed handed to recovery (with the
auto-start mark gone). In any other state an edge only shows on the pin, and a timer that does not run
does not expire (assumption log 4). -/
def Obligations.IfailAndRestore : Prop :=
  ∀ (s : State) (w : Nat),
    s.held = none →
    OpenLaw s →
    ShelfLaw s →
    w = min 65535 (s.time - s.ilc.sagStart.getD s.time) →
    (s.ilc.state = .normal →
      exec .ifailAssert s = .next
        { heldBack s with
          pins := { s.pins with ifail := true }
          ilc :=
            { s.ilc with
              state := .sagQualify, ifail := true, sagStart := some s.time,
              qualify := some s.params.qualifyTime } }) ∧
    (s.ilc.state = .restoreHold → s.ilc.lastR ≠ 0 →
      ∃ t, exec .ifailAssert s = .next t ∧
        t.ilc =
          { s.ilc with
            state := .rideThrough, ifail := true, restore := none,
            stage := max s.ilc.stage (reachedStage s.params s.ilc.lastTEst) } ∧
        t = withRackOf { s with pins := { s.pins with ifail := true }, ilc := t.ilc } t ∧ GrantsOnly s t ∧
        t.grantTotal = 0 ∧
        (reachedStage s.params s.ilc.lastTEst ≤ s.ilc.stage → t.trays = s.trays ∧ t.notices = s.notices) ∧
        (s.ilc.stage < reachedStage s.params s.ilc.lastTEst →
          ShedWhere (inStage (reachedStage s.params s.ilc.lastTEst)) s t ∧
          NoticeIn
            { kind := .shedStage, subject := some (reachedStage s.params s.ilc.lastTEst)
              value := some (allTrays.filter fun i =>
                inStage (reachedStage s.params s.ilc.lastTEst) s.trays[i] && goesWithStage s.trays[i]).length
              time := s.time } t)) ∧
    (s.ilc.state = .restoreHold → s.ilc.lastR = 0 →
      ∃ t, exec .ifailAssert s = .next t ∧
        t.ilc = { s.ilc with state := .exhausted, ifail := true, restore := none } ∧
        t = withRackOf { s with pins := { s.pins with ifail := true }, ilc := t.ilc } t ∧ GrantsOnly s t ∧
        ShedWhere (fun _ => true) s t ∧
        NoticeIn
          { kind := .reserveExhausted, subject := none
            value := some (allTrays.filter fun i => goesWithStage s.trays[i]).length, time := s.time } t) ∧
    (s.ilc.state = .sagQualify ∨ s.ilc.state = .rideThrough ∨ s.ilc.state = .exhausted →
      exec .ifailAssert s = .next { s with pins := { s.pins with ifail := true } }) ∧
    (s.ilc.state = .sagQualify →
      ∃ t, exec .ifailRelease s = .next t ∧
        t = withRackOf { s with pins := { s.pins with ifail := false }, ilc := t.ilc } t ∧ GrantsOnly s t ∧
        t.ilc =
          { s.ilc with
            state := .normal, ifail := false, qualify := none, sagStart := none, lastSag := w,
            longestSag := max s.ilc.longestSag w, sagCount := min 65535 (s.ilc.sagCount + 1) } ∧
        NoticeIn { kind := .sagRidden, subject := none, value := some w, time := s.time } t ∧
        (s.kLive ≤ s.budget.c → s.run.state = .idle →
          NoticeNext { kind := .sagRidden, subject := none, value := some w, time := s.time } s t) ∧
        (s.run.state = .held → t.run.state ≠ .held)) ∧
    (s.ilc.state = .rideThrough ∨ s.ilc.state = .exhausted →
      exec .ifailRelease s = .next
        { heldBack s with
          pins := { s.pins with ifail := false }
          ilc :=
            { s.ilc with
              state := .restoreHold, ifail := false, restore := some (s.params.restoreHold * 1000) } }) ∧
    (s.ilc.state = .normal ∨ s.ilc.state = .restoreHold →
      exec .ifailRelease s = .next { s with pins := { s.pins with ifail := false } }) ∧
    (s.ilc.state ≠ .restoreHold → exec .restoreExpiry s = .next s) ∧
    (s.ilc.state = .restoreHold →
      ∃ t, exec .restoreExpiry s = .next t ∧ t = withRackOf { s with ilc := t.ilc } t ∧ GrantsOnly s t ∧
        t.ilc = { s.ilc with state := .normal, stage := 0, restore := none } ∧
        NoticeNext
          { kind := .inputRestored, subject := none,
            value := some (allTrays.filter fun i => s.trays[i].locks.shed).length, time := s.time } s t ∧
        (s.run.state = .held → t.run.state ≠ .held) ∧
        (s.kLive ≤ s.budget.c →
          (∀ i : TrayId, t.trays[i].locks.shed = false) ∧
          (∀ i : TrayId, s.trays[i].enable = true → t.trays[i].enable = true)) ∧
        (TrayLaw s → s.store.autoPending = false → s.kLive ≤ s.budget.c → RecoveryTaken s t))

/-- The qualify timer's end and a raised stage threshold (R96 to R99, R104). The failure qualified: RIDE-THROUGH with
INPUT-LOST, an active test aborted, and the estimate evaluated at once, for exhaustion before the stage. In
RIDE-THROUGH a change of a threshold is evaluated before its reply, and never lowers the stage. A stage sheds the
trays of its classes, exhaustion every tray that runs, is queued or waits to retry, and no other tray changes. A timer
that does not run does not expire (assumption log 4). -/
def Obligations.QualifyAndStages : Prop :=
  ∀ (s : State) (tag : Byte) (j : Fin 3) (value k : Nat),
    OpenLaw s →
    ShelfLaw s →
    TestLaw s →
    (s.held = none → s.ilc.state ≠ .sagQualify → exec .qualifyExpiry s = .next s) ∧
    (s.held = none → s.ilc.state = .sagQualify →
      ∃ t, exec .qualifyExpiry s = .next t ∧ t = withRackOf { s with ilc := t.ilc, test := t.test } t ∧
        NoticeNext { kind := .inputLost, subject := none, value := some s.ilc.lastR, time := s.time } s t ∧
        t.test = (if s.testActive then abortedTest .inputLost s.test else s.test) ∧ t.grantTotal = 0 ∧
        (s.ilc.lastR = 0 →
          t.ilc = { s.ilc with state := .exhausted, sagStart := none, qualify := none, stage := 0 } ∧
          ShedWhere (fun _ => true) s t ∧
          (s.notices.records.length + 4 ≤ 32 →
            ({ kind := .reserveExhausted, subject := none,
               value := some (allTrays.filter fun i => goesWithStage s.trays[i]).length, time := s.time } : Notice) ∈
              t.notices.records)) ∧
        (s.ilc.lastR ≠ 0 →
          t.ilc =
            { s.ilc with
              state := .rideThrough, sagStart := none, qualify := none,
              stage := reachedStage s.params s.ilc.lastTEst } ∧
          ShedWhere (inStage (reachedStage s.params s.ilc.lastTEst)) s t)) ∧
    (Ready s → s.store.saving = none → s.ilc.state = .rideThrough →
      k = reachedStage (paramPut s.params (9 + j.val) (min 65535 value)) s.ilc.lastTEst →
      ∃ t, exec (.setShelfParam tag (9 + j.val) value) s = .next t ∧
        t =
          answered ⟨0x0A, tag, .setShelfParam (9 + j.val) value⟩ (.ack (decide (65535 < value)) false)
            (withRackOf
              { s with
                ilc := { s.ilc with stage := max s.ilc.stage k }
                params := paramPut s.params (9 + j.val) (min 65535 value) } t) ∧
        GrantsOnly s t ∧
        (k ≤ s.ilc.stage → t.trays = s.trays ∧ t.notices = s.notices) ∧
        (s.ilc.stage < k →
          ShedWhere (inStage k) s t ∧
          (s.notices.records.length + 2 ≤ 32 →
            ({ kind := .shedStage, subject := some k,
               value := some (allTrays.filter fun i => inStage k s.trays[i] && goesWithStage s.trays[i]).length,
               time := s.time } : Notice) ∈ t.notices.records)))

/-! ### Runs -/

/-- RUN-UP (R118, R182): its refusals in their order; when it is taken the reply gives the number of trays of the scope
that are present, OFF, AUTO and free of lockouts, each of them is QUEUED or started, only QUEUED trays change besides,
and a run of that scope is made in IDLE while a running one keeps its scope, and the queue stands in its
order (R109). A run without such a tray is done at
once. The scope tests of R182 come first, in its order: an undefined kind is BAD-INDEX; a length that does not fit
the kind or a count above 24 BAD-LENGTH; a rank above 15 or a tray above 23 BAD-INDEX. A range of ranks includes both its
ends. An empty payload is BAD-LENGTH (assumption log 21). -/
def Obligations.RunUp : Prop :=
  ∀ (s : State) (tag : Byte) (scope : List Byte) (i : TrayId) (l : List TrayId),
    Ready s →
    TrayLaw s →
    DeficitLaw s →
    l = (allTrays.filter fun i => bytesSelect scope s i && joins s.trays[i]) →
    (scope = [] ∨ (scope.head? = some 0 ∧ scope.length ≠ 1) ∨ (scope.head? = some 1 ∧ scope.length ≠ 3) ∨
        (scope.head? = some 2 ∧
          (scope.length < 2 ∨ 24 < (scope.getD 1 0).toNat ∨ scope.length ≠ 2 + (scope.getD 1 0).toNat)) →
      exec (.runUp tag scope) s = .next (turnedAway ⟨0x20, tag, .runUp scope⟩ .badLength s)) ∧
    (2 < (scope.headD 0).toNat ∨ (scope.head? = some 1 ∧ scope.length = 3 ∧ ∃ rank ∈ scope.tail, 15 < rank.toNat) ∨
        (scope.head? = some 2 ∧ (scope.getD 1 0).toNat ≤ 24 ∧ scope.length = 2 + (scope.getD 1 0).toNat ∧
          ∃ tray ∈ scope.drop 2, 23 < tray.toNat) →
      exec (.runUp tag scope) s = .next (turnedAway ⟨0x20, tag, .runUp scope⟩ .badIndex s)) ∧
    ((scopeFault scope = none ∧ scope.head? = some 1) →
      (i ∈ l ↔
        (scope.getD 1 0).toNat ≤ s.trays[i].cfg.rank ∧ s.trays[i].cfg.rank ≤ (scope.getD 2 0).toNat ∧
        s.trays[i].present = true ∧ s.trays[i].state = .off ∧ s.trays[i].owner = .auto ∧
        s.trays[i].locks = noLockouts)) ∧
    ((scopeFault scope).isSome = true →
      exec (.runUp tag scope) s = .next
        (turnedAway ⟨0x20, tag, .runUp scope⟩ ((scopeFault scope).getD .badLength) s)) ∧
    (scopeFault scope = none → s.ilc.state ≠ .normal →
      exec (.runUp tag scope) s = .next (turnedAway ⟨0x20, tag, .runUp scope⟩ .held s)) ∧
    (scopeFault scope = none → s.ilc.state = .normal →
      (s.run.state ≠ .idle ∧ s.run.direction = .down) ∨ s.run.state = .suspended →
      exec (.runUp tag scope) s = .next (turnedAway ⟨0x20, tag, .runUp scope⟩ .wrongState s)) ∧
    (scopeFault scope = none → s.ilc.state = .normal → s.run.state = .idle → l = [] →
      exec (.runUp tag scope) s = .next
        (answered ⟨0x20, tag, .runUp scope⟩ (.data [0])
          { post .runDone (some 0) (some 0) s with
            run :=
              { s.run with
                direction := .up, state := .idle, scope := scopeOf scope, startQueue := [], stopQueue := [],
                members := [], blocked := none }
            store := { s.store with autoPending := false } })) ∧
    (scopeFault scope = none → s.ilc.state = .normal →
      s.run.state = .idle ∨ (s.run.state = .running ∧ s.run.direction = .up) →
      ∃ t, exec (.runUp tag scope) s = .next t ∧
        TraySideOnly
          (answered ⟨0x20, tag, .runUp scope⟩ (.data (le8 l.length))
            { s with store := { s.store with
                autoPending := if s.run.state = .idle then false else s.store.autoPending } }) t ∧
        t.run.direction = .up ∧ t.run.scope = (if s.run.state = .idle then scopeOf scope else s.run.scope) ∧
        (i ∈ l → t.trays[i].state = .queued ∨ t.trays[i].state = .inrush ∨ t.trays[i].state = .on) ∧
        (i ∉ l → s.trays[i].state ≠ .queued → t.trays[i] = s.trays[i]) ∧
        (OrderLaw s → t.run.startQueue.Pairwise (StartsFirst s)))

/-- RUN-DOWN (R116, R119, R182): its refusals; a running DOWN run takes in the trays of the scope that are not in its
queue; otherwise a DOWN run of that scope replaces an UP run, whose QUEUED trays go OFF and whose members are let go,
with no RUN-DONE for it. The queue is in descending order of rank and then of index, also after a merge (R119).
While the stop spacing timer runs
no tray is stopped yet; without it the first is, at once. The scope tests of R182 come first, as for RUN-UP. An empty
payload is BAD-LENGTH (assumption log 21). -/
def Obligations.RunDown : Prop :=
  ∀ (s : State) (tag : Byte) (scope : List Byte) (i : TrayId) (l : List TrayId),
    Ready s →
    TrayLaw s →
    OpenLaw s →
    DeficitLaw s →
    l = (allTrays.filter fun i => bytesSelect scope s i && stops s.trays[i]) →
    (scope = [] ∨ (scope.head? = some 0 ∧ scope.length ≠ 1) ∨ (scope.head? = some 1 ∧ scope.length ≠ 3) ∨
        (scope.head? = some 2 ∧
          (scope.length < 2 ∨ 24 < (scope.getD 1 0).toNat ∨ scope.length ≠ 2 + (scope.getD 1 0).toNat)) →
      exec (.runDown tag scope) s = .next (turnedAway ⟨0x21, tag, .runDown scope⟩ .badLength s)) ∧
    (2 < (scope.headD 0).toNat ∨ (scope.head? = some 1 ∧ scope.length = 3 ∧ ∃ rank ∈ scope.tail, 15 < rank.toNat) ∨
        (scope.head? = some 2 ∧ (scope.getD 1 0).toNat ≤ 24 ∧ scope.length = 2 + (scope.getD 1 0).toNat ∧
          ∃ tray ∈ scope.drop 2, 23 < tray.toNat) →
      exec (.runDown tag scope) s = .next (turnedAway ⟨0x21, tag, .runDown scope⟩ .badIndex s)) ∧
    ((scopeFault scope).isSome = true →
      exec (.runDown tag scope) s = .next
        (turnedAway ⟨0x21, tag, .runDown scope⟩ ((scopeFault scope).getD .badLength) s)) ∧
    (scopeFault scope = none → s.run.direction = .down → s.run.state = .suspended →
      exec (.runDown tag scope) s = .next (turnedAway ⟨0x21, tag, .runDown scope⟩ .wrongState s)) ∧
    (scopeFault scope = none → s.run.direction = .down → s.run.state = .running →
      ∃ t, exec (.runDown tag scope) s = .next t ∧
        TraySideOnly
          (answered ⟨0x21, tag, .runDown scope⟩ (.data (le8 (l.filter fun j => j ∉ s.run.stopQueue).length)) s) t ∧
        t.run.direction = .down ∧ t.run.scope = s.run.scope ∧
        (i ∉ l → i ∉ s.run.stopQueue → t.trays[i] = s.trays[i])) ∧
    (scopeFault scope = none → s.run.direction = .down → s.run.state = .running → s.run.stopSpacing ≠ none →
      ∃ t, exec (.runDown tag scope) s = .next t ∧
        t =
          answered ⟨0x21, tag, .runDown scope⟩ (.data (le8 (l.filter fun j => j ∉ s.run.stopQueue).length))
            { s with run := { s.run with stopQueue := t.run.stopQueue } } ∧
        (i ∈ t.run.stopQueue ↔ i ∈ l ∨ i ∈ s.run.stopQueue) ∧
        (OrderLaw s → t.run.stopQueue.Pairwise (StopsFirst s))) ∧
    (scopeFault scope = none → s.run.direction = .up ∨ s.run.state = .idle →
      ∃ t, exec (.runDown tag scope) s = .next t ∧
        TraySideOnly
          (answered ⟨0x21, tag, .runDown scope⟩ (.data (le8 l.length))
            { s with store := { s.store with autoPending := false } }) t ∧
        t.run.direction = .down ∧ t.run.scope = scopeOf scope ∧ t.run.startQueue = [] ∧ t.run.members = [] ∧
        (t.notices.records.filter fun n => n.kind == .runDone && n.subject == some 0) =
          (s.notices.records.filter fun n => n.kind == .runDone && n.subject == some 0) ∧
        (s.trays[i].state = .queued → t.trays[i] = enterOff s.trays[i]) ∧
        (i ∉ l → s.trays[i].state ≠ .queued → t.trays[i] = s.trays[i]) ∧
        (l = [] → t.run.state = .idle ∧
          NoticeNext { kind := .runDone, subject := some 1, value := some 0, time := s.time } s t) ∧
        (l ≠ [] → s.run.stopSpacing ≠ none →
          t.run.state = .running ∧ t.run.stoppedCount = 0 ∧ t.notices = s.notices ∧
          (i ∈ t.run.stopQueue ↔ i ∈ l) ∧
          t.run.stopQueue.Pairwise (fun a b =>
            s.trays[b].cfg.rank < s.trays[a].cfg.rank ∨
              (s.trays[b].cfg.rank = s.trays[a].cfg.rank ∧ b < a)) ∧
          (s.trays[i].state ≠ .queued → t.trays[i] = s.trays[i])) ∧
        (s.run.stopSpacing = none → i ∈ l →
          (∀ j ∈ l, s.trays[j].cfg.rank < s.trays[i].cfg.rank ∨
            (s.trays[j].cfg.rank = s.trays[i].cfg.rank ∧ j ≤ i)) →
          t.trays[i] = enterStopping s.trays[i]))

/-- RUN-SUSPEND, RUN-RESUME and RUN-CANCEL (R120 to R122): refused WRONG-STATE unless a run runs, or is suspended;
cancelling is never refused. A resumed UP run outside NORMAL is HELD, a DOWN run goes on stopping; a cancelled UP run's
QUEUED trays go OFF, a cancelled DOWN run's trays keep running, and no RUN-DONE is posted. -/
def Obligations.RunControl : Prop :=
  ∀ (s : State) (tag : Byte),
    Ready s →
    TrayLaw s →
    (s.run.state ≠ .running →
      exec (.runSuspend tag) s = .next (turnedAway ⟨0x22, tag, .runSuspend⟩ .wrongState s)) ∧
    (s.run.state = .running →
      exec (.runSuspend tag) s = .next
        (acked ⟨0x22, tag, .runSuspend⟩ { s with run := { s.run with state := .suspended, blocked := none } })) ∧
    (s.run.state ≠ .suspended →
      exec (.runResume tag) s = .next (turnedAway ⟨0x23, tag, .runResume⟩ .wrongState s)) ∧
    (s.run.state = .suspended →
      ∃ t, exec (.runResume tag) s = .next t ∧ TraySideOnly (acked ⟨0x23, tag, .runResume⟩ s) t ∧
        t.run.state ≠ .suspended ∧ t.run.direction = s.run.direction ∧ t.run.scope = s.run.scope) ∧
    (s.run.state = .suspended → s.run.direction = .down → s.run.stopQueue ≠ [] → s.run.stopSpacing ≠ none →
      exec (.runResume tag) s = .next
        (acked ⟨0x23, tag, .runResume⟩ { s with run := { s.run with state := .running } })) ∧
    (s.run.state = .suspended → s.run.direction = .down → s.run.stopQueue = [] →
      exec (.runResume tag) s = .next
        (acked ⟨0x23, tag, .runResume⟩
          { post .runDone (some 1) (some s.run.stoppedCount) s with
            run := { s.run with state := .idle, stoppedCount := 0 } })) ∧
    (s.run.state = .suspended → s.run.direction = .up → s.ilc.state ≠ .normal → s.run.startQueue ≠ [] →
      exec (.runResume tag) s = .next
        (acked ⟨0x23, tag, .runResume⟩ { s with run := { s.run with state := .held } })) ∧
    (s.run.state = .suspended → s.run.direction = .up → s.ilc.state = .normal → s.run.startQueue ≠ [] →
      s.run.startSpacing ≠ none →
      exec (.runResume tag) s = .next
        (acked ⟨0x23, tag, .runResume⟩
          { s with run := { s.run with
              state := .running
              blocked := some (if s.params.slots ≤ s.inrushCount then .slots else .spacing) } })) ∧
    (s.run.state = .idle → exec (.runCancel tag) s = .next (acked ⟨0x24, tag, .runCancel⟩ s)) ∧
    (s.run.state ≠ .idle → s.run.direction = .down →
      exec (.runCancel tag) s = .next
        (acked ⟨0x24, tag, .runCancel⟩
          { s with run := { s.run with state := .idle, stopQueue := [], stoppedCount := 0, blocked := none } })) ∧
    (s.run.state ≠ .idle → s.run.direction = .up →
      exec (.runCancel tag) s = .next
        (acked ⟨0x24, tag, .runCancel⟩
          { s with
            trays := Vector.ofFn fun i => if s.trays[i].state = .queued then enterOff s.trays[i] else s.trays[i]
            run := { s.run with state := .idle, startQueue := [], members := [], blocked := none } }))

/-- The start rule, as the start spacing timer's end has it evaluated (R111 to R113, R79): the head's first failing
condition is the blocked reason, in the order slots, rank gate, budget, readiness (spacing holds); outside NORMAL
nothing is recorded; a head that meets them all enters INRUSH, with EN and a full INRUSH wait, and the spacing starts
again. In any other run nothing but the timer changes, and a stopped timer does not expire (assumption log 4). -/
def Obligations.StartRule : Prop :=
  ∀ (s : State) (h : TrayId) (rest : List TrayId),
    s.held = none →
    TrayLaw s →
    OpenLaw s →
    (s.run.startSpacing = none → exec .startSpacingExpiry s = .next s) ∧
    (s.run.startSpacing ≠ none → s.run.direction = .down ∨ s.run.state ≠ .running →
      exec .startSpacingExpiry s = .next { s with run := { s.run with startSpacing := none } }) ∧
    (s.run.startSpacing ≠ none → s.run.direction = .up → s.run.state = .running →
      (s.run.startQueue = [] →
        exec .startSpacingExpiry s = .next { s with run := { s.run with startSpacing := none, blocked := none } }) ∧
      (s.run.startQueue = h :: rest →
        (s.params.slots ≤ s.inrushCount →
          exec .startSpacingExpiry s = .next
            { s with run := { s.run with startSpacing := none, blocked := some .slots } }) ∧
        (s.inrushCount < s.params.slots →
          (∃ i : TrayId, s.trays[i].state = .inrush ∧ s.trays[i].cfg.rank < s.trays[h].cfg.rank) →
          exec .startSpacingExpiry s = .next
            { s with run := { s.run with startSpacing := none, blocked := some .rankGate } }) ∧
        (s.inrushCount < s.params.slots →
          (∀ i : TrayId, s.trays[i].state = .inrush → s.trays[h].cfg.rank ≤ s.trays[i].cfg.rank) →
          (s.ilc.state ≠ .normal →
            exec .startSpacingExpiry s = .next { s with run := { s.run with startSpacing := none } }) ∧
          (s.ilc.state = .normal →
            s.budget.c < s.kT + s.trays[h].cfg.alloc + s.trays[h].cfg.surge + s.params.margin + s.budget.floorEff →
            exec .startSpacingExpiry s = .next
              { s with run := { s.run with startSpacing := none, blocked := some .budget } }) ∧
          (s.ilc.state = .normal →
            s.kT + s.trays[h].cfg.alloc + s.trays[h].cfg.surge + s.params.margin + s.budget.floorEff ≤ s.budget.c →
            s.params.readyMin ≠ 0 → s.tProj s.trays[h].cfg.alloc < s.params.readyMin →
            exec .startSpacingExpiry s = .next
              { s with run := { s.run with startSpacing := none, blocked := some .readiness } }) ∧
          (s.ilc.state = .normal →
            s.kT + s.trays[h].cfg.alloc + s.trays[h].cfg.surge + s.params.margin + s.budget.floorEff ≤ s.budget.c →
            s.params.readyMin = 0 ∨ s.params.readyMin ≤ s.tProj s.trays[h].cfg.alloc →
            ∃ t, exec .startSpacingExpiry s = .next t ∧ TraySideOnly s t ∧ t.trays[h].enable = true ∧
              h ∉ t.run.startQueue ∧
              (s.pins.pg[h] = false → s.params.startSpacing ≠ 0 →
                t.trays = s.trays.set h
                  { s.trays[h] with state := .inrush, timer := .inrushWait s.trays[h].cfg.pgTimeout } ∧
                t.kT = s.kT + s.trays[h].cfg.alloc + s.trays[h].cfg.surge ∧
                t.run =
                  { s.run with
                    startQueue := rest, startSpacing := some s.params.startSpacing
                    blocked :=
                      if rest = [] then none
                      else if s.params.slots ≤ s.inrushCount + 1 then some .slots
                      else some .spacing })))))

/-- The stop rule, as the stop spacing timer's end has it evaluated, and the automatic power-up run (R117, R181). The
head of the stop queue enters STOPPING and leaves it, the stopped count rises, and the spacing starts again; the last
one stopped makes the run done, with RUN-DONE and the stopped count (which has no ceiling, assumption log 41). The automatic run is made, once, when the mark is set, the roster is ready, every
enabled channel has its samples, the shelf is NORMAL and no run exists (tested by this row and in its events,
assumption log 9). -/
def Obligations.StopRuleAndAutoStart : Prop :=
  ∀ (s : State) (h : TrayId) (rest : List TrayId),
    s.held = none →
    TrayLaw s →
    DeficitLaw s →
    (s.run.stopSpacing = none → exec .stopSpacingExpiry s = .next s) ∧
    (s.run.stopSpacing ≠ none → s.run.direction = .up ∨ s.run.state ≠ .running →
      exec .stopSpacingExpiry s = .next { s with run := { s.run with stopSpacing := none } }) ∧
    (s.run.stopSpacing ≠ none → s.run.direction = .down → s.run.state = .running → s.run.stopQueue = h :: rest →
      s.params.stopSpacing ≠ 0 →
      ∃ t, exec .stopSpacingExpiry s = .next t ∧ TraySideOnly s t ∧
        t.trays = s.trays.set h { s.trays[h] with state := .stopping, timer := .stop s.trays[h].cfg.stopTime } ∧
        t.run.stopQueue = rest ∧ t.run.stopSpacing = some s.params.stopSpacing ∧
        (rest ≠ [] → t.run.state = .running ∧ t.run.stoppedCount = s.run.stoppedCount + 1 ∧
          NoneOfKind .runDone s t) ∧
        (rest = [] → t.run.state = .idle ∧ t.run.stoppedCount = 0 ∧
          NoticeIn
            { kind := .runDone, subject := some 1, value := some (s.run.stoppedCount + 1), time := s.time } t)) ∧
    (s.run.stopSpacing ≠ none → s.run.direction = .down → s.run.state = .running → s.run.stopQueue = h :: rest →
      s.params.stopSpacing = 0 →
      ∃ t, exec .stopSpacingExpiry s = .next t ∧ TraySideOnly s t ∧ t.run.state = .idle ∧ t.run.stopQueue = [] ∧
        NoticeIn
          { kind := .runDone, subject := some 1
            value := some (s.run.stoppedCount + s.run.stopQueue.length), time := s.time } t ∧
        (∀ i : TrayId, t.trays[i] =
          (if i ∈ s.run.stopQueue then
            { s.trays[i] with state := .stopping, timer := .stop s.trays[i].cfg.stopTime }
          else s.trays[i]))) ∧
    (s.store.autoPending = false ∨ s.mbc.rosterReady = false ∨ s.ilc.state ≠ .normal ∨ s.run.state ≠ .idle ∨
        (∃ c : ChannelId, s.channels[c].cfg.enabled = true ∧ s.channels[c].samples < s.channels[c].cfg.nC) →
      exec .autoStartRun s = .next s) ∧
    (s.store.autoPending = true → s.mbc.rosterReady = true → s.ilc.state = .normal → s.run.state = .idle →
      (∀ c : ChannelId, s.channels[c].cfg.enabled = true → s.channels[c].cfg.nC ≤ s.channels[c].samples) →
      ∃ t, exec .autoStartRun s = .next t ∧
        TraySideOnly { s with store := { s.store with autoPending := false } } t ∧
        t.run.direction = .up ∧ t.run.scope = .all ∧
        (∀ i : TrayId, joins s.trays[i] = true →
          t.trays[i].state = .queued ∨ t.trays[i].state = .inrush ∨ t.trays[i].state = .on) ∧
        (∀ i : TrayId, joins s.trays[i] = false → t.trays[i] = s.trays[i]))

/-! ### Leaks and valves -/

/-- A scan pass (R129 to R135, R139, R140): every enabled channel takes one sample, its runs and its sample count follow,
and its state goes by the sample's class as the two tables give; a channel that is not enabled is left. An alarm that
isolates has locked its trays out, and one that closes its valve has its drive asserted, before the pass ends; every
channel's entry to ALARM and to CABLE-FAULT is posted. A loop is escalated exactly with two or more channels in ALARM, and
LOOP-ESCALATED is posted when it becomes so, with the two that its second alarm makes (R134). A staged scan interval becomes active, and the next pass is due one
interval on. -/
def Obligations.ScanPass : Prop :=
  ∀ (s : State) (readings : Vector CableReading 12) (c : ChannelId) (cls : SampleClass),
    s.held = none →
    LeakLaw s →
    ValveLaw s →
    cls = sampleClass readings[c] →
    ∃ t, exec (.scanPass readings) s = .next t ∧
      t =
        withRackOf
          { s with
            stagedScan := none, nextScan := s.time + s.stagedScan.getD s.params.scanInterval
            params := { s.params with scanInterval := s.stagedScan.getD s.params.scanInterval }
            channels := t.channels, loops := t.loops } t ∧
      GrantsOnly s t ∧
      (∀ l : LoopId,
        t.loops[l].escalated = decide (2 ≤ alarmsIn t l) ∧
        (s.loops[l].escalated = false → t.loops[l].escalated = true →
          NoticeIn { kind := .loopEscalated, subject := some l.val, value := some 2, time := s.time } t)) ∧
      ((∀ l : LoopId, t.loops[l].escalated = s.loops[l].escalated) → NoneOfKind .loopEscalated s t) ∧
      (s.channels[c].cfg.enabled = false → t.channels[c] = s.channels[c]) ∧
      (s.channels[c].cfg.enabled = true →
        (cls = .dry ↔ readings[c] = ⟨true, false⟩) ∧ (cls = .wet ↔ readings[c] = ⟨true, true⟩) ∧
        (cls = .opened ↔ readings[c] = ⟨false, false⟩) ∧ (cls = .crossed ↔ readings[c] = ⟨false, true⟩) ∧
        { t.channels[c] with state := .dry, transients := 0, cableFlag := false } =
          { s.channels[c] with
            state := .dry, transients := 0, cableFlag := false,
            samples := min 255 (s.channels[c].samples + 1),
            dryStreak := if cls = .dry then min 255 (s.channels[c].dryStreak + 1) else 0,
            wetRun := if cls = .wet then min 255 (s.channels[c].wetRun + 1) else 0,
            faultRun :=
              if cls = .opened ∨ cls = .crossed then min 255 (s.channels[c].faultRun + 1) else 0 } ∧
        t.channels[c].transients =
          (if s.channels[c].state = .suspect ∧ cls = .dry then min 65535 (s.channels[c].transients + 1)
           else s.channels[c].transients) ∧
        t.channels[c].cableFlag =
          (s.channels[c].cableFlag ||
            (s.channels[c].state == .alarm && (cls == .opened || cls == .crossed) &&
             decide (s.channels[c].cfg.nF ≤ t.channels[c].faultRun))) ∧
        (s.channels[c].state = .alarm → t.channels[c].state = .alarm) ∧
        (s.channels[c].state = .dry ∨ s.channels[c].state = .suspect →
          t.channels[c].state =
            (if cls = .dry then .dry
             else if cls = .wet then
               if s.channels[c].cfg.nC ≤ t.channels[c].wetRun then .alarm else .suspect
             else if s.channels[c].cfg.nF ≤ t.channels[c].faultRun then .cableFault
             else s.channels[c].state)) ∧
        (s.channels[c].state = .cableFault →
          t.channels[c].state =
            (if cls = .dry then if s.channels[c].cfg.nF ≤ t.channels[c].dryStreak then .dry else .cableFault
             else if cls = .wet then
               if s.channels[c].cfg.nC ≤ t.channels[c].wetRun then .alarm else .suspect
             else .cableFault)) ∧
        (t.channels[c].state = .alarm → s.channels[c].cfg.isolate = true →
          ∀ i : TrayId, i ∈ s.channels[c].cfg.trays → t.trays[i].locks.leak = true) ∧
        (t.channels[c].state = .alarm → s.channels[c].cfg.closeValve = true →
          t.loops[s.channels[c].cfg.loop].drive = true) ∧
        (s.channels[c].state ≠ .alarm → t.channels[c].state = .alarm →
          NoticeIn
            { kind := .leakAlarm, subject := some c.val, value := some s.channels[c].cfg.loop.val,
              time := s.time } t) ∧
        (s.channels[c].state ≠ .cableFault → t.channels[c].state = .cableFault →
          NoticeIn
            { kind := .leakCableFault, subject := some c.val, value := some 0, time := s.time } t) ∧
        (s.channels[c].cableFlag = false → t.channels[c].cableFlag = true →
          NoticeIn
            { kind := .leakCableFault, subject := some c.val, value := some 1, time := s.time } t) ∧
        ((∀ d : ChannelId, d ≠ c → s.channels[d].cfg.enabled = false) →
          (s.channels[c].state ≠ .alarm → t.channels[c].state = .alarm →
            NoticeNext
              { kind := .leakAlarm, subject := some c.val, value := some s.channels[c].cfg.loop.val,
                time := s.time } s t) ∧
          (s.channels[c].state ≠ .cableFault → t.channels[c].state = .cableFault →
            NoticeNext
              { kind := .leakCableFault, subject := some c.val, value := some 0, time := s.time } s t) ∧
          (s.channels[c].cableFlag = false → t.channels[c].cableFlag = true →
            NoticeNext
              { kind := .leakCableFault, subject := some c.val, value := some 1, time := s.time } s t)))

/-- LEAK-RELEASE and SET-LEAK-CHANNEL (R134 to R137): their refusals in their order. A release makes the channel DRY,
ends an escalation of fewer than two alarms, frees exactly the trays nothing else covers, in the state they have, and
posts LEAK-RELEASED; valves stay. A new channel configuration replaces the old one, N_c and N_f clamped and repeated
trays held once, with the runs afresh where it is enabled, and the lockouts follow. -/
def Obligations.LeakRequests : Prop :=
  ∀ (s : State) (tag : Byte) (n : Nat) (c : ChannelId) (l : LoopId) (g : RawChannelConfig),
    Ready s →
    LeakLaw s →
    TrayLaw s →
    OpenLaw s →
    (12 ≤ n →
      exec (.leakRelease tag n) s = .next (turnedAway ⟨0x33, tag, .leakRelease n⟩ .badIndex s)) ∧
    (s.hli.arm ≠ some (.leakRelease c.val) →
      exec (.leakRelease tag c) s = .next (turnedAway ⟨0x33, tag, .leakRelease c⟩ .notArmed s)) ∧
    (s.hli.arm = some (.leakRelease c.val) →
      s.channels[c].state ≠ .alarm ∨ s.channels[c].dryStreak < s.channels[c].cfg.nC →
      exec (.leakRelease tag c) s = .next (turnedAway ⟨0x33, tag, .leakRelease c⟩ .wrongState s)) ∧
    (s.hli.arm = some (.leakRelease c.val) → s.channels[c].state = .alarm →
      s.channels[c].cfg.nC ≤ s.channels[c].dryStreak → s.channels[c].cfg.loop = l →
      ∃ t, exec (.leakRelease tag c) s = .next t ∧
        t =
          acked ⟨0x33, tag, .leakRelease c⟩
            { post .leakReleased (some c.val) (some l.val) s with
              channels := s.channels.set c { s.channels[c] with state := .dry, cableFlag := false }
              loops := s.loops.set l { s.loops[l] with escalated := decide (2 ≤ alarmsIn t l) }
              trays := t.trays } ∧
        (∀ i : TrayId, t.trays[i] =
          { s.trays[i] with locks := { s.trays[i].locks with leak := mustLeak t i } }) ∧
        (∀ i : TrayId, t.trays[i].locks.leak = true → s.trays[i].locks.leak = true)) ∧
    (g.count ≠ g.trays.length ∨ 24 < g.count →
      exec (.setLeakChannel tag g) s = .next (turnedAway ⟨0x32, tag, .setLeakChannel g⟩ .badLength s)) ∧
    (g.count = g.trays.length → g.count ≤ 24 →
      (11 < g.channel ∨ 3 < g.loop ∨ (∃ i ∈ g.trays, 23 < i) →
        exec (.setLeakChannel tag g) s = .next (turnedAway ⟨0x32, tag, .setLeakChannel g⟩ .badIndex s)) ∧
      (g.channel = c.val → g.loop = l.val → (∀ i ∈ g.trays, i ≤ 23) →
        (s.store.saving ≠ none →
          exec (.setLeakChannel tag g) s = .next (turnedAway ⟨0x32, tag, .setLeakChannel g⟩ .busy s)) ∧
        (s.store.saving = none → s.channels[c].state = .alarm →
          exec (.setLeakChannel tag g) s =
            .next (turnedAway ⟨0x32, tag, .setLeakChannel g⟩ .leakActive s)) ∧
        (s.store.saving = none → s.channels[c].state ≠ .alarm →
          ∃ t, exec (.setLeakChannel tag g) s = .next t ∧
            t =
              answered ⟨0x32, tag, .setLeakChannel g⟩
                (.ack (decide ¬ (1 ≤ g.nC ∧ g.nC ≤ 16 ∧ 1 ≤ g.nF ∧ g.nF ≤ 16)) false)
                (withRackOf { s with channels := t.channels } t) ∧
            GrantsOnly s t ∧
            t.channels[c].cfg =
              { enabled := g.enabled != 0, loop := l
                trays := allTrays.filter fun i => g.trays.contains i.val
                isolate := g.isolate != 0, closeValve := g.closeValve != 0
                nC := min 16 (max 1 g.nC), nF := min 16 (max 1 g.nF) } ∧
            (∀ d : ChannelId, d ≠ c → t.channels[d] = s.channels[d]) ∧
            (g.enabled = 0 →
              { t.channels[c] with cfg := s.channels[c].cfg } = { s.channels[c] with state := .disabled }) ∧
            (g.enabled ≠ 0 →
              { t.channels[c] with cfg := s.channels[c].cfg } =
                { s.channels[c] with
                  state := .dry, wetRun := 0, faultRun := 0, dryStreak := 0, samples := 0,
                  transients := if s.channels[c].state = .disabled then 0 else s.channels[c].transients }) ∧
            (∀ i : TrayId, t.trays[i].locks.leak = mustLeak t i ∧
              (mustLeak t i = true → t.trays[i].enable = false ∧ t.trays[i].state ≠ .queued)))))

/-- VALVE-OPEN, VALVE-CLOSE, the end switches and the travel timer (R139 to R143). VALVE-OPEN is refused LEAK-ACTIVE
while the valve is required closed; VALVE-CLOSE is refused for no state. A valve already where it is sent is left; the
others drive and travel with a full timer, or arrive at once where the end switch is made. The switch of the end that a
valve travels to, or was stuck short of, ends its travel; any other switch edge is recorded only. A stopped timer does not
expire (assumption log 4). -/
def Obligations.Valves : Prop :=
  ∀ (s : State) (tag : Byte) (n : Nat) (l : LoopId) (made : Bool),
    (Ready s → 4 ≤ n →
      exec (.valveOpen tag n) s = .next (turnedAway ⟨0x34, tag, .valveOpen n⟩ .badIndex s) ∧
      exec (.valveClose tag n) s = .next (turnedAway ⟨0x35, tag, .valveClose n⟩ .badIndex s)) ∧
    (Ready s →
      s.loops[l].escalated = true ∨
        (∃ c : ChannelId, s.channels[c].state = .alarm ∧ s.channels[c].cfg.loop = l ∧
          s.channels[c].cfg.closeValve = true) →
      exec (.valveOpen tag l) s = .next (turnedAway ⟨0x34, tag, .valveOpen l⟩ .leakActive s)) ∧
    (Ready s → s.loops[l].escalated = false →
      (∀ c : ChannelId, ¬ (s.channels[c].state = .alarm ∧ s.channels[c].cfg.loop = l ∧
        s.channels[c].cfg.closeValve = true)) →
      (s.loops[l].valve = .opened ∨ s.loops[l].valve = .opening →
        exec (.valveOpen tag l) s = .next (acked ⟨0x34, tag, .valveOpen l⟩ s)) ∧
      (s.loops[l].valve = .closed ∨ s.loops[l].valve = .closing ∨ s.loops[l].valve = .stuck →
        exec (.valveOpen tag l) s = .next
          (acked ⟨0x34, tag, .valveOpen l⟩
            { s with
              loops := s.loops.set l
                { s.loops[l] with
                  drive := false
                  valve := if s.loops[l].openSwitch then .opened else .opening
                  travel := if s.loops[l].openSwitch then none else some (s.params.valveTravel * 1000) } }))) ∧
    (Ready s → s.loops[l].valve = .closed ∨ s.loops[l].valve = .closing →
      exec (.valveClose tag l) s = .next (acked ⟨0x35, tag, .valveClose l⟩ s)) ∧
    (Ready s → s.loops[l].valve = .opened ∨ s.loops[l].valve = .opening ∨ s.loops[l].valve = .stuck →
      exec (.valveClose tag l) s = .next
        (acked ⟨0x35, tag, .valveClose l⟩
          { (if s.loops[l].closedSwitch then post .valveClosed (some l.val) none s else s) with
            loops := s.loops.set l
              { s.loops[l] with
                drive := true
                valve := if s.loops[l].closedSwitch then .closed else .closing
                travel := if s.loops[l].closedSwitch then none else some (s.params.valveTravel * 1000) } })) ∧
    (s.held = none →
      exec (.valveSwitchEdge l .closed made) s = .next
        (if made = true ∧
            (s.loops[l].valve = .closing ∨ (s.loops[l].valve = .stuck ∧ s.loops[l].drive = true)) then
          { post .valveClosed (some l.val) none s with
            pins := { s.pins with closedSwitch := s.pins.closedSwitch.set l true }
            loops := s.loops.set l { s.loops[l] with closedSwitch := true, valve := .closed, travel := none } }
        else
          { s with
            pins := { s.pins with closedSwitch := s.pins.closedSwitch.set l made }
            loops := s.loops.set l { s.loops[l] with closedSwitch := made } })) ∧
    (s.held = none →
      exec (.valveSwitchEdge l .opened made) s = .next
        (if made = true ∧
            (s.loops[l].valve = .opening ∨ (s.loops[l].valve = .stuck ∧ s.loops[l].drive = false)) then
          { s with
            pins := { s.pins with openSwitch := s.pins.openSwitch.set l true }
            loops := s.loops.set l { s.loops[l] with openSwitch := true, valve := .opened, travel := none } }
        else
          { s with
            pins := { s.pins with openSwitch := s.pins.openSwitch.set l made }
            loops := s.loops.set l { s.loops[l] with openSwitch := made } })) ∧
    (s.held = none → s.loops[l].travel ≠ none → s.loops[l].valve = .closing ∨ s.loops[l].valve = .opening →
      exec (.valveTravelExpiry l) s = .next
        { post .valveStuck (some l.val) (some (if s.loops[l].valve = .closing then 0 else 1)) s with
          loops := s.loops.set l { s.loops[l] with valve := .stuck, travel := none } }) ∧
    (s.held = none → s.loops[l].travel = none → exec (.valveTravelExpiry l) s = .next s)

/-! ### The battery test -/

/-- The test's requests and its prepare timer (R147, R149, R150, R154 to R157): the refusals in their order; a test begins
in PREPARE with the timer at the limit, and goes straight to DISCHARGE on a FULL unit; a suspended test has its power at
0 and its timer paused, and goes on from there; an abort ends it with its reason. A prepare timer that does not run does
not expire (assumption log 4). -/
def Obligations.TestCommands : Prop :=
  ∀ (s : State) (tag : Byte) (n : Nat) (b : BbuId) (left : Nat),
    TestLaw s →
    (Ready s → 6 ≤ n →
      exec (.testStart tag n) s = .next (turnedAway ⟨0x39, tag, .testStart n⟩ .badIndex s)) ∧
    (Ready s →
      s.testActive = true ∨ s.ilc.state ≠ .normal ∨ s.bbus[b].inService = false ∨
        (s.bbus[b].state ≠ .charging ∧ s.bbus[b].state ≠ .full) →
      exec (.testStart tag b) s = .next (turnedAway ⟨0x39, tag, .testStart b⟩ .wrongState s)) ∧
    (Ready s → s.testActive = false → s.ilc.state = .normal → s.bbus[b].inService = true →
      (s.bbus[b].state = .charging ∨ s.bbus[b].state = .full →
        s.params.readyMin ≠ 0 → lastingTime (s.reserve - s.usable b) s.lMeas < s.params.readyMin →
        exec (.testStart tag b) s = .next (turnedAway ⟨0x39, tag, .testStart b⟩ .noReserve s)) ∧
      (s.params.readyMin = 0 ∨ s.params.readyMin ≤ lastingTime (s.reserve - s.usable b) s.lMeas →
        (s.bbus[b].state = .charging →
          exec (.testStart tag b) s = .next
            (acked ⟨0x39, tag, .testStart b⟩
              { s with test :=
                  { phase := .prepare, target := some b, suspended := false, testPower := s.params.testPower,
                    prepare := .running (s.params.prepareLimit * 60000), eMeas := 0, outcome := none,
                    health := none } })) ∧
        (s.bbus[b].state = .full →
          ∃ t, exec (.testStart tag b) s = .next t ∧
            t = { acked ⟨0x39, tag, .testStart b⟩ s with test := t.test, bbus := t.bbus } ∧
            t.test =
              { phase := .discharge, target := some b, suspended := false, testPower := s.params.testPower,
                prepare := .stopped, eMeas := 0, outcome := none, health := none } ∧
            (∀ c : BbuId, { t.bbus[c] with grant := 0 } =
              { s.bbus[c] with
                grant := 0, testPower := if c = b then s.params.testPower else s.bbus[c].testPower })))) ∧
    (Ready s → (s.test.phase ≠ .prepare ∧ s.test.phase ≠ .discharge) ∨ s.test.suspended = true →
      exec (.testSuspend tag) s = .next (turnedAway ⟨0x3A, tag, .testSuspend⟩ .wrongState s)) ∧
    (Ready s → s.test.phase = .prepare → s.test.prepare = .running left → s.test.suspended = false →
      s.test.target = some b →
      exec (.testSuspend tag) s = .next
        (acked ⟨0x3A, tag, .testSuspend⟩
          { s with
            test := { s.test with suspended := true, prepare := .paused left }
            bbus := s.bbus.set b { s.bbus[b] with testPower := 0 } })) ∧
    (Ready s → s.test.phase = .discharge → s.test.prepare = .stopped → s.test.suspended = false →
      s.test.target = some b →
      exec (.testSuspend tag) s = .next
        (acked ⟨0x3A, tag, .testSuspend⟩
          { s with
            test := { s.test with suspended := true }
            bbus := s.bbus.set b { s.bbus[b] with testPower := 0 } })) ∧
    (Ready s → s.test.suspended = false →
      exec (.testResume tag) s = .next (turnedAway ⟨0x3B, tag, .testResume⟩ .wrongState s)) ∧
    (Ready s → s.test.suspended = true → s.test.target = some b → s.test.phase = .prepare →
      s.test.prepare = .paused left →
      (s.bbus[b].state ≠ .full →
        exec (.testResume tag) s = .next
          (acked ⟨0x3B, tag, .testResume⟩
            { s with test := { s.test with suspended := false, prepare := .running left } })) ∧
      (s.bbus[b].state = .full →
        ∃ t, exec (.testResume tag) s = .next t ∧
          t = { acked ⟨0x3B, tag, .testResume⟩ s with test := t.test, bbus := t.bbus } ∧
          t.test = { s.test with suspended := false, prepare := .stopped, phase := .discharge, eMeas := 0 } ∧
          t.bbus[b].testPower = s.test.testPower)) ∧
    (Ready s → s.test.suspended = true → s.test.target = some b → s.test.phase = .discharge →
      s.test.prepare = .stopped →
      exec (.testResume tag) s = .next
        (acked ⟨0x3B, tag, .testResume⟩
          { s with
            test := { s.test with suspended := false }
            bbus := s.bbus.set b { s.bbus[b] with testPower := s.test.testPower } })) ∧
    (Ready s → s.testActive = false →
      exec (.testAbort tag) s = .next (turnedAway ⟨0x3C, tag, .testAbort⟩ .wrongState s)) ∧
    (Ready s → s.testActive = true → s.test.target = some b →
      ∃ t, exec (.testAbort tag) s = .next t ∧
        t = { acked ⟨0x3C, tag, .testAbort⟩ s with test := t.test, bbus := t.bbus, notices := t.notices } ∧
        t.test = abortedTest .host s.test ∧
        (∀ c : BbuId, { t.bbus[c] with grant := 0 } =
          { s.bbus[c] with grant := 0, testPower := if c = b then 0 else s.bbus[c].testPower }) ∧
        NoticeNext
          { kind := .testDone, subject := some (6 + b.val), value := some 1, time := s.time } s t) ∧
    (s.held = none → s.test.phase = .prepare → s.test.prepare = .running left → s.test.target = some b →
      ∃ t, exec .prepareTimeout s = .next t ∧
        t =
          { s with
            test := abortedTest .prepareTimeout s.test
            bbus := s.bbus.set b { s.bbus[b] with testPower := 0 }, notices := t.notices } ∧
        NoticeNext
          { kind := .testDone, subject := some (6 + b.val), value := some 4, time := s.time } s t) ∧
    (s.held = none → s.test.phase ≠ .prepare ∨ s.test.prepare = .stopped ∨ s.test.prepare = .paused left →
      exec .prepareTimeout s = .next s)

/-- The test as its target's arrivals move it (R150 to R153): FULL ends an unsuspended PREPARE and a RECHARGE; a
discharge delta adds to E_meas; the cutoff in DISCHARGE makes floor(E_meas / 1000), clamped, the unit's E_full and its
account 0, gives the health, and goes on to RECHARGE; a fault, or a poll answered out of service, aborts the test with
BBU-LOST, the arrival's delta added first (assumption log 29). A test that ends posts TEST-DONE with its outcome's code. -/
def Obligations.TestArrivals : Prop :=
  ∀ (s : State) (p : Poll) (b : BbuId) (b0 b1 b2 b3 b4 b5 b6 : Byte) (power : Int) (delta measured : Nat),
    s.held = none →
    s.mbc.poll = some p →
    p.slot = bbuSlotNo b →
    s.isTarget b = true →
    power = max (-6000) (min 6000 (s16 b0 b1)) →
    delta =
      (if s.bbus[b].seeded = false ∨ 500 < s.time - s.bbus[b].lastArrival.getD s.time then 0
       else power.toNat * (s.time - s.bbus[b].lastArrival.getD s.time)) →
    measured = min 4000000000 (s.test.eMeas + delta) →
    ∃ t,
      exec (.moduleReplyReceived
        (.complete (slotStation p.slot) 0xE1 p.tag [b0, b1, b2, b3, b4, b5, b6]
          (crc16 [b0, b1, b2, b3, b4, b5, b6]))) s = .next t ∧
      t = withRackOf { s with mbc := t.mbc, ilc := t.ilc, test := t.test } t ∧
      (b6 ≠ 0 ∨ p.inService = false →
        t.test =
          abortedTest .bbuLost
            { s.test with eMeas := if s.test.phase = .discharge then measured else s.test.eMeas } ∧
        t.bbus[b].testPower = 0 ∧
        NoticeIn { kind := .testDone, subject := some (6 + b.val), value := some 3, time := s.time } t) ∧
      (b6 = 0 → p.inService = true → s.test.phase = .prepare →
        (b3 ≠ 0 ∧ power < 20 ∧ s.test.suspended = false →
          t.test = { s.test with phase := .discharge, prepare := .stopped, eMeas := 0 } ∧
          t.bbus[b].testPower = s.test.testPower) ∧
        (b3 = 0 ∨ 20 ≤ power ∨ s.test.suspended = true → t.test = s.test)) ∧
      (b6 = 0 → p.inService = true → s.test.phase = .discharge →
        (b4 = 0 → t.test = { s.test with eMeas := measured }) ∧
        (b4 ≠ 0 →
          t.test =
            { s.test with
              eMeas := measured, phase := .recharge, suspended := false
              health := some (min 100 (measured / 1000 * 100 / s.bbus[b].eRated)) } ∧
          t.bbus[b].eFull = min 4000000 (max 1000 (measured / 1000)) ∧ t.bbus[b].stored = 0 ∧
          t.bbus[b].testPower = 0 ∧
          (min 100 (measured / 1000 * 100 / s.bbus[b].eRated) < s.params.weakThreshold →
            s.notices.records.length + 4 ≤ 32 →
            ({ kind := .bbuWeak, subject := some (6 + b.val),
               value := some (min 100 (measured / 1000 * 100 / s.bbus[b].eRated)), time := s.time } : Notice) ∈
              t.notices.records))) ∧
      (b6 = 0 → p.inService = true → s.test.phase = .recharge →
        (b3 ≠ 0 ∧ power < 20 →
          t.test = { s.test with phase := .done, outcome := some .completed } ∧
          NoticeIn { kind := .testDone, subject := some (6 + b.val), value := some 0, time := s.time } t) ∧
        (b3 = 0 ∨ 20 ≤ power → t.test = s.test))

/-! ### What every step keeps -/

/-- Every step keeps the laws of the tray table and the run: a queued tray is in the start queue and has no lockout, a
running tray carries neither LEAK nor SHED, a timer runs only in its state, each queue and the member set hold what
they may, and each queue stands in its order (R2, R5, R6, R108 to R110, R116). -/
def Obligations.EveryStepKeepsTheTrayLaw : Prop :=
  ∀ (s t : State), Laws s → step s = .next t → TrayLaw t ∧ OrderLaw t

/-- Every step keeps the leak laws: escalation, DISABLED, LEAK on exactly the trays that must carry it, and a valve that
is required closed driven closed (R128, R134, R135, R139, R140). -/
def Obligations.EveryStepKeepsTheLeakLaws : Prop :=
  ∀ (s t : State), Laws s → step s = .next t → LeakLaw t ∧ ValveLaw t

/-- Every step keeps the budget's laws: the grants fit in what C leaves over margin and committed load and are 0 outside
NORMAL (R83), and 0 for a unit that has not been CHARGING at an arrival since it was put in service again (R49); no run stands complete (R114, R117); and no deficit stands in NORMAL that a tray could be shed for (R86
to R88). -/
def Obligations.EveryStepKeepsTheBudgetLaws : Prop :=
  ∀ (s t : State), Laws s → step s = .next t → GrantLaw t ∧ OpenLaw t ∧ DeficitLaw t

/-- Every step keeps the laws of notices, link, shelf and test, and lets no tray enter INRUSH but in NORMAL: at most 32
notices and two requests, counters in range, the IFAIL level, timers and stage of each shelf power state, a test active
only in NORMAL and SAG-QUALIFY; the bus driver released between steps, and no part of a frame kept without a poll; and the
shed stage does not fall within one ride-through (R7, R30, R35, R83, R92, R97, R147, R163, R167, R170). -/
def Obligations.EveryStepKeepsTheOtherLaws : Prop :=
  ∀ (s t : State),
    Laws s →
    step s = .next t →
    NoticeLaw t ∧ LinkLaw t ∧ BusLaw t ∧ ShelfLaw t ∧ TestLaw t ∧
    (s.ilc.state = .rideThrough ∨ s.ilc.state = .restoreHold ∨ s.ilc.state = .exhausted →
      t.ilc.state = .rideThrough ∨ t.ilc.state = .restoreHold ∨ t.ilc.state = .exhausted →
      s.ilc.stage ≤ t.ilc.stage) ∧
    (∀ i : TrayId, s.trays[i].state ≠ .inrush → t.trays[i].state = .inrush →
      s.ilc.state = .normal ∨ t.ilc.state = .normal)

end
end

