-- ==== Sys2Proof/Laws/State.lean ====
section
/-! SUPPORT. What each update of State leaves alone and what it sets: one lemma a field an update. -/
namespace Sys2Proof.Machine

/-! ### putTray -/

@[simp] theorem putTray_time (i : TrayId) (t : Tray) (s : State) : (putTray i t s).time = s.time := rfl
@[simp] theorem putTray_pins (i : TrayId) (t : Tray) (s : State) : (putTray i t s).pins = s.pins := rfl
@[simp] theorem putTray_mbc (i : TrayId) (t : Tray) (s : State) : (putTray i t s).mbc = s.mbc := rfl
@[simp] theorem putTray_rects (i : TrayId) (t : Tray) (s : State) : (putTray i t s).rects = s.rects := rfl
@[simp] theorem putTray_bbus (i : TrayId) (t : Tray) (s : State) : (putTray i t s).bbus = s.bbus := rfl
@[simp] theorem putTray_budget (i : TrayId) (t : Tray) (s : State) : (putTray i t s).budget = s.budget := rfl
@[simp] theorem putTray_ilc (i : TrayId) (t : Tray) (s : State) : (putTray i t s).ilc = s.ilc := rfl
@[simp] theorem putTray_channels (i : TrayId) (t : Tray) (s : State) : (putTray i t s).channels = s.channels := rfl
@[simp] theorem putTray_loops (i : TrayId) (t : Tray) (s : State) : (putTray i t s).loops = s.loops := rfl
@[simp] theorem putTray_stagedScan (i : TrayId) (t : Tray) (s : State) : (putTray i t s).stagedScan = s.stagedScan := rfl
@[simp] theorem putTray_nextScan (i : TrayId) (t : Tray) (s : State) : (putTray i t s).nextScan = s.nextScan := rfl
@[simp] theorem putTray_test (i : TrayId) (t : Tray) (s : State) : (putTray i t s).test = s.test := rfl
@[simp] theorem putTray_hli (i : TrayId) (t : Tray) (s : State) : (putTray i t s).hli = s.hli := rfl
@[simp] theorem putTray_notices (i : TrayId) (t : Tray) (s : State) : (putTray i t s).notices = s.notices := rfl
@[simp] theorem putTray_store (i : TrayId) (t : Tray) (s : State) : (putTray i t s).store = s.store := rfl
@[simp] theorem putTray_params (i : TrayId) (t : Tray) (s : State) : (putTray i t s).params = s.params := rfl
@[simp] theorem putTray_held (i : TrayId) (t : Tray) (s : State) : (putTray i t s).held = s.held := rfl
@[simp] theorem putTray_freeCount (i : TrayId) (t : Tray) (s : State) : (putTray i t s).freeCount = s.freeCount := rfl
@[simp] theorem putTray_pending (i : TrayId) (t : Tray) (s : State) : (putTray i t s).pending = s.pending := rfl
@[simp] theorem putTray_trays (i : TrayId) (t : Tray) (s : State) :
    (putTray i t s).trays = s.trays.set i t := rfl
@[simp] theorem putTray_run (i : TrayId) (t : Tray) (s : State) :
    (putTray i t s).run = syncRun i t s.run := rfl

/-! ### setBus -/

@[simp] theorem setBus_time (m : ModuleBus) (s : State) : (setBus m s).time = s.time := rfl
@[simp] theorem setBus_pins (m : ModuleBus) (s : State) : (setBus m s).pins = s.pins := rfl
@[simp] theorem setBus_trays (m : ModuleBus) (s : State) : (setBus m s).trays = s.trays := rfl
@[simp] theorem setBus_rects (m : ModuleBus) (s : State) : (setBus m s).rects = s.rects := rfl
@[simp] theorem setBus_bbus (m : ModuleBus) (s : State) : (setBus m s).bbus = s.bbus := rfl
@[simp] theorem setBus_budget (m : ModuleBus) (s : State) : (setBus m s).budget = s.budget := rfl
@[simp] theorem setBus_ilc (m : ModuleBus) (s : State) : (setBus m s).ilc = s.ilc := rfl
@[simp] theorem setBus_run (m : ModuleBus) (s : State) : (setBus m s).run = s.run := rfl
@[simp] theorem setBus_channels (m : ModuleBus) (s : State) : (setBus m s).channels = s.channels := rfl
@[simp] theorem setBus_loops (m : ModuleBus) (s : State) : (setBus m s).loops = s.loops := rfl
@[simp] theorem setBus_stagedScan (m : ModuleBus) (s : State) : (setBus m s).stagedScan = s.stagedScan := rfl
@[simp] theorem setBus_nextScan (m : ModuleBus) (s : State) : (setBus m s).nextScan = s.nextScan := rfl
@[simp] theorem setBus_test (m : ModuleBus) (s : State) : (setBus m s).test = s.test := rfl
@[simp] theorem setBus_hli (m : ModuleBus) (s : State) : (setBus m s).hli = s.hli := rfl
@[simp] theorem setBus_notices (m : ModuleBus) (s : State) : (setBus m s).notices = s.notices := rfl
@[simp] theorem setBus_store (m : ModuleBus) (s : State) : (setBus m s).store = s.store := rfl
@[simp] theorem setBus_params (m : ModuleBus) (s : State) : (setBus m s).params = s.params := rfl
@[simp] theorem setBus_held (m : ModuleBus) (s : State) : (setBus m s).held = s.held := rfl
@[simp] theorem setBus_freeCount (m : ModuleBus) (s : State) : (setBus m s).freeCount = s.freeCount := rfl
@[simp] theorem setBus_pending (m : ModuleBus) (s : State) : (setBus m s).pending = s.pending := rfl
@[simp] theorem setBus_mbc (m : ModuleBus) (s : State) :
    (setBus m s).mbc = m := rfl

/-! ### putSlot -/

@[simp] theorem putSlot_time (k : SlotId) (x : ModuleSlot) (s : State) : (putSlot k x s).time = s.time := rfl
@[simp] theorem putSlot_pins (k : SlotId) (x : ModuleSlot) (s : State) : (putSlot k x s).pins = s.pins := rfl
@[simp] theorem putSlot_trays (k : SlotId) (x : ModuleSlot) (s : State) : (putSlot k x s).trays = s.trays := rfl
@[simp] theorem putSlot_rects (k : SlotId) (x : ModuleSlot) (s : State) : (putSlot k x s).rects = s.rects := rfl
@[simp] theorem putSlot_bbus (k : SlotId) (x : ModuleSlot) (s : State) : (putSlot k x s).bbus = s.bbus := rfl
@[simp] theorem putSlot_budget (k : SlotId) (x : ModuleSlot) (s : State) : (putSlot k x s).budget = s.budget := rfl
@[simp] theorem putSlot_ilc (k : SlotId) (x : ModuleSlot) (s : State) : (putSlot k x s).ilc = s.ilc := rfl
@[simp] theorem putSlot_run (k : SlotId) (x : ModuleSlot) (s : State) : (putSlot k x s).run = s.run := rfl
@[simp] theorem putSlot_channels (k : SlotId) (x : ModuleSlot) (s : State) : (putSlot k x s).channels = s.channels := rfl
@[simp] theorem putSlot_loops (k : SlotId) (x : ModuleSlot) (s : State) : (putSlot k x s).loops = s.loops := rfl
@[simp] theorem putSlot_stagedScan (k : SlotId) (x : ModuleSlot) (s : State) : (putSlot k x s).stagedScan = s.stagedScan := rfl
@[simp] theorem putSlot_nextScan (k : SlotId) (x : ModuleSlot) (s : State) : (putSlot k x s).nextScan = s.nextScan := rfl
@[simp] theorem putSlot_test (k : SlotId) (x : ModuleSlot) (s : State) : (putSlot k x s).test = s.test := rfl
@[simp] theorem putSlot_hli (k : SlotId) (x : ModuleSlot) (s : State) : (putSlot k x s).hli = s.hli := rfl
@[simp] theorem putSlot_notices (k : SlotId) (x : ModuleSlot) (s : State) : (putSlot k x s).notices = s.notices := rfl
@[simp] theorem putSlot_store (k : SlotId) (x : ModuleSlot) (s : State) : (putSlot k x s).store = s.store := rfl
@[simp] theorem putSlot_params (k : SlotId) (x : ModuleSlot) (s : State) : (putSlot k x s).params = s.params := rfl
@[simp] theorem putSlot_held (k : SlotId) (x : ModuleSlot) (s : State) : (putSlot k x s).held = s.held := rfl
@[simp] theorem putSlot_freeCount (k : SlotId) (x : ModuleSlot) (s : State) : (putSlot k x s).freeCount = s.freeCount := rfl
@[simp] theorem putSlot_pending (k : SlotId) (x : ModuleSlot) (s : State) : (putSlot k x s).pending = s.pending := rfl
@[simp] theorem putSlot_mbc (k : SlotId) (x : ModuleSlot) (s : State) :
    (putSlot k x s).mbc = { s.mbc with slots := s.mbc.slots.set k x } := rfl

/-! ### putBbu -/

@[simp] theorem putBbu_time (b : BbuId) (u : Bbu) (s : State) : (putBbu b u s).time = s.time := rfl
@[simp] theorem putBbu_pins (b : BbuId) (u : Bbu) (s : State) : (putBbu b u s).pins = s.pins := rfl
@[simp] theorem putBbu_trays (b : BbuId) (u : Bbu) (s : State) : (putBbu b u s).trays = s.trays := rfl
@[simp] theorem putBbu_mbc (b : BbuId) (u : Bbu) (s : State) : (putBbu b u s).mbc = s.mbc := rfl
@[simp] theorem putBbu_rects (b : BbuId) (u : Bbu) (s : State) : (putBbu b u s).rects = s.rects := rfl
@[simp] theorem putBbu_budget (b : BbuId) (u : Bbu) (s : State) : (putBbu b u s).budget = s.budget := rfl
@[simp] theorem putBbu_ilc (b : BbuId) (u : Bbu) (s : State) : (putBbu b u s).ilc = s.ilc := rfl
@[simp] theorem putBbu_run (b : BbuId) (u : Bbu) (s : State) : (putBbu b u s).run = s.run := rfl
@[simp] theorem putBbu_channels (b : BbuId) (u : Bbu) (s : State) : (putBbu b u s).channels = s.channels := rfl
@[simp] theorem putBbu_loops (b : BbuId) (u : Bbu) (s : State) : (putBbu b u s).loops = s.loops := rfl
@[simp] theorem putBbu_stagedScan (b : BbuId) (u : Bbu) (s : State) : (putBbu b u s).stagedScan = s.stagedScan := rfl
@[simp] theorem putBbu_nextScan (b : BbuId) (u : Bbu) (s : State) : (putBbu b u s).nextScan = s.nextScan := rfl
@[simp] theorem putBbu_test (b : BbuId) (u : Bbu) (s : State) : (putBbu b u s).test = s.test := rfl
@[simp] theorem putBbu_hli (b : BbuId) (u : Bbu) (s : State) : (putBbu b u s).hli = s.hli := rfl
@[simp] theorem putBbu_notices (b : BbuId) (u : Bbu) (s : State) : (putBbu b u s).notices = s.notices := rfl
@[simp] theorem putBbu_store (b : BbuId) (u : Bbu) (s : State) : (putBbu b u s).store = s.store := rfl
@[simp] theorem putBbu_params (b : BbuId) (u : Bbu) (s : State) : (putBbu b u s).params = s.params := rfl
@[simp] theorem putBbu_held (b : BbuId) (u : Bbu) (s : State) : (putBbu b u s).held = s.held := rfl
@[simp] theorem putBbu_freeCount (b : BbuId) (u : Bbu) (s : State) : (putBbu b u s).freeCount = s.freeCount := rfl
@[simp] theorem putBbu_pending (b : BbuId) (u : Bbu) (s : State) : (putBbu b u s).pending = s.pending := rfl
@[simp] theorem putBbu_bbus (b : BbuId) (u : Bbu) (s : State) :
    (putBbu b u s).bbus = s.bbus.set b u := rfl

/-! ### setTestPower -/

@[simp] theorem setTestPower_time (b : BbuId) (w : Nat) (s : State) : (setTestPower b w s).time = s.time := rfl
@[simp] theorem setTestPower_pins (b : BbuId) (w : Nat) (s : State) : (setTestPower b w s).pins = s.pins := rfl
@[simp] theorem setTestPower_trays (b : BbuId) (w : Nat) (s : State) : (setTestPower b w s).trays = s.trays := rfl
@[simp] theorem setTestPower_mbc (b : BbuId) (w : Nat) (s : State) : (setTestPower b w s).mbc = s.mbc := rfl
@[simp] theorem setTestPower_rects (b : BbuId) (w : Nat) (s : State) : (setTestPower b w s).rects = s.rects := rfl
@[simp] theorem setTestPower_budget (b : BbuId) (w : Nat) (s : State) : (setTestPower b w s).budget = s.budget := rfl
@[simp] theorem setTestPower_ilc (b : BbuId) (w : Nat) (s : State) : (setTestPower b w s).ilc = s.ilc := rfl
@[simp] theorem setTestPower_run (b : BbuId) (w : Nat) (s : State) : (setTestPower b w s).run = s.run := rfl
@[simp] theorem setTestPower_channels (b : BbuId) (w : Nat) (s : State) : (setTestPower b w s).channels = s.channels := rfl
@[simp] theorem setTestPower_loops (b : BbuId) (w : Nat) (s : State) : (setTestPower b w s).loops = s.loops := rfl
@[simp] theorem setTestPower_stagedScan (b : BbuId) (w : Nat) (s : State) : (setTestPower b w s).stagedScan = s.stagedScan := rfl
@[simp] theorem setTestPower_nextScan (b : BbuId) (w : Nat) (s : State) : (setTestPower b w s).nextScan = s.nextScan := rfl
@[simp] theorem setTestPower_test (b : BbuId) (w : Nat) (s : State) : (setTestPower b w s).test = s.test := rfl
@[simp] theorem setTestPower_hli (b : BbuId) (w : Nat) (s : State) : (setTestPower b w s).hli = s.hli := rfl
@[simp] theorem setTestPower_notices (b : BbuId) (w : Nat) (s : State) : (setTestPower b w s).notices = s.notices := rfl
@[simp] theorem setTestPower_store (b : BbuId) (w : Nat) (s : State) : (setTestPower b w s).store = s.store := rfl
@[simp] theorem setTestPower_params (b : BbuId) (w : Nat) (s : State) : (setTestPower b w s).params = s.params := rfl
@[simp] theorem setTestPower_held (b : BbuId) (w : Nat) (s : State) : (setTestPower b w s).held = s.held := rfl
@[simp] theorem setTestPower_freeCount (b : BbuId) (w : Nat) (s : State) : (setTestPower b w s).freeCount = s.freeCount := rfl
@[simp] theorem setTestPower_pending (b : BbuId) (w : Nat) (s : State) : (setTestPower b w s).pending = s.pending := rfl

/-! ### putRect -/

@[simp] theorem putRect_time (r : RectId) (x : RectSlot) (s : State) : (putRect r x s).time = s.time := rfl
@[simp] theorem putRect_pins (r : RectId) (x : RectSlot) (s : State) : (putRect r x s).pins = s.pins := rfl
@[simp] theorem putRect_trays (r : RectId) (x : RectSlot) (s : State) : (putRect r x s).trays = s.trays := rfl
@[simp] theorem putRect_mbc (r : RectId) (x : RectSlot) (s : State) : (putRect r x s).mbc = s.mbc := rfl
@[simp] theorem putRect_bbus (r : RectId) (x : RectSlot) (s : State) : (putRect r x s).bbus = s.bbus := rfl
@[simp] theorem putRect_budget (r : RectId) (x : RectSlot) (s : State) : (putRect r x s).budget = s.budget := rfl
@[simp] theorem putRect_ilc (r : RectId) (x : RectSlot) (s : State) : (putRect r x s).ilc = s.ilc := rfl
@[simp] theorem putRect_run (r : RectId) (x : RectSlot) (s : State) : (putRect r x s).run = s.run := rfl
@[simp] theorem putRect_channels (r : RectId) (x : RectSlot) (s : State) : (putRect r x s).channels = s.channels := rfl
@[simp] theorem putRect_loops (r : RectId) (x : RectSlot) (s : State) : (putRect r x s).loops = s.loops := rfl
@[simp] theorem putRect_stagedScan (r : RectId) (x : RectSlot) (s : State) : (putRect r x s).stagedScan = s.stagedScan := rfl
@[simp] theorem putRect_nextScan (r : RectId) (x : RectSlot) (s : State) : (putRect r x s).nextScan = s.nextScan := rfl
@[simp] theorem putRect_test (r : RectId) (x : RectSlot) (s : State) : (putRect r x s).test = s.test := rfl
@[simp] theorem putRect_hli (r : RectId) (x : RectSlot) (s : State) : (putRect r x s).hli = s.hli := rfl
@[simp] theorem putRect_notices (r : RectId) (x : RectSlot) (s : State) : (putRect r x s).notices = s.notices := rfl
@[simp] theorem putRect_store (r : RectId) (x : RectSlot) (s : State) : (putRect r x s).store = s.store := rfl
@[simp] theorem putRect_params (r : RectId) (x : RectSlot) (s : State) : (putRect r x s).params = s.params := rfl
@[simp] theorem putRect_held (r : RectId) (x : RectSlot) (s : State) : (putRect r x s).held = s.held := rfl
@[simp] theorem putRect_freeCount (r : RectId) (x : RectSlot) (s : State) : (putRect r x s).freeCount = s.freeCount := rfl
@[simp] theorem putRect_pending (r : RectId) (x : RectSlot) (s : State) : (putRect r x s).pending = s.pending := rfl
@[simp] theorem putRect_rects (r : RectId) (x : RectSlot) (s : State) :
    (putRect r x s).rects = s.rects.set r x := rfl

/-! ### putChannel -/

@[simp] theorem putChannel_time (c : ChannelId) (x : Channel) (s : State) : (putChannel c x s).time = s.time := rfl
@[simp] theorem putChannel_pins (c : ChannelId) (x : Channel) (s : State) : (putChannel c x s).pins = s.pins := rfl
@[simp] theorem putChannel_trays (c : ChannelId) (x : Channel) (s : State) : (putChannel c x s).trays = s.trays := rfl
@[simp] theorem putChannel_mbc (c : ChannelId) (x : Channel) (s : State) : (putChannel c x s).mbc = s.mbc := rfl
@[simp] theorem putChannel_rects (c : ChannelId) (x : Channel) (s : State) : (putChannel c x s).rects = s.rects := rfl
@[simp] theorem putChannel_bbus (c : ChannelId) (x : Channel) (s : State) : (putChannel c x s).bbus = s.bbus := rfl
@[simp] theorem putChannel_budget (c : ChannelId) (x : Channel) (s : State) : (putChannel c x s).budget = s.budget := rfl
@[simp] theorem putChannel_ilc (c : ChannelId) (x : Channel) (s : State) : (putChannel c x s).ilc = s.ilc := rfl
@[simp] theorem putChannel_run (c : ChannelId) (x : Channel) (s : State) : (putChannel c x s).run = s.run := rfl
@[simp] theorem putChannel_loops (c : ChannelId) (x : Channel) (s : State) : (putChannel c x s).loops = s.loops := rfl
@[simp] theorem putChannel_stagedScan (c : ChannelId) (x : Channel) (s : State) : (putChannel c x s).stagedScan = s.stagedScan := rfl
@[simp] theorem putChannel_nextScan (c : ChannelId) (x : Channel) (s : State) : (putChannel c x s).nextScan = s.nextScan := rfl
@[simp] theorem putChannel_test (c : ChannelId) (x : Channel) (s : State) : (putChannel c x s).test = s.test := rfl
@[simp] theorem putChannel_hli (c : ChannelId) (x : Channel) (s : State) : (putChannel c x s).hli = s.hli := rfl
@[simp] theorem putChannel_notices (c : ChannelId) (x : Channel) (s : State) : (putChannel c x s).notices = s.notices := rfl
@[simp] theorem putChannel_store (c : ChannelId) (x : Channel) (s : State) : (putChannel c x s).store = s.store := rfl
@[simp] theorem putChannel_params (c : ChannelId) (x : Channel) (s : State) : (putChannel c x s).params = s.params := rfl
@[simp] theorem putChannel_held (c : ChannelId) (x : Channel) (s : State) : (putChannel c x s).held = s.held := rfl
@[simp] theorem putChannel_freeCount (c : ChannelId) (x : Channel) (s : State) : (putChannel c x s).freeCount = s.freeCount := rfl
@[simp] theorem putChannel_pending (c : ChannelId) (x : Channel) (s : State) : (putChannel c x s).pending = s.pending := rfl
@[simp] theorem putChannel_channels (c : ChannelId) (x : Channel) (s : State) :
    (putChannel c x s).channels = s.channels.set c x := rfl

/-! ### putLoop -/

@[simp] theorem putLoop_time (l : LoopId) (x : Loop) (s : State) : (putLoop l x s).time = s.time := rfl
@[simp] theorem putLoop_pins (l : LoopId) (x : Loop) (s : State) : (putLoop l x s).pins = s.pins := rfl
@[simp] theorem putLoop_trays (l : LoopId) (x : Loop) (s : State) : (putLoop l x s).trays = s.trays := rfl
@[simp] theorem putLoop_mbc (l : LoopId) (x : Loop) (s : State) : (putLoop l x s).mbc = s.mbc := rfl
@[simp] theorem putLoop_rects (l : LoopId) (x : Loop) (s : State) : (putLoop l x s).rects = s.rects := rfl
@[simp] theorem putLoop_bbus (l : LoopId) (x : Loop) (s : State) : (putLoop l x s).bbus = s.bbus := rfl
@[simp] theorem putLoop_budget (l : LoopId) (x : Loop) (s : State) : (putLoop l x s).budget = s.budget := rfl
@[simp] theorem putLoop_ilc (l : LoopId) (x : Loop) (s : State) : (putLoop l x s).ilc = s.ilc := rfl
@[simp] theorem putLoop_run (l : LoopId) (x : Loop) (s : State) : (putLoop l x s).run = s.run := rfl
@[simp] theorem putLoop_channels (l : LoopId) (x : Loop) (s : State) : (putLoop l x s).channels = s.channels := rfl
@[simp] theorem putLoop_stagedScan (l : LoopId) (x : Loop) (s : State) : (putLoop l x s).stagedScan = s.stagedScan := rfl
@[simp] theorem putLoop_nextScan (l : LoopId) (x : Loop) (s : State) : (putLoop l x s).nextScan = s.nextScan := rfl
@[simp] theorem putLoop_test (l : LoopId) (x : Loop) (s : State) : (putLoop l x s).test = s.test := rfl
@[simp] theorem putLoop_hli (l : LoopId) (x : Loop) (s : State) : (putLoop l x s).hli = s.hli := rfl
@[simp] theorem putLoop_notices (l : LoopId) (x : Loop) (s : State) : (putLoop l x s).notices = s.notices := rfl
@[simp] theorem putLoop_store (l : LoopId) (x : Loop) (s : State) : (putLoop l x s).store = s.store := rfl
@[simp] theorem putLoop_params (l : LoopId) (x : Loop) (s : State) : (putLoop l x s).params = s.params := rfl
@[simp] theorem putLoop_held (l : LoopId) (x : Loop) (s : State) : (putLoop l x s).held = s.held := rfl
@[simp] theorem putLoop_freeCount (l : LoopId) (x : Loop) (s : State) : (putLoop l x s).freeCount = s.freeCount := rfl
@[simp] theorem putLoop_pending (l : LoopId) (x : Loop) (s : State) : (putLoop l x s).pending = s.pending := rfl
@[simp] theorem putLoop_loops (l : LoopId) (x : Loop) (s : State) :
    (putLoop l x s).loops = s.loops.set l x := rfl

/-! ### setParams -/

@[simp] theorem setParams_time (p : Params) (s : State) : (setParams p s).time = s.time := rfl
@[simp] theorem setParams_pins (p : Params) (s : State) : (setParams p s).pins = s.pins := rfl
@[simp] theorem setParams_trays (p : Params) (s : State) : (setParams p s).trays = s.trays := rfl
@[simp] theorem setParams_mbc (p : Params) (s : State) : (setParams p s).mbc = s.mbc := rfl
@[simp] theorem setParams_rects (p : Params) (s : State) : (setParams p s).rects = s.rects := rfl
@[simp] theorem setParams_bbus (p : Params) (s : State) : (setParams p s).bbus = s.bbus := rfl
@[simp] theorem setParams_budget (p : Params) (s : State) : (setParams p s).budget = s.budget := rfl
@[simp] theorem setParams_ilc (p : Params) (s : State) : (setParams p s).ilc = s.ilc := rfl
@[simp] theorem setParams_run (p : Params) (s : State) : (setParams p s).run = s.run := rfl
@[simp] theorem setParams_channels (p : Params) (s : State) : (setParams p s).channels = s.channels := rfl
@[simp] theorem setParams_loops (p : Params) (s : State) : (setParams p s).loops = s.loops := rfl
@[simp] theorem setParams_stagedScan (p : Params) (s : State) : (setParams p s).stagedScan = s.stagedScan := rfl
@[simp] theorem setParams_nextScan (p : Params) (s : State) : (setParams p s).nextScan = s.nextScan := rfl
@[simp] theorem setParams_test (p : Params) (s : State) : (setParams p s).test = s.test := rfl
@[simp] theorem setParams_hli (p : Params) (s : State) : (setParams p s).hli = s.hli := rfl
@[simp] theorem setParams_notices (p : Params) (s : State) : (setParams p s).notices = s.notices := rfl
@[simp] theorem setParams_store (p : Params) (s : State) : (setParams p s).store = s.store := rfl
@[simp] theorem setParams_held (p : Params) (s : State) : (setParams p s).held = s.held := rfl
@[simp] theorem setParams_freeCount (p : Params) (s : State) : (setParams p s).freeCount = s.freeCount := rfl
@[simp] theorem setParams_pending (p : Params) (s : State) : (setParams p s).pending = s.pending := rfl
@[simp] theorem setParams_params (p : Params) (s : State) :
    (setParams p s).params = p := rfl

/-! ### setDeficit -/

@[simp] theorem setDeficit_time (a u : Bool) (s : State) : (setDeficit a u s).time = s.time := rfl
@[simp] theorem setDeficit_pins (a u : Bool) (s : State) : (setDeficit a u s).pins = s.pins := rfl
@[simp] theorem setDeficit_trays (a u : Bool) (s : State) : (setDeficit a u s).trays = s.trays := rfl
@[simp] theorem setDeficit_mbc (a u : Bool) (s : State) : (setDeficit a u s).mbc = s.mbc := rfl
@[simp] theorem setDeficit_rects (a u : Bool) (s : State) : (setDeficit a u s).rects = s.rects := rfl
@[simp] theorem setDeficit_bbus (a u : Bool) (s : State) : (setDeficit a u s).bbus = s.bbus := rfl
@[simp] theorem setDeficit_ilc (a u : Bool) (s : State) : (setDeficit a u s).ilc = s.ilc := rfl
@[simp] theorem setDeficit_run (a u : Bool) (s : State) : (setDeficit a u s).run = s.run := rfl
@[simp] theorem setDeficit_channels (a u : Bool) (s : State) : (setDeficit a u s).channels = s.channels := rfl
@[simp] theorem setDeficit_loops (a u : Bool) (s : State) : (setDeficit a u s).loops = s.loops := rfl
@[simp] theorem setDeficit_stagedScan (a u : Bool) (s : State) : (setDeficit a u s).stagedScan = s.stagedScan := rfl
@[simp] theorem setDeficit_nextScan (a u : Bool) (s : State) : (setDeficit a u s).nextScan = s.nextScan := rfl
@[simp] theorem setDeficit_test (a u : Bool) (s : State) : (setDeficit a u s).test = s.test := rfl
@[simp] theorem setDeficit_hli (a u : Bool) (s : State) : (setDeficit a u s).hli = s.hli := rfl
@[simp] theorem setDeficit_notices (a u : Bool) (s : State) : (setDeficit a u s).notices = s.notices := rfl
@[simp] theorem setDeficit_store (a u : Bool) (s : State) : (setDeficit a u s).store = s.store := rfl
@[simp] theorem setDeficit_params (a u : Bool) (s : State) : (setDeficit a u s).params = s.params := rfl
@[simp] theorem setDeficit_held (a u : Bool) (s : State) : (setDeficit a u s).held = s.held := rfl
@[simp] theorem setDeficit_freeCount (a u : Bool) (s : State) : (setDeficit a u s).freeCount = s.freeCount := rfl
@[simp] theorem setDeficit_pending (a u : Bool) (s : State) : (setDeficit a u s).pending = s.pending := rfl
@[simp] theorem setDeficit_budget (a u : Bool) (s : State) :
    (setDeficit a u s).budget = { s.budget with deficitActive := a, deficitUnresolved := u } := rfl

/-! ### setLink -/

@[simp] theorem setLink_time (h : HostLink) (s : State) : (setLink h s).time = s.time := rfl
@[simp] theorem setLink_pins (h : HostLink) (s : State) : (setLink h s).pins = s.pins := rfl
@[simp] theorem setLink_trays (h : HostLink) (s : State) : (setLink h s).trays = s.trays := rfl
@[simp] theorem setLink_mbc (h : HostLink) (s : State) : (setLink h s).mbc = s.mbc := rfl
@[simp] theorem setLink_rects (h : HostLink) (s : State) : (setLink h s).rects = s.rects := rfl
@[simp] theorem setLink_bbus (h : HostLink) (s : State) : (setLink h s).bbus = s.bbus := rfl
@[simp] theorem setLink_budget (h : HostLink) (s : State) : (setLink h s).budget = s.budget := rfl
@[simp] theorem setLink_ilc (h : HostLink) (s : State) : (setLink h s).ilc = s.ilc := rfl
@[simp] theorem setLink_run (h : HostLink) (s : State) : (setLink h s).run = s.run := rfl
@[simp] theorem setLink_channels (h : HostLink) (s : State) : (setLink h s).channels = s.channels := rfl
@[simp] theorem setLink_loops (h : HostLink) (s : State) : (setLink h s).loops = s.loops := rfl
@[simp] theorem setLink_stagedScan (h : HostLink) (s : State) : (setLink h s).stagedScan = s.stagedScan := rfl
@[simp] theorem setLink_nextScan (h : HostLink) (s : State) : (setLink h s).nextScan = s.nextScan := rfl
@[simp] theorem setLink_test (h : HostLink) (s : State) : (setLink h s).test = s.test := rfl
@[simp] theorem setLink_notices (h : HostLink) (s : State) : (setLink h s).notices = s.notices := rfl
@[simp] theorem setLink_store (h : HostLink) (s : State) : (setLink h s).store = s.store := rfl
@[simp] theorem setLink_params (h : HostLink) (s : State) : (setLink h s).params = s.params := rfl
@[simp] theorem setLink_held (h : HostLink) (s : State) : (setLink h s).held = s.held := rfl
@[simp] theorem setLink_freeCount (h : HostLink) (s : State) : (setLink h s).freeCount = s.freeCount := rfl
@[simp] theorem setLink_pending (h : HostLink) (s : State) : (setLink h s).pending = s.pending := rfl
@[simp] theorem setLink_hli (h : HostLink) (s : State) :
    (setLink h s).hli = h := rfl

/-! ### recomputeFloor -/

@[simp] theorem recomputeFloor_time (s : State) : (recomputeFloor s).time = s.time := rfl
@[simp] theorem recomputeFloor_pins (s : State) : (recomputeFloor s).pins = s.pins := rfl
@[simp] theorem recomputeFloor_trays (s : State) : (recomputeFloor s).trays = s.trays := rfl
@[simp] theorem recomputeFloor_mbc (s : State) : (recomputeFloor s).mbc = s.mbc := rfl
@[simp] theorem recomputeFloor_rects (s : State) : (recomputeFloor s).rects = s.rects := rfl
@[simp] theorem recomputeFloor_bbus (s : State) : (recomputeFloor s).bbus = s.bbus := rfl
@[simp] theorem recomputeFloor_ilc (s : State) : (recomputeFloor s).ilc = s.ilc := rfl
@[simp] theorem recomputeFloor_run (s : State) : (recomputeFloor s).run = s.run := rfl
@[simp] theorem recomputeFloor_channels (s : State) : (recomputeFloor s).channels = s.channels := rfl
@[simp] theorem recomputeFloor_loops (s : State) : (recomputeFloor s).loops = s.loops := rfl
@[simp] theorem recomputeFloor_stagedScan (s : State) : (recomputeFloor s).stagedScan = s.stagedScan := rfl
@[simp] theorem recomputeFloor_nextScan (s : State) : (recomputeFloor s).nextScan = s.nextScan := rfl
@[simp] theorem recomputeFloor_test (s : State) : (recomputeFloor s).test = s.test := rfl
@[simp] theorem recomputeFloor_hli (s : State) : (recomputeFloor s).hli = s.hli := rfl
@[simp] theorem recomputeFloor_notices (s : State) : (recomputeFloor s).notices = s.notices := rfl
@[simp] theorem recomputeFloor_store (s : State) : (recomputeFloor s).store = s.store := rfl
@[simp] theorem recomputeFloor_params (s : State) : (recomputeFloor s).params = s.params := rfl
@[simp] theorem recomputeFloor_held (s : State) : (recomputeFloor s).held = s.held := rfl
@[simp] theorem recomputeFloor_freeCount (s : State) : (recomputeFloor s).freeCount = s.freeCount := rfl
@[simp] theorem recomputeFloor_pending (s : State) : (recomputeFloor s).pending = s.pending := rfl
@[simp] theorem recomputeFloor_budget (s : State) :
    (recomputeFloor s).budget = { s.budget with floorEff := floorEffNow s } := rfl

/-! ### recomputeGrants -/

@[simp] theorem recomputeGrants_time (s : State) : (recomputeGrants s).time = s.time := rfl
@[simp] theorem recomputeGrants_pins (s : State) : (recomputeGrants s).pins = s.pins := rfl
@[simp] theorem recomputeGrants_trays (s : State) : (recomputeGrants s).trays = s.trays := rfl
@[simp] theorem recomputeGrants_mbc (s : State) : (recomputeGrants s).mbc = s.mbc := rfl
@[simp] theorem recomputeGrants_rects (s : State) : (recomputeGrants s).rects = s.rects := rfl
@[simp] theorem recomputeGrants_budget (s : State) : (recomputeGrants s).budget = s.budget := rfl
@[simp] theorem recomputeGrants_ilc (s : State) : (recomputeGrants s).ilc = s.ilc := rfl
@[simp] theorem recomputeGrants_run (s : State) : (recomputeGrants s).run = s.run := rfl
@[simp] theorem recomputeGrants_channels (s : State) : (recomputeGrants s).channels = s.channels := rfl
@[simp] theorem recomputeGrants_loops (s : State) : (recomputeGrants s).loops = s.loops := rfl
@[simp] theorem recomputeGrants_stagedScan (s : State) : (recomputeGrants s).stagedScan = s.stagedScan := rfl
@[simp] theorem recomputeGrants_nextScan (s : State) : (recomputeGrants s).nextScan = s.nextScan := rfl
@[simp] theorem recomputeGrants_test (s : State) : (recomputeGrants s).test = s.test := rfl
@[simp] theorem recomputeGrants_hli (s : State) : (recomputeGrants s).hli = s.hli := rfl
@[simp] theorem recomputeGrants_notices (s : State) : (recomputeGrants s).notices = s.notices := rfl
@[simp] theorem recomputeGrants_store (s : State) : (recomputeGrants s).store = s.store := rfl
@[simp] theorem recomputeGrants_params (s : State) : (recomputeGrants s).params = s.params := rfl
@[simp] theorem recomputeGrants_held (s : State) : (recomputeGrants s).held = s.held := rfl
@[simp] theorem recomputeGrants_freeCount (s : State) : (recomputeGrants s).freeCount = s.freeCount := rfl
@[simp] theorem recomputeGrants_pending (s : State) : (recomputeGrants s).pending = s.pending := rfl

/-! ### restartSilence -/

@[simp] theorem restartSilence_time (s : State) : (restartSilence s).time = s.time := rfl
@[simp] theorem restartSilence_pins (s : State) : (restartSilence s).pins = s.pins := rfl
@[simp] theorem restartSilence_trays (s : State) : (restartSilence s).trays = s.trays := rfl
@[simp] theorem restartSilence_mbc (s : State) : (restartSilence s).mbc = s.mbc := rfl
@[simp] theorem restartSilence_rects (s : State) : (restartSilence s).rects = s.rects := rfl
@[simp] theorem restartSilence_bbus (s : State) : (restartSilence s).bbus = s.bbus := rfl
@[simp] theorem restartSilence_budget (s : State) : (restartSilence s).budget = s.budget := rfl
@[simp] theorem restartSilence_ilc (s : State) : (restartSilence s).ilc = s.ilc := rfl
@[simp] theorem restartSilence_run (s : State) : (restartSilence s).run = s.run := rfl
@[simp] theorem restartSilence_channels (s : State) : (restartSilence s).channels = s.channels := rfl
@[simp] theorem restartSilence_loops (s : State) : (restartSilence s).loops = s.loops := rfl
@[simp] theorem restartSilence_stagedScan (s : State) : (restartSilence s).stagedScan = s.stagedScan := rfl
@[simp] theorem restartSilence_nextScan (s : State) : (restartSilence s).nextScan = s.nextScan := rfl
@[simp] theorem restartSilence_test (s : State) : (restartSilence s).test = s.test := rfl
@[simp] theorem restartSilence_notices (s : State) : (restartSilence s).notices = s.notices := rfl
@[simp] theorem restartSilence_store (s : State) : (restartSilence s).store = s.store := rfl
@[simp] theorem restartSilence_params (s : State) : (restartSilence s).params = s.params := rfl
@[simp] theorem restartSilence_held (s : State) : (restartSilence s).held = s.held := rfl
@[simp] theorem restartSilence_freeCount (s : State) : (restartSilence s).freeCount = s.freeCount := rfl
@[simp] theorem restartSilence_pending (s : State) : (restartSilence s).pending = s.pending := rfl

/-! ### clearShed -/

@[simp] theorem clearShed_time (s : State) : (clearShed s).time = s.time := by unfold clearShed; rfl
@[simp] theorem clearShed_pins (s : State) : (clearShed s).pins = s.pins := by unfold clearShed; rfl
@[simp] theorem clearShed_mbc (s : State) : (clearShed s).mbc = s.mbc := by unfold clearShed; rfl
@[simp] theorem clearShed_rects (s : State) : (clearShed s).rects = s.rects := by unfold clearShed; rfl
@[simp] theorem clearShed_bbus (s : State) : (clearShed s).bbus = s.bbus := by unfold clearShed; rfl
@[simp] theorem clearShed_budget (s : State) : (clearShed s).budget = s.budget := by unfold clearShed; rfl
@[simp] theorem clearShed_ilc (s : State) : (clearShed s).ilc = s.ilc := by unfold clearShed; rfl
@[simp] theorem clearShed_run (s : State) : (clearShed s).run = s.run := by unfold clearShed; rfl
@[simp] theorem clearShed_channels (s : State) : (clearShed s).channels = s.channels := by unfold clearShed; rfl
@[simp] theorem clearShed_loops (s : State) : (clearShed s).loops = s.loops := by unfold clearShed; rfl
@[simp] theorem clearShed_stagedScan (s : State) : (clearShed s).stagedScan = s.stagedScan := by unfold clearShed; rfl
@[simp] theorem clearShed_nextScan (s : State) : (clearShed s).nextScan = s.nextScan := by unfold clearShed; rfl
@[simp] theorem clearShed_test (s : State) : (clearShed s).test = s.test := by unfold clearShed; rfl
@[simp] theorem clearShed_hli (s : State) : (clearShed s).hli = s.hli := by unfold clearShed; rfl
@[simp] theorem clearShed_notices (s : State) : (clearShed s).notices = s.notices := by unfold clearShed; rfl
@[simp] theorem clearShed_store (s : State) : (clearShed s).store = s.store := by unfold clearShed; rfl
@[simp] theorem clearShed_params (s : State) : (clearShed s).params = s.params := by unfold clearShed; rfl
@[simp] theorem clearShed_held (s : State) : (clearShed s).held = s.held := by unfold clearShed; rfl
@[simp] theorem clearShed_freeCount (s : State) : (clearShed s).freeCount = s.freeCount := by unfold clearShed; rfl
@[simp] theorem clearShed_pending (s : State) : (clearShed s).pending = s.pending := by unfold clearShed; rfl

/-! ### post -/

@[simp] theorem post_time (k : NoticeKind) (x v : Option Nat) (s : State) : (post k x v s).time = s.time := by unfold post; split <;> rfl
@[simp] theorem post_pins (k : NoticeKind) (x v : Option Nat) (s : State) : (post k x v s).pins = s.pins := by unfold post; split <;> rfl
@[simp] theorem post_trays (k : NoticeKind) (x v : Option Nat) (s : State) : (post k x v s).trays = s.trays := by unfold post; split <;> rfl
@[simp] theorem post_mbc (k : NoticeKind) (x v : Option Nat) (s : State) : (post k x v s).mbc = s.mbc := by unfold post; split <;> rfl
@[simp] theorem post_rects (k : NoticeKind) (x v : Option Nat) (s : State) : (post k x v s).rects = s.rects := by unfold post; split <;> rfl
@[simp] theorem post_bbus (k : NoticeKind) (x v : Option Nat) (s : State) : (post k x v s).bbus = s.bbus := by unfold post; split <;> rfl
@[simp] theorem post_budget (k : NoticeKind) (x v : Option Nat) (s : State) : (post k x v s).budget = s.budget := by unfold post; split <;> rfl
@[simp] theorem post_ilc (k : NoticeKind) (x v : Option Nat) (s : State) : (post k x v s).ilc = s.ilc := by unfold post; split <;> rfl
@[simp] theorem post_run (k : NoticeKind) (x v : Option Nat) (s : State) : (post k x v s).run = s.run := by unfold post; split <;> rfl
@[simp] theorem post_channels (k : NoticeKind) (x v : Option Nat) (s : State) : (post k x v s).channels = s.channels := by unfold post; split <;> rfl
@[simp] theorem post_loops (k : NoticeKind) (x v : Option Nat) (s : State) : (post k x v s).loops = s.loops := by unfold post; split <;> rfl
@[simp] theorem post_stagedScan (k : NoticeKind) (x v : Option Nat) (s : State) : (post k x v s).stagedScan = s.stagedScan := by unfold post; split <;> rfl
@[simp] theorem post_nextScan (k : NoticeKind) (x v : Option Nat) (s : State) : (post k x v s).nextScan = s.nextScan := by unfold post; split <;> rfl
@[simp] theorem post_test (k : NoticeKind) (x v : Option Nat) (s : State) : (post k x v s).test = s.test := by unfold post; split <;> rfl
@[simp] theorem post_hli (k : NoticeKind) (x v : Option Nat) (s : State) : (post k x v s).hli = s.hli := by unfold post; split <;> rfl
@[simp] theorem post_store (k : NoticeKind) (x v : Option Nat) (s : State) : (post k x v s).store = s.store := by unfold post; split <;> rfl
@[simp] theorem post_params (k : NoticeKind) (x v : Option Nat) (s : State) : (post k x v s).params = s.params := by unfold post; split <;> rfl
@[simp] theorem post_held (k : NoticeKind) (x v : Option Nat) (s : State) : (post k x v s).held = s.held := by unfold post; split <;> rfl
@[simp] theorem post_freeCount (k : NoticeKind) (x v : Option Nat) (s : State) : (post k x v s).freeCount = s.freeCount := by unfold post; split <;> rfl
@[simp] theorem post_pending (k : NoticeKind) (x v : Option Nat) (s : State) : (post k x v s).pending = s.pending := by unfold post; split <;> rfl

end Sys2Proof.Machine
end

