-- ==== Sys2Proof/Laws/Frames.lean ====
section
/-! SUPPORT. What the shared operations over trays, budget and runs leave alone: one `TraySideOnly` lemma each, and the
room of the notice queue that a post keeps. -/
namespace Sys2Proof.Machine

/-! ### Vectors by index -/

/-- A record stored in a vector is read back at its index and nowhere else. -/
theorem vector_set_get {α : Type} {n : Nat} (v : Vector α n) (i j : Fin n) (x : α) :
    (v.set i x)[j] = if i = j then x else v[j] := by
  simp only [Fin.getElem_fin, Vector.getElem_set, Fin.ext_iff]

theorem putTray_get (i j : TrayId) (t : Tray) (s : State) :
    (putTray i t s).trays[j] = if i = j then t else s.trays[j] := vector_set_get _ _ _ _

theorem putBbu_get (b c : BbuId) (u : Bbu) (s : State) :
    (putBbu b u s).bbus[c] = if b = c then u else s.bbus[c] := vector_set_get _ _ _ _

theorem putRect_get (r q : RectId) (x : RectSlot) (s : State) :
    (putRect r x s).rects[q] = if r = q then x else s.rects[q] := vector_set_get _ _ _ _

theorem putChannel_get (c d : ChannelId) (x : Channel) (s : State) :
    (putChannel c x s).channels[d] = if c = d then x else s.channels[d] := vector_set_get _ _ _ _

theorem putLoop_get (l m : LoopId) (x : Loop) (s : State) :
    (putLoop l x s).loops[m] = if l = m then x else s.loops[m] := vector_set_get _ _ _ _

theorem putSlot_get (k j : SlotId) (x : ModuleSlot) (s : State) :
    (putSlot k x s).mbc.slots[j] = if k = j then x else s.mbc.slots[j] := vector_set_get _ _ _ _

/-- A recomputation of the grants writes the grant of every BBU and nothing else (R84, R85). -/
theorem recomputeGrants_get (b : BbuId) (s : State) :
    (recomputeGrants s).bbus[b] =
      { s.bbus[b] with grant := grantFor s.bbus b (grantOrder s) s.grantAvail } := by
  simp [recomputeGrants, Fin.getElem_fin]

theorem clearShed_get (i : TrayId) (s : State) : (clearShed s).trays[i] = freeShed s.trays[i] := by
  simp [clearShed, Fin.getElem_fin]

/-! ### Tray side only -/

theorem TraySideOnly.refl (s : State) : TraySideOnly s s := by constructor <;> simp

theorem TraySideOnly.trans {s t u : State} (h : TraySideOnly s t) (k : TraySideOnly t u) : TraySideOnly s u where
  time := k.time.trans h.time
  pins := k.pins.trans h.pins
  mbc := k.mbc.trans h.mbc
  rects := k.rects.trans h.rects
  bbus := fun b => (k.bbus b).trans (h.bbus b)
  capacity := k.capacity.trans h.capacity
  floorEff := k.floorEff.trans h.floorEff
  ilc := k.ilc.trans h.ilc
  channels := k.channels.trans h.channels
  loops := k.loops.trans h.loops
  stagedScan := k.stagedScan.trans h.stagedScan
  nextScan := k.nextScan.trans h.nextScan
  test := k.test.trans h.test
  hli := k.hli.trans h.hli
  store := k.store.trans h.store
  params := k.params.trans h.params
  held := k.held.trans h.held
  freeCount := k.freeCount.trans h.freeCount
  pending := k.pending.trans h.pending

theorem post_side (k : NoticeKind) (x v : Option Nat) (s : State) : TraySideOnly s (post k x v s) := by
  constructor <;> simp

theorem putTray_side (i : TrayId) (t : Tray) (s : State) : TraySideOnly s (putTray i t s) := by
  constructor <;> simp

theorem setDeficit_side (a u : Bool) (s : State) : TraySideOnly s (setDeficit a u s) := by
  constructor <;> simp

theorem recomputeGrants_side (s : State) : TraySideOnly s (recomputeGrants s) := by
  constructor
  case bbus => intro b; rw [recomputeGrants_get]
  all_goals simp

/-- A change of the run record alone. -/
theorem run_side (s : State) (r : RunRecord) : TraySideOnly s { s with run := r } := by constructor <;> simp

/-- An operation repeated over a list leaves alone what it leaves alone once. -/
theorem foldl_side {α : Type} (f : State → α → State) (hf : ∀ s a, TraySideOnly s (f s a)) (l : List α)
    (s : State) : TraySideOnly s (l.foldl f s) := by
  induction l generalizing s with
  | nil => exact .refl s
  | cons a l ih => exact (hf s a).trans (ih (f s a))

theorem putTrays_side (l : List TrayId) (f : Tray → Tray) (s : State) : TraySideOnly s (putTrays l f s) :=
  foldl_side _ (fun s i => putTray_side i (f s.trays[i]) s) l s

theorem reachOn_side (i : TrayId) (s : State) : TraySideOnly s (reachOn i s) := by
  unfold reachOn
  exact TraySideOnly.trans (putTray_side _ _ _) (post_side _ _ _ _)

theorem failTray_side (i : TrayId) (c : FailureCause) (s : State) : TraySideOnly s (failTray i c s) := by
  unfold failTray
  dsimp only
  split
  · exact putTray_side _ _ _
  · exact (putTray_side _ _ _).trans (post_side _ _ _ _)

theorem trayPgRise_side (i : TrayId) (s : State) : TraySideOnly s (trayPgRise i s) := by
  unfold trayPgRise
  dsimp only
  repeat' split
  all_goals first
    | exact .refl s
    | exact post_side _ _ _ _
    | exact reachOn_side _ _
    | exact putTray_side _ _ _

theorem trayPgFall_side (i : TrayId) (s : State) : TraySideOnly s (trayPgFall i s) := by
  unfold trayPgFall
  dsimp only
  repeat' split
  all_goals first
    | exact .refl s
    | exact failTray_side _ _ _
    | exact putTray_side _ _ _

/-! ### The budget -/

theorem deficitShed_side (l : List TrayId) (s : State) : TraySideOnly s (deficitShed l s) := by
  induction l generalizing s with
  | nil => exact .refl s
  | cons i l ih =>
    unfold deficitShed
    split
    · exact .refl s
    · exact ((putTray_side _ _ _).trans (post_side _ _ _ _)).trans (ih _)

theorem deficitStart_side (s : State) : TraySideOnly s (deficitStart s) := by
  unfold deficitStart
  split
  · exact .refl s
  · exact (setDeficit_side _ _ _).trans (post_side _ _ _ _)

theorem deficitFinish_side (s : State) : TraySideOnly s (deficitFinish s) := by
  unfold deficitFinish
  repeat' split
  · exact setDeficit_side _ _ _
  · exact .refl s
  · exact (setDeficit_side _ _ _).trans (post_side _ _ _ _)

/-- Everything a deficit evaluation can change is on the tray side (R86 to R88). -/
theorem evalDeficit_side (s : State) : TraySideOnly s (evalDeficit s) := by
  unfold evalDeficit
  dsimp only
  repeat' split
  · exact .refl s
  · exact setDeficit_side _ _ _
  · exact (((deficitStart_side s).trans (deficitShed_side _ _)).trans (deficitFinish_side _)).trans
      (recomputeGrants_side _)

theorem afterBudget_side (s0 s : State) : TraySideOnly s (afterBudget s0 s) := by
  unfold afterBudget
  dsimp only
  have h : TraySideOnly s (if s.kT = s0.kT then s else recomputeGrants s) := by
    split
    · exact .refl s
    · exact recomputeGrants_side s
  split
  · exact h
  · exact h.trans (evalDeficit_side _)

/-! ### Runs -/

theorem testUpDone_side (s : State) : TraySideOnly s (testUpDone s) := by
  unfold testUpDone
  dsimp only
  split
  · exact (post_side _ _ _ _).trans (run_side _ _)
  · exact .refl s

theorem testDownDone_side (s : State) : TraySideOnly s (testDownDone s) := by
  unfold testDownDone
  dsimp only
  split
  · exact (post_side _ _ _ _).trans (run_side _ _)
  · exact .refl s

theorem entryPg_side (h : TrayId) (s : State) : TraySideOnly s (entryPg h s) := by
  unfold entryPg
  split
  · exact (trayPgRise_side _ _).trans (afterBudget_side _ _)
  · exact .refl s

theorem startTray_side (h : TrayId) (s : State) : TraySideOnly s (startTray h s) := by
  unfold startTray
  dsimp only
  refine TraySideOnly.trans ?_ (entryPg_side _ _)
  refine TraySideOnly.trans ?_ (afterBudget_side _ _)
  exact TraySideOnly.trans (run_side s _) (putTray_side _ _ _)

theorem startLoop_side (n : Nat) (s : State) : TraySideOnly s (startLoop n s) := by
  induction n generalizing s with
  | zero => exact .refl s
  | succ n ih =>
    unfold startLoop
    repeat' split
    · exact run_side _ _
    · exact .refl s
    · exact run_side _ _
    · exact (startTray_side _ _).trans (ih _)

/-- Everything an evaluation of the start rule can change is on the tray side (R111 to R114). -/
theorem evalStart_side (s : State) : TraySideOnly s (evalStart s) := by
  unfold evalStart
  split
  · exact (startLoop_side _ _).trans (testUpDone_side _)
  · exact .refl s

theorem tell_side (s : State) : TraySideOnly s (tell s) := by
  unfold tell
  exact evalStart_side s

theorem stopHead_side (h : TrayId) (s : State) : TraySideOnly s (stopHead h s) := by
  unfold stopHead
  dsimp only
  refine TraySideOnly.trans ?_ (run_side _ _)
  exact TraySideOnly.trans (putTray_side _ _ _) (afterBudget_side _ _)

theorem stopLoop_side (n : Nat) (s : State) : TraySideOnly s (stopLoop n s) := by
  induction n generalizing s with
  | zero => exact .refl s
  | succ n ih =>
    unfold stopLoop
    repeat' split
    · exact .refl s
    · exact .refl s
    · exact (stopHead_side _ _).trans (ih _)

theorem evalStop_side (s : State) : TraySideOnly s (evalStop s) := by
  unfold evalStop
  split
  · exact (stopLoop_side _ _).trans (testDownDone_side _)
  · exact .refl s

theorem seqAfter_side (s0 s : State) : TraySideOnly s (seqAfter s0 s) := by
  unfold seqAfter
  repeat' split
  · exact testDownDone_side s
  · exact (evalStart_side s).trans (testUpDone_side _)
  · exact testUpDone_side s

/-- Everything that can follow a change of trays is on the tray side (R75, R76, R82, R112, R114, R117). -/
theorem propagate_side (s0 s : State) : TraySideOnly s (propagate s0 s) := by
  unfold propagate
  exact (afterBudget_side s0 s).trans (seqAfter_side s0 _)

theorem joinQueue_side (i : TrayId) (s : State) : TraySideOnly s (joinQueue i s) := by
  unfold joinQueue
  dsimp only
  exact TraySideOnly.trans (putTray_side _ _ _) (run_side _ _)

theorem joinAll_side (l : List TrayId) (s : State) : TraySideOnly s (joinAll l s) :=
  foldl_side _ (fun s i => joinQueue_side i s) l s

theorem dissolveUp_side (s : State) : TraySideOnly s (dissolveUp s) := by
  unfold dissolveUp
  dsimp only
  exact TraySideOnly.trans (putTrays_side _ _ _) (run_side _ _)

theorem shedSet_side (l : List TrayId) (s : State) : TraySideOnly s (shedSet l s) := by
  unfold shedSet
  exact TraySideOnly.trans (putTrays_side _ _ _) (propagate_side _ _)

theorem leakRecompute_side (s : State) : TraySideOnly s (leakRecompute s) := by
  unfold leakRecompute
  refine TraySideOnly.trans ?_ (propagate_side _ _)
  exact TraySideOnly.trans (putTrays_side _ _ _) (putTrays_side _ _ _)

theorem clearShed_side (s : State) : TraySideOnly s (clearShed s) := by constructor <;> simp

/-! ### Notices -/

/-- A post keeps the queue within its room (R170). -/
theorem post_noticeLaw (k : NoticeKind) (x v : Option Nat) (s : State) (h : NoticeLaw s) :
    NoticeLaw (post k x v s) := by
  obtain ⟨h1, h2⟩ := h
  unfold post
  split
  · rename_i hl
    refine ⟨?_, h2⟩
    simp only [List.length_append, List.length_singleton]
    simp only [Config.noticeRoom] at hl
    omega
  · refine ⟨h1, ?_⟩
    simp only [countUp]
    omega

end Sys2Proof.Machine
end

