-- ==== Sys2Proof/Laws/Requests.lean ====
section
/-! SUPPORT. What a poll leaves in the bus record, what a stored image is checked for, the scope of a run request as
its bytes give it, what a byte error does, the wait for a grant after service, and the order of the queues: one lemma each,
which a proof cites instead of unfolding the operation. -/
namespace Sys2Proof.Machine

/-! ### The module bus -/

/-- A poll that has been sent: driver released, framer hunting, window open (R30, R35). -/
theorem sendPoll_eq (k : SlotId) (s : State) :
    sendPoll k s =
      setBus
        { s.mbc with
          poll := some { slot := k, tag := s.mbc.tag, payload := pollPayload s k, inService := slotInService s k,
                         window := 3 }
          driver := false, framer := .hunt, tag := s.mbc.tag + 1 } s := rfl

/-- The next poll changes the bus record and nothing else. -/
theorem nextPoll_eq (s : State) : nextPoll s = setBus (nextPoll s).mbc s := by
  unfold nextPoll
  split
  · rfl
  · rw [sendPoll_eq]; rfl

theorem nextPoll_slots (s : State) : (nextPoll s).mbc.slots = s.mbc.slots := by
  unfold nextPoll
  split
  · rfl
  · rw [sendPoll_eq]; rfl

theorem nextPoll_framer (s : State) : (nextPoll s).mbc.framer = .hunt := by
  unfold nextPoll
  split
  · rfl
  · rw [sendPoll_eq]; rfl

/-- The next poll releases the driver again (R30). -/
theorem nextPoll_busLaw (s : State) (h : s.mbc.driver = false) : BusLaw (nextPoll s) := by
  refine ⟨?_, fun _ => nextPoll_framer s⟩
  unfold nextPoll
  split
  · exact h
  · rw [sendPoll_eq]; rfl

theorem startCycle_busLaw (s : State) (h : s.mbc.driver = false) : BusLaw (startCycle s) := nextPoll_busLaw _ h

/-! ### A stored image -/

/-- What an image is checked for (R176). -/
theorem imageGood_iff (i : StoredImage) :
    imageGood i = true ↔ i.format = imageFormat ∧ i.check = crc16 (imageBytes i.format i.config) := by
  simp [imageGood, imageCheck]

/-- An image this part has built passes its own check (R176, R177). -/
theorem imageGood_buildImage (w : WorkingConfig) : imageGood (buildImage w) = true := by
  simp [imageGood, buildImage]

/-- What was saved is what a cold reset takes (R176, R177, R181). -/
theorem bootConfig_buildImage (p : ProfileStore) (w : WorkingConfig) (h : p.image = some (buildImage w)) :
    bootConfig p = w := by
  unfold bootConfig
  rw [h]
  simp only [imageGood_buildImage, if_true]
  rfl

/-! ### The scope of a run request -/

/-- The parsed scope in the words of the statements (R182). -/
theorem parseScope_eq (bytes : List Byte) :
    parseScope bytes =
      match scopeFault bytes with
      | some code => .error code
      | none => .ok (scopeOf bytes) := by
  match bytes with
  | [] => rfl
  | k :: rest =>
    by_cases h0 : k = 0
    · subst h0
      cases rest <;> simp [parseScope, scopeFault, scopeOf]
    · by_cases h1 : k = 1
      · subst h1
        match rest with
        | [] => simp [parseScope, scopeFault]
        | [_] => simp [parseScope, scopeFault]
        | _ :: _ :: _ :: _ => simp [parseScope, scopeFault]
        | [lo, hi] =>
          by_cases ha : lo.toNat ≤ 15 ∧ hi.toNat ≤ 15
          · have : ¬ (15 < lo.toNat ∨ 15 < hi.toNat) := by omega
            simp [parseScope, scopeFault, scopeOf, ha, this]
          · have : 15 < lo.toNat ∨ 15 < hi.toNat := by omega
            simp [parseScope, scopeFault, ha, this]
      · by_cases h2 : k = 2
        · subst h2
          match rest with
          | [] => simp [parseScope, scopeFault]
          | n :: trays =>
            have hset : traySet (trays.map BitVec.toNat) =
                allTrays.filter fun i => trays.any fun b => b.toNat == i.val := by
              unfold traySet allTrays
              congr 1
              funext i
              rw [Bool.eq_iff_iff]
              simp [List.any_eq_true]
            have hall : (trays.all fun t => decide (t.toNat ≤ 23)) = true ↔ ¬ ∃ t ∈ trays, 23 < t.toNat := by
              simp
            by_cases ha : n.toNat ≤ 24 ∧ trays.length = n.toNat
            · have hb : ¬ (24 < n.toNat ∨ trays.length + 1 ≠ 1 + n.toNat) := by omega
              simp only [parseScope, scopeFault, scopeOf, hset, if_pos ha, hall]
              by_cases hc : ∃ t ∈ trays, 23 < t.toNat
              · simp [hc, hb]
              · simp [hc, hb]
            · have hb : 24 < n.toNat ∨ trays.length + 1 ≠ 1 + n.toNat := by omega
              simp only [parseScope, scopeFault, if_neg ha]
              simp [hb]
        · have : 2 < k.toNat := by
            have a : k.toNat ≠ 0 := fun e => h0 (BitVec.eq_of_toNat_eq e)
            have b : k.toNat ≠ 1 := fun e => h1 (BitVec.eq_of_toNat_eq e)
            have c : k.toNat ≠ 2 := fun e => h2 (BitVec.eq_of_toNat_eq e)
            omega
          simp only [parseScope, scopeFault, if_neg h0, if_neg h1, if_neg h2, if_pos this]

/-- A tray is in the scope exactly when its bytes select it (R108, R182). -/
theorem inScope_scopeOf (bytes : List Byte) (s : State) (i : TrayId) :
    inScope s.trays (scopeOf bytes) i = bytesSelect bytes s i := by
  unfold scopeOf bytesSelect
  split
  · rfl
  · rw [Bool.eq_iff_iff]
    simp [inScope, allTrays]
  · rfl

theorem Tray.eligible_eq_joins (t : Tray) : t.eligible = joins t := by
  obtain ⟨_, _, _, ⟨a, b, c⟩, _, _, _, _, _⟩ := t
  cases a <;> cases b <;> cases c <;> simp [Tray.eligible, joins, Lockouts.isEmpty, noLockouts]

theorem Tray.stoppable_eq_stops (t : Tray) : t.stoppable = stops t := rfl

/-! ### Byte errors and the wait after service -/

/-- Within a link break a byte error does nothing (R162). -/
theorem byteError_inBreak (s : State) (h : s.hli.inBreak = true) : byteError false s = s := by
  simp [byteError, h]

/-- A byte error of a line that has been at mark, or that no link break stands on, is taken as R161 says. -/
theorem byteError_counts (back : Bool) (s : State) (h : s.hli.inBreak = false ∨ back = true) :
    byteError back s = countByteError s := by
  rcases h with h | h <;> simp [byteError, h]

/-- A unit that awaits an arrival at which it is CHARGING takes no part in the grants (R49). -/
theorem grantEligible_awaitsCharging (s : State) (b : BbuId) (h : s.bbus[b].awaitsCharging = true) :
    grantEligible s b = false := by
  simp only [grantEligible, h, Bool.not_true, Bool.and_false, Bool.false_and]

/-- The end of an arrival's work reports the state, recomputes the grants, or does nothing (R49, R58, R59). -/
theorem reportArrival_cases (b : BbuId) (old : Bbu) (s : State) :
    reportArrival b old s = reportBbuState b s ∨ reportArrival b old s = recomputeGrants s ∨
      reportArrival b old s = s := by
  unfold reportArrival
  split
  · exact Or.inl rfl
  · split
    · exact Or.inr (Or.inl rfl)
    · exact Or.inr (Or.inr rfl)

/-! ### The order of the queues -/

/-- The order in which the start queue is built is the one the law speaks of (R109). -/
theorem startsBefore_iff (s : State) (a b : TrayId) : startsBefore s.trays a b = true ↔ StartsFirst s a b := by
  simp [startsBefore, StartsFirst]

/-- The order in which the stop queue is built is the one the law speaks of (R116). -/
theorem stopsBefore_iff (s : State) (a b : TrayId) : stopsBefore s.trays a b = true ↔ StopsFirst s a b := by
  simp only [stopsBefore, StopsFirst, Bool.or_eq_true, Bool.and_eq_true, decide_eq_true_eq, beq_iff_eq]
  exact or_congr Iff.rfl (and_congr ⟨Eq.symm, Eq.symm⟩ Iff.rfl)

end Sys2Proof.Machine
end

