-- ==== Sys2Proof/Tests/Slice0.lean ====
section
/-! SUPPORT. The model's own tests: the well-formedness check on ill-formed commands, the manual's worked header check,
a few commands on small states, and, for every statement with hypotheses, states and operands that meet them. -/
namespace Sys2Proof.Machine.Tests

set_option synthInstance.maxHeartbeats 200000
set_option synthInstance.maxSize 20000
-- The theorems are checked one after another: side by side they would need more memory than a check has.
set_option deprecated.oldSectionVars true
set_option maxRecDepth 10000

/-! ### Well-formedness refuses what no frame can carry -/

/-- Every one-byte field above 255, every four-byte field and every payload too long is refused. -/
theorem test_illFormed_linkAndStatus :
    (Instr.getLinkStatus 0 256).wellFormed = false ∧ (Instr.arm 0 256 0).wellFormed = false ∧
    (Instr.arm 0 0 256).wellFormed = false ∧ (Instr.takeNotices 0 256).wellFormed = false ∧
    (Instr.getShelfParam 0 256).wellFormed = false ∧ (Instr.setShelfParam 0 256 0).wellFormed = false ∧
    (Instr.setShelfParam 0 0 4294967296).wellFormed = false ∧ (Instr.getInputStatus 0 256).wellFormed = false := by
  decide

/-- The tray requests. -/
theorem test_illFormed_trays :
    (Instr.getTrays 0 256 0).wellFormed = false ∧ (Instr.getTrays 0 0 256).wellFormed = false ∧
    (Instr.getTrayConfig 0 256).wellFormed = false ∧
    (Instr.setTrayConfig 0 256 ⟨0, 0, 0, 0, 0, 0, 0, 0, 0⟩).wellFormed = false ∧
    (Instr.setTrayConfig 0 0 ⟨65536, 0, 0, 0, 0, 0, 0, 0, 0⟩).wellFormed = false ∧
    (Instr.setTrayConfig 0 0 ⟨0, 65536, 0, 0, 0, 0, 0, 0, 0⟩).wellFormed = false ∧
    (Instr.setTrayConfig 0 0 ⟨0, 0, 65536, 0, 0, 0, 0, 0, 0⟩).wellFormed = false ∧
    (Instr.setTrayConfig 0 0 ⟨0, 0, 0, 65536, 0, 0, 0, 0, 0⟩).wellFormed = false ∧
    (Instr.setTrayConfig 0 0 ⟨0, 0, 0, 0, 65536, 0, 0, 0, 0⟩).wellFormed = false ∧
    (Instr.setTrayConfig 0 0 ⟨0, 0, 0, 0, 0, 256, 0, 0, 0⟩).wellFormed = false ∧
    (Instr.setTrayConfig 0 0 ⟨0, 0, 0, 0, 0, 0, 256, 0, 0⟩).wellFormed = false ∧
    (Instr.setTrayConfig 0 0 ⟨0, 0, 0, 0, 0, 0, 0, 256, 0⟩).wellFormed = false ∧
    (Instr.setTrayConfig 0 0 ⟨0, 0, 0, 0, 0, 0, 0, 0, 256⟩).wellFormed = false ∧
    (Instr.trayControlOn 0 256).wellFormed = false ∧ (Instr.trayControlOff 0 256).wellFormed = false ∧
    (Instr.trayControlHold 0 256).wellFormed = false ∧ (Instr.trayControlUnhold 0 256).wellFormed = false ∧
    (Instr.trayControlPin 0 256).wellFormed = false ∧ (Instr.trayControlUnpin 0 256).wellFormed = false ∧
    (Instr.trayControlOwnerAuto 0 256).wellFormed = false ∧
    (Instr.trayControlOwnerManual 0 256).wellFormed = false ∧ (Instr.clearFault 0 256).wellFormed = false := by
  decide

/-- The module and run requests. -/
theorem test_illFormed_modulesAndRuns :
    (Instr.moduleService 0 256 0).wellFormed = false ∧ (Instr.moduleService 0 0 256).wellFormed = false ∧
    (Instr.getBbuConfig 0 256).wellFormed = false ∧ (Instr.setBbuConfig 0 256 0 0 0).wellFormed = false ∧
    (Instr.setBbuConfig 0 0 4294967296 0 0).wellFormed = false ∧
    (Instr.setBbuConfig 0 0 0 65536 0).wellFormed = false ∧
    (Instr.setBbuConfig 0 0 0 0 4294967296).wellFormed = false ∧
    (Instr.runUp 0 (List.replicate 249 0)).wellFormed = false ∧
    (Instr.runDown 0 (List.replicate 249 0)).wellFormed = false := by
  decide

/-- The leak, valve and test requests. -/
theorem test_illFormed_leaksAndTests :
    (Instr.getLeakChannel 0 256).wellFormed = false ∧
    (Instr.setLeakChannel 0 ⟨256, 0, 0, 0, 0, 0, 0, 0, []⟩).wellFormed = false ∧
    (Instr.setLeakChannel 0 ⟨0, 256, 0, 0, 0, 0, 0, 0, []⟩).wellFormed = false ∧
    (Instr.setLeakChannel 0 ⟨0, 0, 256, 0, 0, 0, 0, 0, []⟩).wellFormed = false ∧
    (Instr.setLeakChannel 0 ⟨0, 0, 0, 256, 0, 0, 0, 0, []⟩).wellFormed = false ∧
    (Instr.setLeakChannel 0 ⟨0, 0, 0, 0, 256, 0, 0, 0, []⟩).wellFormed = false ∧
    (Instr.setLeakChannel 0 ⟨0, 0, 0, 0, 0, 256, 0, 0, []⟩).wellFormed = false ∧
    (Instr.setLeakChannel 0 ⟨0, 0, 0, 0, 0, 0, 256, 0, []⟩).wellFormed = false ∧
    (Instr.setLeakChannel 0 ⟨0, 0, 0, 0, 0, 0, 0, 256, []⟩).wellFormed = false ∧
    (Instr.setLeakChannel 0 ⟨0, 0, 0, 0, 0, 0, 0, 1, [256]⟩).wellFormed = false ∧
    (Instr.setLeakChannel 0 ⟨0, 0, 0, 0, 0, 0, 0, 241, List.replicate 241 0⟩).wellFormed = false ∧
    (Instr.leakRelease 0 256).wellFormed = false ∧ (Instr.valveOpen 0 256).wellFormed = false ∧
    (Instr.valveClose 0 256).wellFormed = false ∧ (Instr.testStart 0 256).wellFormed = false := by
  decide

/-- The frames. -/
theorem test_illFormed_frames :
    (Instr.hostFrameReceived 1 0 (List.replicate 249 0) 0).wellFormed = false ∧
    (Instr.moduleReplyReceived (.complete 0x10 0xE0 0 (List.replicate 249 0) 0)).wellFormed = false ∧
    (Instr.hostFrameReceived 1 0 (List.replicate 248 0) 0).wellFormed = true := by
  decide

/-! ### The table's words and the manual's worked frame -/

/-- No row of the table has bits, so no word spells a command and nothing is put in the queue. -/
theorem test_noWordSpellsACommand :
    decodeTableWord 8 0 = none ∧ State.reset.withFetchWord 8 0 = State.reset := by decide +kernel

/-- The header check of station 0, kind 0x01, tag 0, length 0 goes 00, 07, 15, 6B (The Host Link, after R160). -/
theorem test_headerCheckOfTheManual :
    crc8 [0x00] = 0x00 ∧ crc8 [0x00, 0x01] = 0x07 ∧ crc8 [0x00, 0x01, 0x00] = 0x15 ∧
    crc8 [0x00, 0x01, 0x00, 0x00] = 0x6B ∧
    frameBytes 0 1 0 [] = [0xC3, 0x00, 0x01, 0x00, 0x00, 0x6B] := by decide +kernel

/-! ### Sample states -/

/-- The state a command answers, when it answers one. -/
def after (o : Host.Outcome State Fault Refusal) : Option State :=
  match o with
  | .next t => some t
  | .fault _ => none
  | .refused _ => none

/-- The part right after reset, with some of its records replaced. -/
def sample (trays : List (TrayId × Tray) := []) (run : RunRecord := coldRun) (ilc : InputLoss := coldInputLoss)
    (c : Nat := 0) (params : Params := State.reset.params) (hli : HostLink := State.reset.hli)
    (store : ProfileStore := State.reset.store) (mbc : ModuleBus := State.reset.mbc)
    (rects : List (RectId × RectSlot) := []) (bbus : List (BbuId × Bbu) := [])
    (channels : List (ChannelId × Channel) := []) (loops : List (LoopId × Loop) := [])
    (test : TestRecord := State.reset.test) (held : Option ResetKind := none) (pgHigh : List TrayId := [])
    (pending : List Instr := []) (pins : Pins := State.reset.pins) : State :=
  { State.reset with
    time := 700
    trays := trays.foldl (fun v x => v.set x.1 x.2) State.reset.trays
    run := run
    ilc := ilc
    budget := { State.reset.budget with c := c }
    params := params
    hli := hli
    store := store
    mbc := mbc
    rects := rects.foldl (fun v x => v.set x.1 x.2) State.reset.rects
    bbus := bbus.foldl (fun v x => v.set x.1 x.2) State.reset.bbus
    channels := channels.foldl (fun v x => v.set x.1 x.2) State.reset.channels
    loops := loops.foldl (fun v x => v.set x.1 x.2) State.reset.loops
    test := test
    held := held
    pins := { pins with pg := pgHigh.foldl (fun v (i : TrayId) => v.set i true) pins.pg }
    pending := pending }

/-- A tray with the default configuration in some state. -/
def trayIn (st : TrayState) (timer : TrayTimer := .idle) (cause : Option FailureCause := none)
    (owner : Owner := .auto) (used : Nat := 0) (hold : Bool := false) (cfg : TrayConfig := defaultTrayConfig) :
    Tray :=
  { coldTray cfg true with
    state := st, timer := timer, cause := cause, owner := owner, retriesUsed := used
    locks := { noLockouts with hold := hold } }

/-- Trays in every state but QUEUED. -/
def rack : List (TrayId × Tray) :=
  [(0, trayIn .off (owner := .manual)),
   (2, trayIn .inrush (.inrushWait 10)),
   (3, trayIn .inrush (.settle 5 7)),
   (4, trayIn .on),
   (5, trayIn .stopping (.stop 3)),
   (6, trayIn .stopping (.stop 3)),
   (7, trayIn .failed (.discharge 4) (some .noPg)),
   (8, trayIn .failed (cause := some .stuckOn)),
   (9, trayIn .on (cfg := { defaultTrayConfig with pinned := true })),
   (10, trayIn .failed (cause := some .pgLost))] ++
  [(11, trayIn .on (used := 1)),
   (12, trayIn .off (owner := .manual) (hold := true)),
   (13, trayIn .inrush (.inrushWait 1) (owner := .manual)),
   (14, trayIn .inrush (.inrushWait 9) (cfg := { defaultTrayConfig with settle := 0 })),
   (15, trayIn .failed (.discharge 1) (some .pgLost) (hold := true)),
   (17, trayIn .off),
   (18, trayIn .off (owner := .manual) (cfg := { defaultTrayConfig with settle := 0 }))]

/-- Input levels at rest, with every tray present and the rest as given. -/
def levels (pg : Bool := false) (prsnt : Bool := true) (modules : List SlotId := []) (ifail : Bool := false)
    (opened closed : Bool := false) : Pins :=
  { restingPins with
    pg := Vector.replicate 24 pg, prsnt := Vector.replicate 24 prsnt
    modulePresent := modules.foldl (fun v (k : SlotId) => v.set k true) restingPins.modulePresent
    ifail := ifail, openSwitch := Vector.replicate 4 opened, closedSwitch := Vector.replicate 4 closed }

/-- Every tray present and OFF, but for those of `rack`. -/
def fullRack : List (TrayId × Tray) := allTrays.map (fun i => (i, trayIn .off)) ++ rack

/-- Few trays: two MANUAL and OFF, one AUTO and OFF, one ON. -/
def quiet : List (TrayId × Tray) :=
  [(0, trayIn .off (owner := .manual)), (4, trayIn .on), (17, trayIn .off),
   (18, trayIn .off (owner := .manual) (cfg := { defaultTrayConfig with settle := 0 }))]

/-- A tray waiting in the start queue. -/
def waiting : TrayId × Tray := (1, trayIn .queued)

/-- A tray of a low rank in INRUSH. -/
def lowInrush : TrayId × Tray := (20, trayIn .inrush (.inrushWait 10) (cfg := { defaultTrayConfig with rank := 3 }))

/-- An UP run. -/
def upRun (st : RunState) (queue members : List TrayId := []) (spacing : Option Nat := none) : RunRecord :=
  { coldRun with state := st, startQueue := queue, members := members, startSpacing := spacing }

/-- A DOWN run. -/
def downRun (st : RunState) (queue : List TrayId := []) (spacing : Option Nat := none) : RunRecord :=
  { coldRun with direction := .down, state := st, stopQueue := queue, stopSpacing := spacing }

/-- The input loss record in a shelf power state. -/
def shelf (st : ShelfState) (stage : Nat := 0) (lastR : Nat := 0) (lastTEst : Nat := 65535) : InputLoss :=
  { coldInputLoss with
    state := st, stage := stage, ifail := expectedIfail st, lastR := lastR, lastTEst := lastTEst
    qualify := if st = .sagQualify then some 8 else none
    restore := if st = .restoreHold then some 10000 else none
    sagStart := if st = .sagQualify then some 690 else none }

/-- The host link with a framer state, queued requests, a reply being sent, an arm target. -/
def link (framer : Framer := .hunt) (queue : List Request := []) (reply : Option Reply := none)
    (arm : Option ArmTarget := none) (silence : Option Nat := none) : HostLink :=
  { State.reset.hli with framer := framer, queue := queue, reply := reply, arm := arm, silence := silence }

/-- An IDENTIFY waiting in the request queue. -/
def asking : Request := { kind := 0x01, tag := 9, body := .identify }
/-- A reply being sent. -/
def answering : Reply := { kind := 0x80, tag := 9, payload := [] }

/-- The profile store with an image, which is valid unless said otherwise, a save in flight, a RESTART phase. -/
def kept (image : Option StoredImage := none) (saving : Option StoredImage := none)
    (restart : RestartPhase := .none) (autoPending : Bool := false) (valid : Bool := image.isSome) : ProfileStore :=
  { State.reset.store with
    image := image, valid := valid, saving := saving, restart := restart, autoPending := autoPending }

/-- A stored image of the default configuration with some check. -/
def image : StoredImage := { format := 1, config := defaultConfig, check := 0x1234 }

/-- The image that this part builds of the default configuration. -/
def goodImage : StoredImage := buildImage defaultConfig

/-- The module bus with fitted slots and a poll in flight of slot `k`. -/
def bus (fitted : List (SlotId × ModuleSlot) := []) (poll : Option SlotId := none) (inService : Bool := true)
    (ready : Bool := false) (framer : BusFramer := .hunt) : ModuleBus :=
  { State.reset.mbc with
    framer := framer, nextCycle := 710
    slots := fitted.foldl (fun v x => v.set x.1 x.2) State.reset.mbc.slots
    poll := poll.map fun k => { slot := k, tag := 7, payload := [], inService := inService, window := 2 }
    rosterReady := ready }

/-- A fitted module slot. -/
def fitted (missed : Nat := 0) (announced : Bool := false) : ModuleSlot :=
  { present := true, missCount := missed, announced := announced }

/-- A rectifier that sources power. -/
def source (rated : Nat := 5500) (inService : Bool := true) : RectSlot :=
  { state := .sourcing, inService := inService
    telemetry := some
      { output := 100, rated := rated, tempClass := 0, inputPresent := true, outputOn := true, fault := .none } }

/-- A battery unit in a state, its account seeded. -/
def unit (st : BbuState) (stored : Nat := 100000000) (inService : Bool := true) : Bbu :=
  { coldBbu defaultBbuConfig true with
    state := st, stored := stored, seeded := true, firstSeedDone := true, lastArrival := some 680
    inService := inService }

/-- A battery test of the first unit in a phase. -/
def testing (phase : TestPhase) (suspended : Bool := false) (prepare : PrepareTimer := .stopped) : TestRecord :=
  { State.reset.test with phase := phase, target := some 0, suspended := suspended, prepare := prepare }

/-- A channel of loop 0 over tray 17 in a state. -/
def cable (st : ChannelState) (isolate closeValve : Bool := false) (nC nF wet fault dry : Nat := 1) : Channel :=
  { coldChannel defaultChannelConfig with
    cfg := { defaultChannelConfig with
      enabled := st != .disabled, trays := [17], isolate := isolate, closeValve := closeValve, nC := nC, nF := nF }
    state := st, wetRun := wet, faultRun := fault, dryStreak := dry }

/-- A loop whose valve is in a state. -/
def valveIn (st : ValveState) (drive : Bool := false) (travel : Option Nat := none) : Loop :=
  { coldLoop false false 15 with valve := st, drive := drive, travel := travel }

/-- Trays under a latched alarm: tray 17 carries LEAK. -/
def leaking : List (TrayId × Tray) := [(17, { trayIn .off with locks := { noLockouts with leak := true } })]

/-! ### A few commands on small states -/

/-- IDENTIFY, byte by byte. -/
theorem test_identifyByteByByte :
    (after (execAll ([0xC3, 0x00, 0x01, 0x00, 0x00, 0x6B].map .hostByteReceived) sample)).bind (·.hli.reply) =
      some { kind := 0x81, tag := 0, payload := [0x51, 0x0E, 0x24, 0x02, 0x01, 0x00] } := by decide +kernel

/-- A PG rise pauses the INRUSH wait; the fall gives it back; the settle timer's end is ON (R8). -/
theorem test_inrushPauses :
    ((after (exec (.pgRise 2) (sample (trays := rack)))).map (·.trays[2].timer) =
      some (.settle 100 10)) ∧
    ((after (exec (.pgFall 3) (sample (trays := rack)))).map (·.trays[3].timer) = some (.inrushWait 7)) ∧
    ((after (exec (.settleExpiry 3) (sample (trays := rack) (c := 48000)))).map (·.trays[3].state) =
      some .on) := by decide +kernel

/-- A stop that ends with PG asserted is STUCK-ON and still counted; without PG the tray is OFF (R12). -/
theorem test_stopEnds :
    ((after (exec (.stopTimerExpiry 6) (sample (trays := rack) (pgHigh := [6])))).map fun t =>
      (t.trays[6].cause, t.trays[6].counted)) = some (some .stuckOn, 1500) ∧
    ((after (exec (.stopTimerExpiry 5) (sample (trays := rack)))).map (·.trays[5].state)) = some .off := by
  decide +kernel

/-- A RUN-UP of everything starts the eligible tray when the budget admits it, and waits for budget when not (R111,
R118). -/
theorem test_runUp :
    ((after (exec (.runUp 0 [0]) (sample (trays := quiet) (c := 48000)))).map fun t =>
      (t.trays[17].state, t.run.state, t.run.startSpacing)) = some (.inrush, .running, some 250) ∧
    ((after (exec (.runUp 0 [0]) (sample (trays := quiet) (c := 1000)))).map fun t =>
      (t.trays[17].state, t.run.blocked)) = some (.queued, some .budget) := by decide +kernel

/-- A fall of C below K_live sheds in the order of R87 and posts the deficit (R86, R87): here the one rectifier goes
silent and the only tray that runs is shed. -/
theorem test_deficitSheds :
    ((after (exec .replyWindowExpiry
      (sample (trays := quiet) (c := 5500) (rects := [(0, source)]) (mbc := bus [(0, fitted 2)] (some 0))))).map
      fun t => (t.budget.c, t.trays[4].state, t.trays[4].locks.shed,
        (t.notices.records.map (·.kind)).drop 2)) =
      some (0, .stopping, true, [.moduleSilent, .capacityDeficit, .shedTray]) := by decide +kernel

/-- A sag that is ridden is measured; one that qualifies on an empty reserve exhausts the shelf (R95, R96, R99). -/
theorem test_sag :
    ((after (exec .ifailRelease (sample (ilc := shelf .sagQualify)))).map fun t =>
      (t.ilc.state, t.ilc.lastSag, t.ilc.sagCount)) = some (.normal, 10, 1) ∧
    ((after (exec .qualifyExpiry (sample (trays := quiet) (c := 48000) (ilc := shelf .sagQualify)))).map fun t =>
      (t.ilc.state, t.trays[4].state, (t.notices.records.map (·.kind)).drop 2)) =
      some (.exhausted, .stopping, [.inputLost, .reserveExhausted]) := by decide +kernel

/-- A confirmed leak isolates its tray and closes its valve (R133). -/
theorem test_leakAlarm :
    ((after (exec (.scanPass (Vector.replicate 12 ⟨true, true⟩))
      (sample (channels := [(0, cable .suspect (isolate := true) (closeValve := true) (nC := 2))])))).map fun t =>
      (t.channels[0].state, t.trays[17].locks.leak, t.loops[0].valve, t.loops[0].drive)) =
      some (.alarm, true, .closing, true) := by decide +kernel

/-- A battery's reply integrates 1024 W over 20 ms from its account (R62), and its grant follows the margin rule. -/
theorem test_batteryIntegrates :
    ((after (exec (.moduleReplyReceived
        (.complete 0x20 0xE1 7 [0, 4, 50, 0, 0, 20, 0] (crc16 [0, 4, 50, 0, 0, 20, 0])))
      (sample (bbus := [(0, unit .charging)]) (mbc := bus [(6, fitted)] (some 6))))).map fun t =>
      (t.bbus[0].state, t.bbus[0].stored, t.bbus[0].lastArrival)) =
      some (.discharging, 100000000 - 1024 * 20, some 700) := by decide +kernel

/-- A cutoff in DISCHARGE learns the capacity, clamped, and goes on to RECHARGE (R152). -/
theorem test_cutoffLearns :
    ((after (exec (.moduleReplyReceived
        (.complete 0x20 0xE1 7 [0, 4, 0, 0, 1, 20, 0] (crc16 [0, 4, 0, 0, 1, 20, 0])))
      (sample (bbus := [(0, unit .discharging)]) (test := { testing .discharge with eMeas := 300000000 })
        (mbc := bus [(6, fitted)] (some 6))))).map fun t =>
      (t.test.phase, t.test.health, t.bbus[0].eFull, t.bbus[0].stored)) =
      some (.recharge, some 83, 300020, 0) := by decide +kernel

/-- An idle step counts a tray's timer down and puts the expiry of its last millisecond in the queue; a bus cycle that is
due comes first and takes no time (assumption log 3). -/
theorem test_idleStep :
    ((after (step (sample (trays := [(13, trayIn .inrush (.inrushWait 1))]) (mbc := bus)))).map fun t =>
      (t.time, t.pending)) = some (701, [.inrushWaitExpiry 13]) ∧
    ((after (step sample)).map fun t => (t.time, t.pending)) = some (700, [.busCycleStart]) := by decide +kernel

/-- The bytes of a reply do what the reply does; a gap within them ends the poll as a miss (R35, R36). -/
theorem test_busBytes :
    after (exec (.moduleReplyReceived
        (.heard ((frameBytes 0x10 0xE0 7 [0, 0, 0x7C, 0x15, 0, 1, 1, 0]).map .byte)))
        (sample (mbc := bus [(0, fitted)] (some 0)))) =
      after (exec (.moduleReplyReceived
        (.complete 0x10 0xE0 7 [0, 0, 0x7C, 0x15, 0, 1, 1, 0] (crc16 [0, 0, 0x7C, 0x15, 0, 1, 1, 0])))
        (sample (mbc := bus [(0, fitted)] (some 0)))) ∧
    ((after (exec (.moduleReplyReceived (.heard [.byte 0xC3, .byte 0x10, .gap]))
      (sample (mbc := bus [(0, fitted)] (some 0))))).map fun t =>
      (t.mbc.slots[0].missCount, t.mbc.poll.isSome, t.mbc.framer)) = some (1, false, .hunt) := by decide +kernel

/-- In a link break a byte error counts nothing; once the line has been back at mark it counts (R162; assumption
log 17). -/
theorem test_byteErrorInBreak :
    ((after (execAll [.linkBreak, .hostByteError ⟨.framing, false⟩] sample)).map fun t =>
      (t.hli.inBreak, t.hli.byteErrors)) = some (true, 0) ∧
    ((after (execAll [.linkBreak, .hostByteError ⟨.framing, true⟩] sample)).map fun t =>
      (t.hli.inBreak, t.hli.byteErrors)) = some (false, 1) := by decide +kernel

/-- A unit put out of service and in again while CHARGING is granted nothing until an arrival at which it is CHARGING, and
is granted at that arrival (R49; assumption log 38). -/
theorem test_serviceOutAndIn :
    ((after (execAll [.moduleService 1 6 0, .replySent, .moduleService 2 6 1, .replySent]
        (sample (mbc := bus [(6, fitted)] (some 6)) (bbus := [(0, unit .charging)]) (c := 20000)))).map fun t =>
      (t.bbus[0].state, t.bbus[0].awaitsCharging, t.bbus[0].grant)) = some (.charging, true, 0) ∧
    ((after (execAll
        [.moduleService 1 6 0, .replySent, .moduleService 2 6 1, .replySent,
         .moduleReplyReceived (.complete 0x20 0xE1 7 [0, 0, 50, 0, 0, 25, 0] (crc16 [0, 0, 50, 0, 0, 25, 0]))]
        (sample (mbc := bus [(6, fitted)] (some 6)) (bbus := [(0, unit .charging)]) (c := 20000)))).map fun t =>
      (t.bbus[0].state, t.bbus[0].awaitsCharging, t.bbus[0].grant)) = some (.charging, false, 800) := by
  decide +kernel

/-- After a warm reset a kept module is polled at once, and one found at the reread waits for the next cycle (R51). -/
theorem test_warmResetStartsTheCycleFirst :
    ((after (exec .resetPinRelease (sample (mbc := bus [(0, fitted)]) (held := some .warmPin)
      (pins := levels (prsnt := false) (modules := [0, 1]))))).map fun t =>
      (t.mbc.poll.map (·.slot), t.mbc.schedule, t.mbc.slots[1].present, t.mbc.nextCycle)) =
      some (some 0, [], true, 720) := by decide +kernel

/-- A cold start with no module fitted has its roster ready before the auto-start mark is set (R181). -/
theorem test_coldStartRoster :
    ((after (exec (.powerOn restingPins) sample)).map fun t => (t.mbc.rosterReady, t.mbc.nextCycle)) =
      some (true, 20) ∧
    ((after (exec (.powerOn (levels (modules := [3]))) sample)).map fun t =>
      (t.mbc.rosterReady, t.mbc.poll.map (·.slot))) = some (false, some 3) := by decide +kernel

/-- A saved image is valid and gives its configuration back at a cold reset; one with another check is not (R176,
R177). -/
theorem test_savedImage (w : WorkingConfig) (p : ProfileStore) :
    imageValid { p with image := some (buildImage w) } = true ∧
    bootConfig { p with image := some (buildImage w) } = w ∧
    imageGood { buildImage w with check := (buildImage w).check + 1 } = false := by
  refine ⟨by simp [imageValid, imageGood_buildImage], bootConfig_buildImage _ _ rfl, ?_⟩
  simp [imageGood, buildImage]

/-! ### What a new capacity and a new reserve do, clause by clause -/

/-- A rectifier's reply that makes C 5500 W. -/
def newCapacity : Instr :=
  .moduleReplyReceived
    (.complete 0x10 0xE0 7 [0, 0, 0x7C, 0x15, 0, 1, 1, 0] (crc16 [0, 0, 0x7C, 0x15, 0, 1, 1, 0]))

/-- Five ON trays of 1500 W of some shed class. -/
def busy (shedClass : Nat) : List (TrayId × Tray) :=
  [0, 1, 2, 3, 4].map fun i => (i, trayIn .on (cfg := { defaultTrayConfig with shedClass := shedClass }))

/-- An OFF tray that carries SHED and nothing else. -/
def shedOff : List (TrayId × Tray) := [(9, { trayIn .off with locks := { noLockouts with shed := true } })]

/-- The premises under which `RectifierReply` says what a new capacity does, and one of its clauses. -/
def capacityCase (s : State) (clause : State → State → Bool) : Bool :=
  s.held.isNone && (s.mbc.poll.map (·.slot) == some 0) && decide (TrayLaw s) && decide (OpenLaw s) &&
  !s.store.autoPending && ((after (exec newCapacity s)).map (clause s)).getD false

/-- The part with the first rectifier's poll in flight. -/
def polling (c : Nat) (trays : List (TrayId × Tray)) (run : RunRecord := coldRun) (ilc : InputLoss := coldInputLoss)
    (recover : Bool := true) : State :=
  sample (trays := trays) (run := run) (ilc := ilc) (c := c) (mbc := bus [(0, fitted)] (some 0))
    (params := { State.reset.params with autoRecover := recover })

/-- Each clause of `CapacityTaken` has a state that meets its premises. -/
theorem test_hypotheses_CapacityTaken :
    capacityCase (polling 48000 (busy 2) (ilc := shelf .rideThrough)) (fun s _ => s.ilc.state != .normal) = true ∧
    capacityCase (polling 5500 (busy 2)) (fun s t => t.budget.c == s.budget.c) = true ∧
    capacityCase (polling 48000 quiet) (fun s t => decide (s.kLive ≤ t.budget.c ∧ t.budget.c < s.budget.c)) = true ∧
    capacityCase (polling 48000 (busy 2)) (fun s t =>
      decide (t.budget.c < s.kLive) && shedForDeficit s t.budget.c 4 && !shedForDeficit s t.budget.c 0) = true ∧
    capacityCase { polling 48000 (busy 2) with
        budget := { coldBudget with c := 48000, deficitActive := true } }
      (fun s t => decide (t.budget.c ≠ s.budget.c)) = true ∧
    capacityCase (polling 48000 (busy 0)) (fun s t =>
      decide (t.budget.c + shedWatts s (fun _ => true) < s.kLive)) = true ∧
    capacityCase (polling 1000 shedOff) (fun s t =>
      decide (s.budget.c < t.budget.c ∧ s.kLive ≤ t.budget.c) && recoverable s.trays[9]) = true ∧
    capacityCase (polling 1000 (waiting :: shedOff) (run := upRun .suspended [1] [1])) (fun s t =>
      decide (s.budget.c < t.budget.c ∧ s.kLive ≤ t.budget.c) && recoverable s.trays[9]) = true ∧
    capacityCase (polling 1000 shedOff (recover := false)) (fun s t =>
      decide (s.budget.c < t.budget.c ∧ s.kLive ≤ t.budget.c) && s.trays[9].locks.shed) = true := by decide +kernel

/-- A battery's reply of 1024 W. -/
def newReserve : Instr :=
  .moduleReplyReceived (.complete 0x20 0xE1 7 [0, 4, 50, 0, 0, 20, 0] (crc16 [0, 4, 50, 0, 0, 20, 0]))

/-- The part in a shelf power state with the poll of the first battery in flight, its account at some energy. -/
def discharging (st : ShelfState) (stored lastR stage : Nat) : State :=
  sample (trays := quiet) (ilc := shelf st stage lastR) (c := 48000) (bbus := [(0, unit .discharging stored)])
    (mbc := bus [(6, fitted)] (some 6))

/-- The premises under which `BatteryReply` says what a new reserve does, and one of its clauses. -/
def reserveCase (s : State) (clause : State → State → Bool) : Bool :=
  s.held.isNone && (s.mbc.poll.map (·.slot) == some 6) && decide (ShelfLaw s) && decide (OpenLaw s) &&
  ((after (exec newReserve s)).map (clause s)).getD false

/-- Each clause of `ReserveTaken` has a state that meets its premises, and both shelf states of the last are reached. -/
theorem test_hypotheses_ReserveTaken :
    reserveCase (discharging .normal 100000000 1 0) (fun s _ => s.ilc.state == .normal) = true ∧
    reserveCase (discharging .restoreHold 100000000 1 0) (fun s t =>
      s.ilc.state == .restoreHold && t.reserve != 0) = true ∧
    reserveCase (discharging .rideThrough 100000000 1 3) (fun s t =>
      t.reserve != 0 && decide (reachedStage s.params t.tEst ≤ s.ilc.stage)) = true ∧
    reserveCase (discharging .rideThrough 100000000 1 0) (fun s t =>
      t.reserve != 0 && decide (s.ilc.stage < reachedStage s.params t.tEst)) = true ∧
    reserveCase (discharging .rideThrough 0 1 0) (fun _ t => t.reserve == 0 && t.ilc.state == .exhausted) = true ∧
    reserveCase (discharging .restoreHold 0 1 0) (fun s t =>
      t.reserve == 0 && decide (0 < s.ilc.lastR) && t.ilc.restore == some (s.params.restoreHold * 1000)) = true := by
  decide +kernel

/-- A running UP run without a queue: tray 3 settles, tray 4 is ON, tray 10 has failed. -/
def lastInrush (members : List TrayId) : State :=
  sample (trays := rack) (run := upRun .running [] members) (c := 48000)

/-- The premises under which `InrushTimers` says how an UP run ends, and one of its clauses. -/
def runEndCase (s : State) (clause : State → State → Bool) : Bool :=
  s.held.isNone && decide (TrayLaw s) && decide (OpenLaw s) && decide (DeficitLaw s) &&
  s.run.state == .running && s.run.startQueue.isEmpty && ((after (exec (.settleExpiry 3) s)).map (clause s)).getD false

/-- Each clause of `UpRunEnds` has a state that meets its premises; the run of the second ends with two members in ON and
one in FAILED (R114). -/
theorem test_hypotheses_UpRunEnds :
    runEndCase (lastInrush [2, 3, 4]) (fun s t =>
      s.run.members.any fun i => t.trays[i].state == .inrush || t.trays[i].retryPending) = true ∧
    runEndCase (lastInrush [3, 4, 10]) (fun s t =>
      s.run.members.all (fun i => t.trays[i].state != .inrush && !t.trays[i].retryPending) &&
      t.notices.records.contains { kind := .runDone, subject := some 0, value := some 258, time := 700 }) = true := by
  decide +kernel

/-- The premises under which `IfailAndRestore` says what recovery does, and one of its clauses. -/
def recoveryCase (run : RunRecord) (recover : Bool) (trays : List (TrayId × Tray)) (clause : State → Bool) : Bool :=
  let s := sample (trays := trays) (run := run) (ilc := shelf .restoreHold) (c := 48000)
    (params := { State.reset.params with autoRecover := recover })
  s.held.isNone && decide (TrayLaw s) && decide (OpenLaw s) && decide (ShelfLaw s) && !s.store.autoPending &&
  decide (s.kLive ≤ s.budget.c) && clause s

/-- Each clause of `RecoveryTaken` has a state that meets its premises at the restore timer's end. -/
theorem test_hypotheses_RecoveryTaken :
    recoveryCase coldRun true shedOff (fun s => recoverable s.trays[9]) = true ∧
    recoveryCase (upRun .suspended [1] [1]) true (waiting :: shedOff) (fun s => recoverable s.trays[9]) = true ∧
    recoveryCase coldRun false shedOff (fun s => s.trays[9].locks.shed) = true := by decide +kernel

/-- The second alarm of a loop escalates it, and LOOP-ESCALATED gives two channels (R134). -/
theorem test_loopEscalated :
    ((after (exec (.scanPass (Vector.replicate 12 ⟨true, true⟩))
        (sample (channels := [(0, cable .alarm), (1, cable .dry)])))).map fun t =>
      (t.loops[0].escalated,
       t.notices.records.contains { kind := .loopEscalated, subject := some 0, value := some 2, time := 700 })) =
      some (true, true) := by decide +kernel

/-! ### The hypotheses of the statements are met -/

/-- States and operands that meet the hypotheses of `IdleStepIsOneMillisecond`, clause by clause. -/
theorem test_hypotheses_IdleStepIsOneMillisecond :
    (∃ (s : State), s.pending = [] ∧ s.held ≠ none) ∧
    (∃ (s : State), s.pending = [] ∧ s.held = none ∧ s.mbc.poll = none ∧ s.mbc.nextCycle ≤ s.time) ∧
    (∃ (s : State), s.pending = [] ∧ s.held = none ∧ (s.mbc.poll ≠ none ∨ s.time < s.mbc.nextCycle)) :=
  ⟨⟨sample (held := some .cold), by decide +kernel⟩,
   ⟨sample, by decide +kernel⟩,
   ⟨sample (mbc := bus (poll := some 0)), by decide +kernel⟩⟩

/-- States and operands that meet the hypotheses of `ResetPinHoldsThePart`, clause by clause. -/
theorem test_hypotheses_ResetPinHoldsThePart :
    (∃ (s : State) (c : Instr), s.held ≠ none ∧ endsReset c = false) ∧
    (∃ (s : State), s.held = none) :=
  ⟨⟨sample (held := some .cold), .linkBreak, by decide +kernel⟩,
   ⟨sample, by decide +kernel⟩⟩

/-- States and operands that meet the hypotheses of `ColdResetTrays`, clause by clause. -/
theorem test_hypotheses_ColdResetTrays :
    (∃ (s : State) (p : Pins), s.held = some .cold ∧ s.pins = p) ∧
    (∃ (s : State) (img : StoredImage), s.store.image = some img ∧ img.format = imageFormat ∧ img.check = crc16
      (imageBytes img.format img.config)) ∧
    (∃ (s : State) (img : StoredImage), (s.store.image = none ∨ (s.store.image = some img ∧ (img.format ≠
      imageFormat ∨ img.check ≠ crc16 (imageBytes img.format img.config))))) :=
  ⟨⟨sample (held := some .cold), restingPins, by decide +kernel⟩,
   ⟨sample (store := kept (some goodImage)), goodImage, rfl, rfl, rfl⟩,
   ⟨sample, image, by decide +kernel⟩⟩

/-- States and operands that meet the hypotheses of `ColdResetBatteries`, clause by clause. -/
theorem test_hypotheses_ColdResetBatteries :
    (∃ (s : State) (p : Pins), s.held = some .cold ∧ s.pins = p) ∧
    (∃ (s : State) (img : StoredImage), s.store.image = some img ∧ img.format = imageFormat ∧ img.check = crc16
      (imageBytes img.format img.config)) ∧
    (∃ (s : State) (img : StoredImage), (s.store.image = none ∨ (s.store.image = some img ∧ (img.format ≠
      imageFormat ∨ img.check ≠ crc16 (imageBytes img.format img.config))))) :=
  ⟨⟨sample (held := some .cold), restingPins, by decide +kernel⟩,
   ⟨sample (store := kept (some goodImage)), goodImage, rfl, rfl, rfl⟩,
   ⟨sample, image, by decide +kernel⟩⟩

/-- States and operands that meet the hypotheses of `ColdResetOtherBlocks`, clause by clause. -/
theorem test_hypotheses_ColdResetOtherBlocks :
    (∃ (s : State) (p : Pins), s.held = some .cold ∧ s.pins = p) :=
  ⟨sample (held := some .cold), restingPins, by decide +kernel⟩

/-- States and operands that meet the hypotheses of `WarmResetKeepsTheRack`, clause by clause. -/
theorem test_hypotheses_WarmResetKeepsTheRack :
    (∃ (s : State), s.held = none ∧ s.store.restart = .none) ∧
    (∃ (s : State) (c : Instr) (k : ResetKind), Laws s ∧ PinsAgree s ∧ RackAtRest s ∧ EndsWarmReset c k s) ∧
    (∃ (s : State) (c : Instr) (k : ResetKind) (r : RectId), Laws s ∧ EndsWarmReset c k s ∧ s.mbc.slots[rectSlotNo
      r].present = true ∧ s.pins.modulePresent[rectSlotNo r] = false) ∧
    (∃ (s : State) (c : Instr) (k : ResetKind) (r : RectId), Laws s ∧ EndsWarmReset c k s ∧ s.mbc.slots[rectSlotNo
      r].present = false ∧ s.pins.modulePresent[rectSlotNo r] = true) ∧
    (∃ (s : State) (c : Instr) (k : ResetKind) (b : BbuId), Laws s ∧ EndsWarmReset c k s ∧ s.mbc.slots[bbuSlotNo
      b].present = true ∧ s.pins.modulePresent[bbuSlotNo b] = false) ∧
    (∃ (s : State) (c : Instr) (k : ResetKind) (b : BbuId), Laws s ∧ EndsWarmReset c k s ∧ s.mbc.slots[bbuSlotNo
      b].present = false ∧ s.pins.modulePresent[bbuSlotNo b] = true) ∧
    (∃ (s : State) (c : Instr) (k : ResetKind), Laws s ∧ EndsWarmReset c k s ∧ s.ilc.state = .normal ∧ s.pins.ifail
      = true) ∧
    (∃ (s : State) (c : Instr) (k : ResetKind), Laws s ∧ EndsWarmReset c k s ∧ s.ilc.state = .sagQualify ∧
      s.pins.ifail = false) ∧
    (∃ (s : State) (c : Instr) (k : ResetKind), Laws s ∧ EndsWarmReset c k s ∧ (s.ilc.state = .rideThrough ∨
      s.ilc.state = .exhausted) ∧ s.pins.ifail = false) ∧
    (∃ (s : State) (c : Instr) (k : ResetKind), Laws s ∧ EndsWarmReset c k s ∧ s.ilc.state = .restoreHold ∧
      s.pins.ifail = true) ∧
    (∃ (s : State) (c : Instr) (k : ResetKind) (l : LoopId), Laws s ∧ EndsWarmReset c k s ∧ s.loops[l].valve =
      .closing ∧ s.loops[l].closedSwitch = false ∧ s.pins.closedSwitch[l] = true) ∧
    (∃ (s : State) (c : Instr) (k : ResetKind) (l : LoopId), Laws s ∧ EndsWarmReset c k s ∧ s.loops[l].valve =
      .opening ∧ s.loops[l].openSwitch = false ∧ s.pins.openSwitch[l] = true) ∧
    (∃ (s : State) (c : Instr) (k : ResetKind) (i : TrayId), Laws s ∧ RackAtRest s ∧ EndsWarmReset c k s ∧
      s.pins.ifail = expectedIfail s.ilc.state ∧ (∀ j : SlotId, s.mbc.slots[j].present = s.pins.modulePresent[j]) ∧
      s.trays[i].present = false ∧ s.pins.prsnt[i] = true) ∧
    (∃ (s : State) (c : Instr) (k : ResetKind) (i : TrayId), Laws s ∧ RackAtRest s ∧ EndsWarmReset c k s ∧
      s.pins.ifail = expectedIfail s.ilc.state ∧ (∀ j : SlotId, s.mbc.slots[j].present = s.pins.modulePresent[j]) ∧
      s.trays[i].present = true ∧ s.pins.prsnt[i] = false) ∧
    (∃ (s : State) (c : Instr) (k : ResetKind) (i : TrayId), Laws s ∧ RackAtRest s ∧ EndsWarmReset c k s ∧
      s.pins.ifail = expectedIfail s.ilc.state ∧ (∀ j : SlotId, s.mbc.slots[j].present = s.pins.modulePresent[j]) ∧
      s.trays[i].present = s.pins.prsnt[i] ∧ (s.trays[i].state = .off ∨ s.trays[i].state = .queued ∨
      (s.trays[i].state = .failed ∧ s.trays[i].cause ≠ some .stuckOn)) ∧ s.pins.pg[i] = true) ∧
    (∃ (s : State) (c : Instr) (k : ResetKind) (i : TrayId) (left : Nat), Laws s ∧ RackAtRest s ∧ EndsWarmReset c k
      s ∧ s.pins.ifail = expectedIfail s.ilc.state ∧ (∀ j : SlotId, s.mbc.slots[j].present =
      s.pins.modulePresent[j]) ∧ s.trays[i].present = s.pins.prsnt[i] ∧ s.trays[i].timer = .inrushWait left ∧
      s.pins.pg[i] = true ∧ s.trays[i].cfg.settle ≠ 0) ∧
    (∃ (s : State) (c : Instr) (k : ResetKind) (i : TrayId) (left : Nat), Laws s ∧ RackAtRest s ∧ EndsWarmReset c k
      s ∧ s.pins.ifail = expectedIfail s.ilc.state ∧ (∀ j : SlotId, s.mbc.slots[j].present =
      s.pins.modulePresent[j]) ∧ s.trays[i].present = s.pins.prsnt[i] ∧ s.trays[i].timer = .inrushWait left ∧
      s.pins.pg[i] = true ∧ s.trays[i].cfg.settle = 0) ∧
    (∃ (s : State) (c : Instr) (k : ResetKind) (i : TrayId) (left : Nat) (paused : Nat), Laws s ∧ RackAtRest s ∧
      EndsWarmReset c k s ∧ s.pins.ifail = expectedIfail s.ilc.state ∧ (∀ j : SlotId, s.mbc.slots[j].present =
      s.pins.modulePresent[j]) ∧ s.trays[i].present = s.pins.prsnt[i] ∧ s.trays[i].timer = .settle left paused ∧
      s.pins.pg[i] = false) ∧
    (∃ (s : State) (c : Instr) (k : ResetKind) (i : TrayId), Laws s ∧ RackAtRest s ∧ EndsWarmReset c k s ∧
      s.pins.ifail = expectedIfail s.ilc.state ∧ (∀ j : SlotId, s.mbc.slots[j].present = s.pins.modulePresent[j]) ∧
      s.trays[i].present = s.pins.prsnt[i] ∧ s.trays[i].state = .on ∧ s.pins.pg[i] = false) ∧
    (∃ (s : State) (c : Instr) (k : ResetKind) (i : TrayId), Laws s ∧ RackAtRest s ∧ EndsWarmReset c k s ∧
      s.pins.ifail = expectedIfail s.ilc.state ∧ (∀ j : SlotId, s.mbc.slots[j].present = s.pins.modulePresent[j]) ∧
      s.trays[i].present = s.pins.prsnt[i] ∧ s.trays[i].cause = some .stuckOn ∧ s.pins.pg[i] = false) ∧
    (∃ (s : State) (c : Instr) (k : ResetKind) (i : TrayId), Laws s ∧ RackAtRest s ∧ EndsWarmReset c k s ∧
      s.pins.ifail = expectedIfail s.ilc.state ∧ (∀ j : SlotId, s.mbc.slots[j].present = s.pins.modulePresent[j]) ∧
      s.trays[i].present = s.pins.prsnt[i] ∧ s.trays[i].state = .stopping) :=
  ⟨⟨sample (c := 48000), by decide +kernel⟩,
   ⟨sample (held := some .warmPin) (c := 48000), .resetPinRelease, .warmPin, by decide +kernel⟩,
   ⟨sample (held := some .warmPin) (c := 48000) (mbc := bus [(0, fitted), (6, fitted)]), .resetPinRelease,
     .warmPin, 0, by decide +kernel⟩,
   ⟨sample (held := some .warmPin) (c := 48000) (pins := levels (modules := [0, 6])), .resetPinRelease, .warmPin,
     0, by decide +kernel⟩,
   ⟨sample (held := some .warmPin) (c := 48000) (mbc := bus [(0, fitted), (6, fitted)]), .resetPinRelease,
     .warmPin, 0, by decide +kernel⟩,
   ⟨sample (held := some .warmPin) (c := 48000) (pins := levels (modules := [0, 6])), .resetPinRelease, .warmPin,
     0, by decide +kernel⟩,
   ⟨sample (held := some .warmPin) (c := 48000) (pins := levels (ifail := true)), .resetPinRelease, .warmPin,
     by decide +kernel⟩,
   ⟨sample (held := some .warmPin) (c := 48000) (ilc := shelf .sagQualify), .resetPinRelease, .warmPin,
     by decide +kernel⟩,
   ⟨sample (held := some .warmPin) (c := 48000) (ilc := shelf .rideThrough), .resetPinRelease, .warmPin,
     by decide +kernel⟩,
   ⟨sample (held := some .warmPin) (c := 48000) (ilc := shelf .restoreHold) (pins := levels (ifail := true)),
     .resetPinRelease, .warmPin, by decide +kernel⟩,
   ⟨sample (held := some .warmPin) (c := 48000) (loops := [(0, valveIn .closing true (some 5))]) (pins := levels
     (opened := true) (closed := true)), .resetPinRelease, .warmPin, 0, by decide +kernel⟩,
   ⟨sample (held := some .warmPin) (c := 48000) (pins := levels (opened := true) (closed := true)),
     .resetPinRelease, .warmPin, 0, by decide +kernel⟩,
   ⟨sample (held := some .warmPin) (c := 48000) (pins := levels), .resetPinRelease, .warmPin, 0, by decide +kernel⟩,
   ⟨sample (held := some .warmPin) (c := 48000) (trays := fullRack), .resetPinRelease, .warmPin, 0,
     by decide +kernel⟩,
   ⟨sample (held := some .warmPin) (c := 48000) (trays := fullRack) (pins := levels (pg := true)),
     .resetPinRelease, .warmPin, 0, by decide +kernel⟩,
   ⟨sample (held := some .warmPin) (c := 48000) (trays := fullRack) (pins := levels (pg := true)),
     .resetPinRelease, .warmPin, 2, 10, by decide +kernel⟩,
   ⟨sample (held := some .warmPin) (c := 48000) (trays := fullRack) (pins := levels (pg := true)),
     .resetPinRelease, .warmPin, 14, 9, by decide +kernel⟩,
   ⟨sample (held := some .warmPin) (c := 48000) (trays := fullRack) (pins := levels), .resetPinRelease, .warmPin,
     3, 5, 7, by decide +kernel⟩,
   ⟨sample (held := some .warmPin) (c := 48000) (trays := fullRack) (pins := levels), .resetPinRelease, .warmPin,
     4, by decide +kernel⟩,
   ⟨sample (held := some .warmPin) (c := 48000) (trays := fullRack) (pins := levels), .resetPinRelease, .warmPin,
     8, by decide +kernel⟩,
   ⟨sample (held := some .warmPin) (c := 48000) (trays := fullRack) (pins := levels), .resetPinRelease, .warmPin,
     5, by decide +kernel⟩⟩

/-- States and operands that meet the hypotheses of `RequestRowsAreFrames`, clause by clause. -/
theorem test_hypotheses_RequestRowsAreFrames :
    (∃ (c : Instr) (kind : Byte) (tag : Byte) (payload : List Byte), c.wellFormed = true ∧ requestFrame c = some
      (kind, tag, payload)) :=
  ⟨.runUp 7 [1, 0, 15], 0x20, 7, [1, 0, 15], by decide +kernel⟩

/-- States and operands that meet the hypotheses of `BytesMakeTheFrame`, clause by clause. -/
theorem test_hypotheses_BytesMakeTheFrame :
    (∃ (s : State) (payload : List Byte), s.held = none ∧ s.hli.framer = .hunt ∧ payload.length ≤ 248) :=
  ⟨sample, (List.replicate 248 0), by decide +kernel⟩

/-- States and operands that meet the hypotheses of `FramerStates`, clause by clause. -/
theorem test_hypotheses_FramerStates :
    (∃ (s : State), s.held = none ∧ s.hli.framer = .hunt) ∧
    (∃ (s : State) (bytes : List Byte), s.held = none ∧ s.hli.framer = .header bytes ∧ bytes.length < 4) ∧
    (∃ (s : State) (b : Byte) (station : Byte) (kind : Byte) (tag : Byte) (length : Byte), s.held = none ∧
      s.hli.framer = .header [station, kind, tag, length] ∧ (crc8 [station, kind, tag, length] ≠ b ∨ 248 <
      length.toNat)) ∧
    (∃ (s : State) (b : Byte) (station : Byte) (kind : Byte) (tag : Byte) (length : Byte), s.held = none ∧
      s.hli.framer = .header [station, kind, tag, length] ∧ crc8 [station, kind, tag, length] = b ∧ length.toNat ≤
      248 ∧ station ≠ BitVec.ofNat 8 s.hli.station) ∧
    (∃ (s : State) (b : Byte) (station : Byte) (kind : Byte) (tag : Byte) (length : Byte), s.held = none ∧
      s.hli.framer = .header [station, kind, tag, length] ∧ crc8 [station, kind, tag, length] = b ∧ length.toNat ≤
      248 ∧ station = BitVec.ofNat 8 s.hli.station ∧ length ≠ 0) ∧
    (∃ (s : State) (b : Byte) (station : Byte) (kind : Byte) (tag : Byte) (length : Byte), s.held = none ∧
      s.hli.framer = .header [station, kind, tag, length] ∧ crc8 [station, kind, tag, length] = b ∧ station =
      BitVec.ofNat 8 s.hli.station ∧ length = 0) ∧
    (∃ (s : State) (kind : Byte) (tag : Byte) (bytes : List Byte) (left : Nat), s.held = none ∧ s.hli.framer =
      .body kind tag left bytes ∧ bytes.length + 1 < left + 2) ∧
    (∃ (s : State) (station : Byte) (kind : Byte) (tag : Byte) (bytes : List Byte) (left : Nat), s.held = none ∧
      s.hli.framer = .body kind tag left (bytes ++ [station]) ∧ bytes.length = left) ∧
    (∃ (s : State) (left : Nat), s.held = none ∧ s.hli.framer = .skip left ∧ s.hli.inBreak = false) ∧
    (∃ (s : State) (kind : Byte) (tag : Byte) (bytes : List Byte) (left : Nat), s.held = none ∧ (s.hli.framer =
      .hunt ∨ s.hli.framer = .header bytes ∨ s.hli.framer = .body kind tag left bytes) ∧ s.hli.inBreak = false) ∧
    (∃ (s : State) (kind : Byte) (tag : Byte) (bytes : List Byte) (left : Nat), s.held = none ∧ (s.hli.framer =
      .header bytes ∨ s.hli.framer = .body kind tag left bytes)) :=
  ⟨⟨sample, by decide +kernel⟩,
   ⟨sample (hli := link (.header [])), [], by decide +kernel⟩,
   ⟨sample (hli := link (.header [0, 1, 2, 0])), 0, 0, 1, 2, 0, by decide +kernel⟩,
   ⟨sample (hli := link (.header [1, 1, 2, 5])), (crc8 [1, 1, 2, 5]), 1, 1, 2, 5, by decide +kernel⟩,
   ⟨sample (hli := link (.header [0, 1, 2, 5])), (crc8 [0, 1, 2, 5]), 0, 1, 2, 5, by decide +kernel⟩,
   ⟨sample (hli := link (.header [0, 1, 2, 0])), (crc8 [0, 1, 2, 0]), 0, 1, 2, 0, by decide +kernel⟩,
   ⟨sample (hli := link (.body 1 2 1 [])), 1, 2, [], 1, by decide +kernel⟩,
   ⟨sample (hli := link (.body 1 2 1 [8, 9])), 9, 1, 2, [8], 1, by decide +kernel⟩,
   ⟨sample (hli := link (.skip 1)), 1, by decide +kernel⟩,
   ⟨sample, 1, 2, [], 1, by decide +kernel⟩,
   ⟨sample (hli := link (.header [])), 1, 2, [], 1, by decide +kernel⟩⟩

/-- States and operands that meet the hypotheses of `LinkBreakResetsTheLink`, clause by clause. -/
theorem test_hypotheses_LinkBreakResetsTheLink :
    (∃ (s : State), s.held = none) :=
  ⟨sample, by decide +kernel⟩

/-- States and operands that meet the hypotheses of `FramesAreQueuedAndAnswered`, clause by clause. -/
theorem test_hypotheses_FramesAreQueuedAndAnswered :
    (∃ (s : State), s.held = none ∧ 2 ≤ s.hli.queue.length) ∧
    (∃ (s : State), s.held = none ∧ (s.hli.queue.length = 1 ∨ (s.hli.queue = [] ∧ s.store.restart ≠ .none))) ∧
    (∃ (s : State) (kind : Byte), s.held = none ∧ s.hli.queue = [] ∧ s.store.restart = .none ∧ kind ≠ 0x03) :=
  ⟨⟨sample (hli := link (queue := [asking, asking]) (reply := some answering)), by decide +kernel⟩,
   ⟨sample (store := kept (restart := .ackSending)), by decide +kernel⟩,
   ⟨sample, 0, by decide +kernel⟩⟩

/-- States and operands that meet the hypotheses of `GenericRefusals`, clause by clause. -/
theorem test_hypotheses_GenericRefusals :
    (∃ (s : State) (payload : List Byte) (check : BitVec 16), Ready s ∧ payload ≠ [] ∧ crc16 payload ≠ check) ∧
    (∃ (s : State) (kind : Byte) (payload : List Byte) (check : BitVec 16), Ready s ∧ (payload = [] ∨ crc16 payload
      = check) ∧ kind.toNat ∉ fixedKinds.map Prod.fst ∧ kind.toNat ∉ variableKinds) ∧
    (∃ (s : State) (kind : Byte) (payload : List Byte) (check : BitVec 16), Ready s ∧ (payload = [] ∨ crc16 payload
      = check) ∧ kind.toNat ∈ fixedKinds.map Prod.fst ∧ (kind.toNat, payload.length) ∉ fixedKinds) :=
  ⟨⟨sample, [8], 0, by decide +kernel⟩,
   ⟨sample, 0x7F, [8], (crc16 [8]), by decide +kernel⟩,
   ⟨sample, 0x01, [8], (crc16 [8]), by decide +kernel⟩⟩

/-- States and operands that meet the hypotheses of `ReplySentTakesTheNext`, clause by clause. -/
theorem test_hypotheses_ReplySentTakesTheNext :
    (∃ (s : State), s.held = none ∧ s.hli.reply = none) ∧
    (∃ (s : State), s.held = none ∧ s.hli.reply ≠ none ∧ s.hli.queue.length ≤ 1 ∧ s.store.restart = .none) ∧
    (∃ (s : State) (r : Request), s.held = none ∧ s.hli.reply ≠ none ∧ s.hli.queue.tail = [r] ∧ s.store.restart =
      .none) ∧
    (∃ (s : State), s.held = none ∧ s.hli.reply ≠ none ∧ s.store.restart ≠ .none) :=
  ⟨⟨sample, by decide +kernel⟩,
   ⟨sample (hli := link (queue := [asking]) (reply := some answering)), by decide +kernel⟩,
   ⟨sample (hli := link (queue := [asking, asking]) (reply := some answering)), asking, by decide +kernel⟩,
   ⟨sample (hli := link (queue := [asking]) (reply := some answering)) (store := kept (restart := .ackSending)),
     by decide +kernel⟩⟩

/-- States and operands that meet the hypotheses of `ArmAndRestart`, clause by clause. -/
theorem test_hypotheses_ArmAndRestart :
    (∃ (s : State) (target : Nat), Ready s ∧ target = 0) ∧
    (∃ (s : State) (target : Nat) (channel : Nat), Ready s ∧ target = 1 ∧ channel ≤ 11) ∧
    (∃ (s : State) (target : Nat) (channel : Nat), Ready s ∧ (2 ≤ target ∨ (target = 1 ∧ 11 < channel))) ∧
    (∃ (s : State), Ready s ∧ s.hli.arm ≠ some .restart) ∧
    (∃ (s : State), Ready s ∧ s.hli.arm = some .restart ∧ s.store.saving ≠ none) ∧
    (∃ (s : State), Ready s ∧ s.hli.arm = some .restart ∧ s.store.saving = none) :=
  ⟨⟨sample, 0, by decide +kernel⟩,
   ⟨sample, 1, 11, by decide +kernel⟩,
   ⟨sample, 1, 12, by decide +kernel⟩,
   ⟨sample, by decide +kernel⟩,
   ⟨sample (hli := link (arm := some .restart)) (store := kept (saving := some image)), by decide +kernel⟩,
   ⟨sample (hli := link (arm := some .restart)), by decide +kernel⟩⟩

/-- States and operands that meet the hypotheses of `HostSilence`, clause by clause. -/
theorem test_hypotheses_HostSilence :
    (∃ (s : State), s.held = none ∧ s.hli.silence = none) ∧
    (∃ (s : State), s.held = none ∧ s.hli.silence ≠ none) :=
  ⟨⟨sample, by decide +kernel⟩,
   ⟨sample (hli := link (silence := some 1)), by decide +kernel⟩⟩

/-- States and operands that meet the hypotheses of `IdentifyReply`, clause by clause. -/
theorem test_hypotheses_IdentifyReply :
    (∃ (s : State), Ready s) :=
  ⟨sample, by decide +kernel⟩

/-- States and operands that meet the hypotheses of `StatusReports`, clause by clause. -/
theorem test_hypotheses_StatusReports :
    (∃ (s : State), Ready s) :=
  ⟨sample, by decide +kernel⟩

/-- States and operands that meet the hypotheses of `TakeNotices`, clause by clause. -/
theorem test_hypotheses_TakeNotices :
    (∃ (s : State) (count : Nat) (n : Nat), Ready s ∧ n = min (min 8 (max 1 count)) s.notices.records.length) :=
  ⟨sample, 8, 2, by decide +kernel⟩

/-- States and operands that meet the hypotheses of `InputStatus`, clause by clause. -/
theorem test_hypotheses_InputStatus :
    (∃ (s : State), Ready s) :=
  ⟨sample, by decide +kernel⟩

/-- States and operands that meet the hypotheses of `IndexedReports`, clause by clause. -/
theorem test_hypotheses_IndexedReports :
    (∃ (s : State) (n : Nat), Ready s ∧ 24 ≤ n) ∧
    (∃ (s : State) (n : Nat), Ready s ∧ 6 ≤ n) ∧
    (∃ (s : State) (n : Nat), Ready s ∧ 12 ≤ n) :=
  ⟨⟨sample, 24, by decide +kernel⟩,
   ⟨sample, 24, by decide +kernel⟩,
   ⟨sample, 24, by decide +kernel⟩⟩

/-- States and operands that meet the hypotheses of `ProfileSave`, clause by clause. -/
theorem test_hypotheses_ProfileSave :
    (∃ (s : State), Ready s ∧ s.store.saving ≠ none) ∧
    (∃ (s : State), Ready s ∧ s.store.saving = none) ∧
    (∃ (s : State), s.held = none ∧ s.store.saving = none) ∧
    (∃ (s : State) (img : StoredImage), s.held = none ∧ s.store.saving = some img) :=
  ⟨⟨sample (store := kept (saving := some image)), by decide +kernel⟩,
   ⟨sample, by decide +kernel⟩,
   ⟨sample, by decide +kernel⟩,
   ⟨sample (store := kept (saving := some image)), image, by decide +kernel⟩⟩

/-- States and operands that meet the hypotheses of `LoadProfile`, clause by clause. -/
theorem test_hypotheses_LoadProfile :
    (∃ (s : State), Ready s ∧ s.store.saving ≠ none) ∧
    (∃ (s : State), Ready s ∧ s.store.saving = none ∧ (s.run.state ≠ .idle ∨ s.ilc.state ≠ .normal ∨
      s.test.suspended = true)) ∧
    (∃ (s : State), Ready s ∧ s.store.saving = none ∧ s.run.state = .idle ∧ s.ilc.state = .normal ∧
      s.test.suspended = false ∧ (∃ c : ChannelId, s.channels[c].state = .alarm)) ∧
    (∃ (s : State), Ready s ∧ s.store.saving = none ∧ s.run.state = .idle ∧ s.ilc.state = .normal ∧
      s.test.suspended = false ∧ (∀ c : ChannelId, s.channels[c].state ≠ .alarm) ∧ s.store.valid = false) ∧
    (∃ (s : State) (img : StoredImage), Ready s ∧ s.store.saving = none ∧ s.run.state = .idle ∧ s.ilc.state =
      .normal ∧ s.test.suspended = false ∧ (∀ c : ChannelId, s.channels[c].state ≠ .alarm) ∧ s.store.valid = true ∧
      s.store.image = some img ∧ TrayLaw s) :=
  ⟨⟨sample (store := kept (saving := some image)), by decide +kernel⟩,
   ⟨sample (ilc := shelf .sagQualify), by decide +kernel⟩,
   ⟨sample (channels := [(0, cable .alarm)]), by decide +kernel⟩,
   ⟨sample, by decide +kernel⟩,
   ⟨sample (store := kept (some image)), image, by decide +kernel⟩⟩

/-- States and operands that meet the hypotheses of `ShelfParameters`, clause by clause. -/
theorem test_hypotheses_ShelfParameters :
    (∃ (s : State) (k : Nat), Ready s ∧ 23 ≤ k) ∧
    (∃ (s : State) (k : Nat), Ready s ∧ k ≤ 22 ∧ s.store.saving ≠ none) ∧
    (∃ (s : State) (k : Nat), Ready s ∧ k ≤ 22 ∧ s.store.saving = none ∧ k ∉ [6, 9, 10, 11]) ∧
    (∃ (s : State) (k : Nat), Ready s ∧ k ≤ 22 ∧ s.store.saving = none ∧ (k = 0 ∨ k = 17)) ∧
    (∃ (s : State) (k : Nat), Ready s ∧ k ≤ 22 ∧ s.store.saving = none ∧ k = 1 ∧ TrayLaw s ∧ OpenLaw s) ∧
    (∃ (s : State) (k : Nat), Ready s ∧ k ≤ 22 ∧ s.store.saving = none ∧ k = 22) ∧
    (∃ (s : State) (k : Nat), Ready s ∧ k ∈ [5, 7, 8, 13, 14, 15, 16, 18, 19, 20, 21] ∧ s.store.saving = none) :=
  ⟨⟨sample, 23, by decide +kernel⟩,
   ⟨sample (store := kept (saving := some image)), 0, by decide +kernel⟩,
   ⟨sample, 0, by decide +kernel⟩,
   ⟨sample, 0, by decide +kernel⟩,
   ⟨sample, 1, by decide +kernel⟩,
   ⟨sample, 22, by decide +kernel⟩,
   ⟨sample, 5, by decide +kernel⟩⟩

/-- States and operands that meet the hypotheses of `SetTrayConfig`, clause by clause. -/
theorem test_hypotheses_SetTrayConfig :
    (∃ (s : State) (n : Nat), Ready s ∧ TrayLaw s ∧ 24 ≤ n) ∧
    (∃ (s : State), Ready s ∧ TrayLaw s ∧ s.store.saving ≠ none) ∧
    (∃ (s : State) (i : TrayId), Ready s ∧ TrayLaw s ∧ s.store.saving = none ∧ s.trays[i].state = .off) ∧
    (∃ (s : State) (i : TrayId), Ready s ∧ TrayLaw s ∧ s.store.saving = none ∧ s.trays[i].state ≠ .off) :=
  ⟨⟨sample, 24, by decide +kernel⟩,
   ⟨sample (store := kept (saving := some image)), by decide +kernel⟩,
   ⟨sample, 0, by decide +kernel⟩,
   ⟨sample (trays := rack), 4, by decide +kernel⟩⟩

/-- States and operands that meet the hypotheses of `ManualStart`, clause by clause. -/
theorem test_hypotheses_ManualStart :
    (∃ (s : State) (n : Nat), Ready s ∧ TrayLaw s ∧ 24 ≤ n) ∧
    (∃ (s : State), Ready s ∧ TrayLaw s ∧ s.ilc.state ≠ .normal) ∧
    (∃ (s : State) (i : TrayId), Ready s ∧ TrayLaw s ∧ s.ilc.state = .normal ∧ (s.trays[i].locks ≠ noLockouts ∨
      s.trays[i].state = .failed)) ∧
    (∃ (s : State) (i : TrayId), Ready s ∧ TrayLaw s ∧ s.ilc.state = .normal ∧ s.trays[i].locks = noLockouts ∧
      s.trays[i].state ≠ .failed ∧ (s.trays[i].state ≠ .off ∨ s.trays[i].present = false ∨ s.trays[i].owner =
      .auto)) ∧
    (∃ (s : State) (i : TrayId), Ready s ∧ TrayLaw s ∧ s.ilc.state = .normal ∧ s.trays[i].locks = noLockouts ∧
      s.trays[i].state = .off ∧ s.trays[i].present = true ∧ s.trays[i].owner = .manual ∧ s.params.slots ≤
      s.inrushCount) ∧
    (∃ (s : State) (i : TrayId), Ready s ∧ TrayLaw s ∧ s.ilc.state = .normal ∧ s.trays[i].locks = noLockouts ∧
      s.trays[i].state = .off ∧ s.trays[i].present = true ∧ s.trays[i].owner = .manual ∧ s.inrushCount <
      s.params.slots ∧ (s.budget.c < s.kT + s.trays[i].cfg.alloc + s.trays[i].cfg.surge + s.params.margin +
      s.budget.floorEff ∨ (s.params.readyMin ≠ 0 ∧ s.tProj s.trays[i].cfg.alloc < s.params.readyMin))) ∧
    (∃ (s : State) (i : TrayId), Ready s ∧ TrayLaw s ∧ s.ilc.state = .normal ∧ s.trays[i].locks = noLockouts ∧
      s.trays[i].state = .off ∧ s.trays[i].present = true ∧ s.trays[i].owner = .manual ∧ s.inrushCount <
      s.params.slots ∧ s.kT + s.trays[i].cfg.alloc + s.trays[i].cfg.surge + s.params.margin + s.budget.floorEff ≤
      s.budget.c ∧ (s.params.readyMin = 0 ∨ s.params.readyMin ≤ s.tProj s.trays[i].cfg.alloc) ∧ s.pins.pg[i] =
      false) ∧
    (∃ (s : State) (i : TrayId), Ready s ∧ TrayLaw s ∧ s.ilc.state = .normal ∧ s.trays[i].locks = noLockouts ∧
      s.trays[i].state = .off ∧ s.trays[i].present = true ∧ s.trays[i].owner = .manual ∧ s.inrushCount <
      s.params.slots ∧ s.kT + s.trays[i].cfg.alloc + s.trays[i].cfg.surge + s.params.margin + s.budget.floorEff ≤
      s.budget.c ∧ (s.params.readyMin = 0 ∨ s.params.readyMin ≤ s.tProj s.trays[i].cfg.alloc) ∧ s.pins.pg[i] = true
      ∧ s.trays[i].cfg.settle ≠ 0) ∧
    (∃ (s : State) (i : TrayId), Ready s ∧ TrayLaw s ∧ s.ilc.state = .normal ∧ s.trays[i].locks = noLockouts ∧
      s.trays[i].state = .off ∧ s.trays[i].present = true ∧ s.trays[i].owner = .manual ∧ s.inrushCount <
      s.params.slots ∧ s.kT + s.trays[i].cfg.alloc + s.trays[i].cfg.surge + s.params.margin + s.budget.floorEff ≤
      s.budget.c ∧ (s.params.readyMin = 0 ∨ s.params.readyMin ≤ s.tProj s.trays[i].cfg.alloc) ∧ s.pins.pg[i] = true
      ∧ s.trays[i].cfg.settle = 0) :=
  ⟨⟨sample, 24, by decide +kernel⟩,
   ⟨sample (ilc := shelf .sagQualify), by decide +kernel⟩,
   ⟨sample (trays := rack), 7, by decide +kernel⟩,
   ⟨sample, 0, by decide +kernel⟩,
   ⟨sample (trays := rack), 0, by decide +kernel⟩,
   ⟨sample (trays := quiet), 0, by decide +kernel⟩,
   ⟨sample (trays := quiet) (c := 48000), 0, by decide +kernel⟩,
   ⟨sample (trays := quiet) (c := 48000) (pgHigh := [0, 1, 6, 8, 18]), 0, by decide +kernel⟩,
   ⟨sample (trays := quiet) (c := 48000) (pgHigh := [0, 1, 6, 8, 18]), 18, by decide +kernel⟩⟩

/-- States and operands that meet the hypotheses of `HostStop`, clause by clause. -/
theorem test_hypotheses_HostStop :
    (∃ (s : State) (n : Nat), Ready s ∧ TrayLaw s ∧ 24 ≤ n) ∧
    (∃ (s : State) (i : TrayId), Ready s ∧ TrayLaw s ∧ (s.trays[i].state = .off ∨ s.trays[i].state = .stopping ∨
      s.trays[i].state = .failed)) ∧
    (∃ (s : State) (i : TrayId), Ready s ∧ TrayLaw s ∧ (s.trays[i].state = .queued ∨ s.trays[i].state = .inrush ∨
      s.trays[i].state = .on) ∧ s.trays[i].cfg.pinned = true) ∧
    (∃ (s : State) (i : TrayId), Ready s ∧ TrayLaw s ∧ s.trays[i].state = .queued ∧ s.trays[i].cfg.pinned = false) ∧
    (∃ (s : State) (i : TrayId), Ready s ∧ TrayLaw s ∧ (s.trays[i].state = .inrush ∨ s.trays[i].state = .on) ∧
      s.trays[i].cfg.pinned = false) :=
  ⟨⟨sample, 24, by decide +kernel⟩,
   ⟨sample, 0, by decide +kernel⟩,
   ⟨sample (trays := rack), 9, by decide +kernel⟩,
   ⟨sample (trays := waiting :: rack) (run := upRun .suspended [1] [1]), 1, by decide +kernel⟩,
   ⟨sample (trays := rack), 4, by decide +kernel⟩⟩

/-- States and operands that meet the hypotheses of `TrayControls`, clause by clause. -/
theorem test_hypotheses_TrayControls :
    (∃ (s : State) (n : Nat), Ready s ∧ TrayLaw s ∧ 24 ≤ n) ∧
    (∃ (s : State) (i : TrayId), Ready s ∧ TrayLaw s ∧ s.trays[i].state = .queued) ∧
    (∃ (s : State) (i : TrayId), Ready s ∧ TrayLaw s ∧ s.trays[i].state ≠ .queued) ∧
    (∃ (s : State), Ready s ∧ TrayLaw s ∧ s.store.saving ≠ none) ∧
    (∃ (s : State), Ready s ∧ TrayLaw s ∧ s.store.saving = none) :=
  ⟨⟨sample, 24, by decide +kernel⟩,
   ⟨sample (trays := waiting :: rack) (run := upRun .suspended [1] [1]), 1, by decide +kernel⟩,
   ⟨sample, 0, by decide +kernel⟩,
   ⟨sample (store := kept (saving := some image)), by decide +kernel⟩,
   ⟨sample, by decide +kernel⟩⟩

/-- States and operands that meet the hypotheses of `ClearFault`, clause by clause. -/
theorem test_hypotheses_ClearFault :
    (∃ (s : State) (n : Nat), Ready s ∧ TrayLaw s ∧ 24 ≤ n) ∧
    (∃ (s : State) (i : TrayId), Ready s ∧ TrayLaw s ∧ s.trays[i].state ≠ .failed) ∧
    (∃ (s : State) (i : TrayId), Ready s ∧ TrayLaw s ∧ s.trays[i].state = .failed ∧ s.trays[i].cause = some
      .stuckOn ∧ s.pins.pg[i] = true) :=
  ⟨⟨sample, 24, by decide +kernel⟩,
   ⟨sample, 0, by decide +kernel⟩,
   ⟨sample (trays := rack) (pgHigh := [0, 1, 6, 8, 18]), 8, by decide +kernel⟩⟩

/-- States and operands that meet the hypotheses of `PgEdges`, clause by clause. -/
theorem test_hypotheses_PgEdges :
    (∃ (s : State) (i : TrayId) (left : Nat), s.held = none ∧ TrayLaw s ∧ OpenLaw s ∧ s.trays[i].timer =
      .inrushWait left ∧ s.trays[i].cfg.settle ≠ 0) ∧
    (∃ (s : State) (i : TrayId) (left : Nat), s.held = none ∧ TrayLaw s ∧ OpenLaw s ∧ s.trays[i].timer =
      .inrushWait left ∧ s.trays[i].cfg.settle = 0 ∧ DeficitLaw s) ∧
    (∃ (s : State) (i : TrayId), s.held = none ∧ TrayLaw s ∧ OpenLaw s ∧ (s.trays[i].state = .off ∨
      s.trays[i].state = .queued ∨ (s.trays[i].state = .failed ∧ s.trays[i].cause ≠ some .stuckOn))) ∧
    (∃ (s : State) (i : TrayId), s.held = none ∧ TrayLaw s ∧ OpenLaw s ∧ (s.trays[i].state = .on ∨ s.trays[i].state
      = .stopping ∨ s.trays[i].cause = some .stuckOn)) ∧
    (∃ (s : State) (i : TrayId) (left : Nat) (paused : Nat), s.held = none ∧ TrayLaw s ∧ OpenLaw s ∧
      s.trays[i].timer = .settle left paused) ∧
    (∃ (s : State) (i : TrayId), s.held = none ∧ TrayLaw s ∧ OpenLaw s ∧ s.trays[i].state = .on ∧ (s.trays[i].owner
      = .manual ∨ s.trays[i].cfg.retries ≤ s.trays[i].retriesUsed)) ∧
    (∃ (s : State) (i : TrayId), s.held = none ∧ TrayLaw s ∧ OpenLaw s ∧ s.trays[i].state = .on ∧ DeficitLaw s) ∧
    (∃ (s : State) (i : TrayId), s.held = none ∧ TrayLaw s ∧ OpenLaw s ∧ s.trays[i].cause = some .stuckOn) ∧
    (∃ (s : State) (i : TrayId) (left : Nat), s.held = none ∧ TrayLaw s ∧ OpenLaw s ∧ (s.trays[i].state = .off ∨
      s.trays[i].state = .queued ∨ s.trays[i].state = .stopping ∨ s.trays[i].timer = .inrushWait left ∨
      (s.trays[i].state = .failed ∧ s.trays[i].cause ≠ some .stuckOn))) :=
  ⟨⟨sample (trays := rack), 2, 10, by decide +kernel⟩,
   ⟨sample (trays := rack) (c := 48000), 14, 9, by decide +kernel⟩,
   ⟨sample, 0, by decide +kernel⟩,
   ⟨sample (trays := rack), 4, by decide +kernel⟩,
   ⟨sample (trays := rack), 3, 5, 7, by decide +kernel⟩,
   ⟨sample (trays := rack), 11, by decide +kernel⟩,
   ⟨sample (trays := rack) (c := 48000), 4, by decide +kernel⟩,
   ⟨sample (trays := rack), 8, by decide +kernel⟩,
   ⟨sample, 0, 0, by decide +kernel⟩⟩

/-- States and operands that meet the hypotheses of `InrushTimers`, clause by clause. -/
theorem test_hypotheses_InrushTimers :
    (∃ (s : State) (i : TrayId) (left : Nat), s.held = none ∧ TrayLaw s ∧ s.trays[i].timer = .inrushWait left ∧
      (s.trays[i].owner = .manual ∨ s.trays[i].cfg.retries ≤ s.trays[i].retriesUsed)) ∧
    (∃ (s : State) (i : TrayId) (left : Nat), s.held = none ∧ TrayLaw s ∧ s.trays[i].timer = .inrushWait left ∧
      OpenLaw s ∧ DeficitLaw s) ∧
    (∃ (s : State) (i : TrayId) (left : Nat) (paused : Nat), s.held = none ∧ TrayLaw s ∧ s.trays[i].timer = .settle
      left paused ∧ DeficitLaw s ∧ OpenLaw s) ∧
    (∃ (s : State) (i : TrayId), s.held = none ∧ TrayLaw s ∧ s.trays[i].state ≠ .inrush) :=
  ⟨⟨sample (trays := rack), 13, 1, by decide +kernel⟩,
   ⟨sample (trays := rack) (c := 48000), 2, 10, by decide +kernel⟩,
   ⟨sample (trays := rack) (c := 48000), 3, 5, 7, by decide +kernel⟩,
   ⟨sample, 0, by decide +kernel⟩⟩

/-- States and operands that meet the hypotheses of `StopAndRetryTimers`, clause by clause. -/
theorem test_hypotheses_StopAndRetryTimers :
    (∃ (s : State) (i : TrayId) (left : Nat), s.held = none ∧ TrayLaw s ∧ s.trays[i].timer = .stop left ∧
      s.pins.pg[i] = false ∧ OpenLaw s ∧ DeficitLaw s) ∧
    (∃ (s : State) (i : TrayId) (left : Nat), s.held = none ∧ TrayLaw s ∧ s.trays[i].timer = .stop left ∧
      s.pins.pg[i] = true) ∧
    (∃ (s : State) (i : TrayId) (left : Nat), s.held = none ∧ TrayLaw s ∧ s.trays[i].timer = .discharge left ∧
      s.trays[i].owner = .auto ∧ s.trays[i].locks = noLockouts ∧ s.run.direction = .up ∧ s.run.state ≠ .idle ∧
      s.run.state ≠ .running) ∧
    (∃ (s : State) (i : TrayId) (left : Nat), s.held = none ∧ TrayLaw s ∧ s.trays[i].timer = .discharge left ∧
      (s.trays[i].owner = .manual ∨ s.trays[i].locks ≠ noLockouts ∨ s.run.direction = .down ∨ s.run.state = .idle)
      ∧ OpenLaw s ∧ DeficitLaw s) ∧
    (∃ (s : State) (i : TrayId), s.held = none ∧ TrayLaw s ∧ s.trays[i].state ≠ .stopping) ∧
    (∃ (s : State) (i : TrayId), s.held = none ∧ TrayLaw s ∧ s.trays[i].timer = .idle) :=
  ⟨⟨sample (trays := rack) (c := 48000), 5, 3, by decide +kernel⟩,
   ⟨sample (trays := rack) (pgHigh := [0, 1, 6, 8, 18]), 6, 3, by decide +kernel⟩,
   ⟨sample (trays := rack) (run := upRun .suspended), 7, 4, by decide +kernel⟩,
   ⟨sample (trays := rack) (c := 48000), 7, 4, by decide +kernel⟩,
   ⟨sample, 0, by decide +kernel⟩,
   ⟨sample, 0, by decide +kernel⟩⟩

/-- States and operands that meet the hypotheses of `TrayPresence`, clause by clause. -/
theorem test_hypotheses_TrayPresence :
    (∃ (s : State), s.held = none ∧ TrayLaw s ∧ OpenLaw s ∧ DeficitLaw s) :=
  ⟨sample, by decide +kernel⟩

/-- States and operands that meet the hypotheses of `BusCycle`, clause by clause. -/
theorem test_hypotheses_BusCycle :
    (∃ (s : State), s.held = none ∧ s.mbc.poll ≠ none) ∧
    (∃ (s : State) (r : RectId), s.held = none ∧ s.mbc.poll = none ∧ presentSlots s ≠ [] ∧ (presentSlots s).head? =
      some (rectSlotNo r)) ∧
    (∃ (s : State) (b : BbuId), s.held = none ∧ s.mbc.poll = none ∧ presentSlots s ≠ [] ∧ (presentSlots s).head? =
      some (bbuSlotNo b)) ∧
    (∃ (s : State), s.held = none ∧ s.mbc.poll = none ∧ presentSlots s = []) :=
  ⟨⟨sample (mbc := bus (poll := some 0)), by decide +kernel⟩,
   ⟨sample (mbc := bus [(0, fitted)]), 0, by decide +kernel⟩,
   ⟨sample (mbc := bus [(6, fitted)]), 0, by decide +kernel⟩,
   ⟨sample, by decide +kernel⟩⟩

/-- States and operands that meet the hypotheses of `RectifierReply`, clause by clause. -/
theorem test_hypotheses_RectifierReply :
    (∃ (s : State) (p : Poll) (r : RectId), s.held = none ∧ s.mbc.poll = some p ∧ p.slot = rectSlotNo r ∧
      s.mbc.slots[rectSlotNo r].announced = true) ∧
    (∃ (s : State) (p : Poll) (r : RectId) (b7 : Byte), s.held = none ∧ s.mbc.poll = some p ∧ p.slot = rectSlotNo r
      ∧ b7 ≠ 0 ∧ (s.rects[r].state ≠ .faulted ∨ s.rects[r].telemetry.map (·.fault) ≠ some (rectFaultOf b7.toNat))) ∧
    (∃ (s : State) (p : Poll) (r : RectId) (b7 : Byte), s.held = none ∧ s.mbc.poll = some p ∧ p.slot = rectSlotNo r
      ∧ (b7 = 0 ∨ (s.rects[r].state = .faulted ∧ s.rects[r].telemetry.map (·.fault) = some (rectFaultOf
      b7.toNat)))) ∧
    (∃ (s : State) (p : Poll) (r : RectId), s.held = none ∧ s.mbc.poll = some p ∧ p.slot = rectSlotNo r ∧ TrayLaw s
      ∧ OpenLaw s ∧ s.store.autoPending = false) :=
  ⟨⟨sample (mbc := bus [(0, fitted 3 true)] (some 0)),
     { slot := 0, tag := 7, payload := [], inService := true, window := 2 }, 0, by decide +kernel⟩,
   ⟨sample (mbc := bus (poll := some 0)), { slot := 0, tag := 7, payload := [], inService := true, window := 2 },
     0, 1, by decide +kernel⟩,
   ⟨sample (mbc := bus (poll := some 0)), { slot := 0, tag := 7, payload := [], inService := true, window := 2 },
     0, 0, by decide +kernel⟩,
   ⟨sample (mbc := bus (poll := some 0)), { slot := 0, tag := 7, payload := [], inService := true, window := 2 },
     0, by decide +kernel⟩⟩

/-- States and operands that meet the hypotheses of `ShelfCapacity`, clause by clause. -/
theorem test_hypotheses_ShelfCapacity :
    (∃ (rects : Vector RectSlot 6), (∀ q : RectId, rects[q].state ≠ .sourcing)) ∧
    (∃ (rects : Vector RectSlot 6) (r : RectId), (∀ q : RectId, rects[q].state = .sourcing ↔ q = r)) ∧
    (∃ (rects : Vector RectSlot 6) (r : RectId), 2 ≤ (allRects.filter fun q => rects[q].state == .sourcing).length
      ∧ rects[r].state = .sourcing ∧ (∀ q : RectId, rects[q].usablePower ≤ rects[r].usablePower)) :=
  ⟨⟨sample.rects, by decide +kernel⟩,
   ⟨(sample (rects := [(0, source)])).rects, 0, by decide +kernel⟩,
   ⟨(sample (rects := [(0, source), (1, source 5000)])).rects, 0, by decide +kernel⟩⟩

/-- States and operands that meet the hypotheses of `BatteryReply`, clause by clause. -/
theorem test_hypotheses_BatteryReply :
    (∃ (s : State) (p : Poll) (b : BbuId) (b0 : Byte) (b1 : Byte) (b4 : Byte) (b6 : Byte) (power : Int) (gap :
      Nat), s.held = none ∧ s.mbc.poll = some p ∧ p.slot = bbuSlotNo b ∧ power = max (-6000) (min 6000 (s16 b0 b1))
      ∧ gap = s.time - s.bbus[b].lastArrival.getD s.time ∧ ¬ (s.isTarget b = true ∧ s.test.phase = .discharge ∧ b4
      ≠ 0) ∧ s.mbc.slots[bbuSlotNo b].announced = false ∧ b6 = 0 ∧ s.bbus[b].firstSeedDone = true ∧
      (s.bbus[b].seeded = false ∨ 500 < gap)) ∧
    (∃ (s : State) (p : Poll) (b : BbuId) (b0 : Byte) (b1 : Byte) (b4 : Byte) (b6 : Byte) (power : Int) (gap :
      Nat), s.held = none ∧ s.mbc.poll = some p ∧ p.slot = bbuSlotNo b ∧ power = max (-6000) (min 6000 (s16 b0 b1))
      ∧ gap = s.time - s.bbus[b].lastArrival.getD s.time ∧ ¬ (s.isTarget b = true ∧ s.test.phase = .discharge ∧ b4
      ≠ 0) ∧ b6 ≠ 0 ∧ (s.bbus[b].state ≠ .faulted ∨ s.bbus[b].telemetry.map (·.fault) ≠ some (bbuFaultOf
      b6.toNat))) ∧
    (∃ (s : State) (p : Poll) (b : BbuId) (b0 : Byte) (b1 : Byte) (b4 : Byte) (b6 : Byte) (power : Int) (gap :
      Nat), s.held = none ∧ s.mbc.poll = some p ∧ p.slot = bbuSlotNo b ∧ power = max (-6000) (min 6000 (s16 b0 b1))
      ∧ gap = s.time - s.bbus[b].lastArrival.getD s.time ∧ ¬ (s.isTarget b = true ∧ s.test.phase = .discharge ∧ b4
      ≠ 0) ∧ (b6 = 0 ∨ (s.bbus[b].state = .faulted ∧ s.bbus[b].telemetry.map (·.fault) = some (bbuFaultOf
      b6.toNat)))) ∧
    (∃ (s : State) (p : Poll) (b : BbuId) (b0 : Byte) (b1 : Byte) (b3 : Byte) (b4 : Byte) (b6 : Byte) (power : Int)
      (gap : Nat), s.held = none ∧ s.mbc.poll = some p ∧ p.slot = bbuSlotNo b ∧ power = max (-6000) (min 6000 (s16
      b0 b1)) ∧ gap = s.time - s.bbus[b].lastArrival.getD s.time ∧ ¬ (s.isTarget b = true ∧ s.test.phase =
      .discharge ∧ b4 ≠ 0) ∧ s.bbus[b].awaitsCharging = true ∧ GrantLaw s ∧ (b6 ≠ 0 ∨ p.inService = false ∨ 20 ≤
      power ∨ b3 ≠ 0)) ∧
    (∃ (s : State) (p : Poll) (b : BbuId) (b0 : Byte) (b1 : Byte) (b3 : Byte) (b4 : Byte) (b6 : Byte) (power : Int)
      (gap : Nat), s.held = none ∧ s.mbc.poll = some p ∧ p.slot = bbuSlotNo b ∧ power = max (-6000) (min 6000 (s16
      b0 b1)) ∧ gap = s.time - s.bbus[b].lastArrival.getD s.time ∧ ¬ (s.isTarget b = true ∧ s.test.phase =
      .discharge ∧ b4 ≠ 0) ∧ s.bbus[b].awaitsCharging = true ∧ b6 = 0 ∧ p.inService = true ∧ power < 20 ∧ b3 = 0) ∧
    (∃ (s : State) (p : Poll) (b : BbuId) (b0 : Byte) (b1 : Byte) (b4 : Byte) (power : Int) (gap : Nat), s.held =
      none ∧ s.mbc.poll = some p ∧ p.slot = bbuSlotNo b ∧ power = max (-6000) (min 6000 (s16 b0 b1)) ∧ gap = s.time
      - s.bbus[b].lastArrival.getD s.time ∧ ¬ (s.isTarget b = true ∧ s.test.phase = .discharge ∧ b4 ≠ 0) ∧ ShelfLaw
      s ∧ OpenLaw s) :=
  ⟨⟨sample (mbc := bus [(6, fitted 2)] (some 6)) (bbus := [(0, { unit .charging with seeded := false })]),
     { slot := 6, tag := 7, payload := [], inService := true, window := 2 }, 0, 0, 0, 0, 0, 0, 20,
     by decide +kernel⟩,
   ⟨sample (mbc := bus [(6, fitted 2)] (some 6)) (bbus := [(0, unit .charging)]),
     { slot := 6, tag := 7, payload := [], inService := true, window := 2 }, 0, 0, 0, 0, 1, 0, 20,
     by decide +kernel⟩,
   ⟨sample (mbc := bus [(6, fitted 2)] (some 6)) (bbus := [(0, unit .charging)]),
     { slot := 6, tag := 7, payload := [], inService := true, window := 2 }, 0, 0, 0, 0, 0, 0, 20,
     by decide +kernel⟩,
   ⟨sample (mbc := bus [(6, fitted 2)] (some 6)) (bbus := [(0, { unit .charging with awaitsCharging := true })]),
     { slot := 6, tag := 7, payload := [], inService := true, window := 2 }, 0, 0, 0, 0, 0, 1, 0, 20,
     by decide +kernel⟩,
   ⟨sample (mbc := bus [(6, fitted 2)] (some 6)) (bbus := [(0, { unit .charging with awaitsCharging := true })]),
     { slot := 6, tag := 7, payload := [], inService := true, window := 2 }, 0, 0, 0, 0, 0, 0, 0, 20,
     by decide +kernel⟩,
   ⟨sample (mbc := bus [(6, fitted 2)] (some 6)) (bbus := [(0, unit .charging)]),
     { slot := 6, tag := 7, payload := [], inService := true, window := 2 }, 0, 0, 0, 0, 0, 20, by decide +kernel⟩⟩

/-- States and operands that meet the hypotheses of `PollMisses`, clause by clause. -/
theorem test_hypotheses_PollMisses :
    (∃ (s : State), s.held = none ∧ s.mbc.poll = none) ∧
    (∃ (s : State) (payload : List Byte), s.held = none ∧ s.mbc.poll ≠ none ∧ s.mbc.framer = .hunt ∧ payload.length
      ≤ 248) ∧
    (∃ (s : State), s.held = none ∧ s.mbc.poll ≠ none ∧ s.mbc.framer ≠ .hunt) ∧
    (∃ (s : State) (station : Byte) (kind : Byte) (tag : Byte) (length : Byte) (b0 : Byte), s.held = none ∧
      s.mbc.poll ≠ none ∧ s.mbc.framer = .header [station, kind, tag, length] ∧ (crc8 [station, kind, tag, length]
      ≠ b0 ∨ 248 < length.toNat)) ∧
    (∃ (s : State) (p : Poll) (station : Byte) (kind : Byte) (tag : Byte) (payload : List Byte) (check : BitVec
      16), s.held = none ∧ s.mbc.poll = some p ∧ ((payload ≠ [] ∧ crc16 payload ≠ check) ∨ station ≠ slotStation
      p.slot ∨ kind ≠ (if p.slot.val < 6 then 0xE0 else 0xE1) ∨ tag ≠ p.tag ∨ payload.length ≠ (if p.slot.val < 6
      then 8 else 7))) ∧
    (∃ (s : State) (p : Poll), s.held = none ∧ s.mbc.poll = some p ∧ s.mbc.slots[p.slot].missCount ≤ 3 ∧
      s.mbc.slots[p.slot].missCount ≠ 2) ∧
    (∃ (s : State) (p : Poll) (r : RectId), s.held = none ∧ s.mbc.poll = some p ∧ s.mbc.slots[p.slot].missCount ≤ 3
      ∧ s.mbc.slots[p.slot].missCount = 2 ∧ p.slot = rectSlotNo r ∧ TrayLaw s ∧ OpenLaw s ∧ s.store.autoPending =
      false) ∧
    (∃ (s : State) (p : Poll) (b : BbuId), s.held = none ∧ s.mbc.poll = some p ∧ s.mbc.slots[p.slot].missCount ≤ 3
      ∧ s.mbc.slots[p.slot].missCount = 2 ∧ p.slot = bbuSlotNo b ∧ s.bbus[b].state ≠ .silent ∧ ShelfLaw s ∧ OpenLaw
      s) ∧
    (∃ (s : State) (p : Poll), s.held = none ∧ s.mbc.poll = some p ∧ s.mbc.slots[p.slot].missCount ≤ 3 ∧
      s.mbc.slots[p.slot].missCount = 2 ∧ s.mbc.slots[p.slot].announced = false) :=
  ⟨⟨sample, by decide +kernel⟩,
   ⟨sample (mbc := bus (poll := some 0)), [], by decide +kernel⟩,
   ⟨sample (mbc := bus [(0, fitted)] (some 0) true false (.header [0, 1, 2, 0])), by decide +kernel⟩,
   ⟨sample (mbc := bus [(0, fitted)] (some 0) true false (.header [0, 1, 2, 0])), 0, 1, 2, 0, 0, by decide +kernel⟩,
   ⟨sample (mbc := bus (poll := some 0)), { slot := 0, tag := 7, payload := [], inService := true, window := 2 },
     0, 1, 2, [], 0, by decide +kernel⟩,
   ⟨sample (mbc := bus (poll := some 0)), { slot := 0, tag := 7, payload := [], inService := true, window := 2 },
     by decide +kernel⟩,
   ⟨sample (mbc := bus [(0, fitted 2)] (some 0)),
     { slot := 0, tag := 7, payload := [], inService := true, window := 2 }, 0, by decide +kernel⟩,
   ⟨sample (mbc := bus [(6, fitted 2)] (some 6)),
     { slot := 6, tag := 7, payload := [], inService := true, window := 2 }, 0, by decide +kernel⟩,
   ⟨sample (mbc := bus [(0, fitted 2)] (some 0)),
     { slot := 0, tag := 7, payload := [], inService := true, window := 2 }, by decide +kernel⟩⟩

/-- States and operands that meet the hypotheses of `ModulePresence`, clause by clause. -/
theorem test_hypotheses_ModulePresence :
    (∃ (s : State) (k : SlotId), s.held = none ∧ s.mbc.poll.map Poll.slot ≠ some k) ∧
    (∃ (s : State) (k : SlotId), s.held = none ∧ s.mbc.poll.map Poll.slot = some k) ∧
    (∃ (s : State) (k : SlotId) (r : RectId), s.held = none ∧ k = rectSlotNo r ∧ TrayLaw s ∧ OpenLaw s ∧
      s.store.autoPending = false) ∧
    (∃ (s : State) (k : SlotId) (b : BbuId), s.held = none ∧ k = bbuSlotNo b ∧ s.bbus[b].state ≠ .empty ∧ ShelfLaw
      s ∧ OpenLaw s) ∧
    (∃ (s : State) (k : SlotId) (r : RectId), s.held = none ∧ s.mbc.slots[k].present = false ∧ k = rectSlotNo r) ∧
    (∃ (s : State) (k : SlotId) (b : BbuId), s.held = none ∧ s.mbc.slots[k].present = false ∧ k = bbuSlotNo b ∧
      s.bbus[b].state ≠ .silent) ∧
    (∃ (s : State) (k : SlotId), s.held = none ∧ s.mbc.slots[k].present = true) :=
  ⟨⟨sample, 0, by decide +kernel⟩,
   ⟨sample (mbc := bus (poll := some 0)), 0, by decide +kernel⟩,
   ⟨sample, 0, 0, by decide +kernel⟩,
   ⟨sample (bbus := [(0, unit .charging)]), 6, 0, by decide +kernel⟩,
   ⟨sample, 0, 0, by decide +kernel⟩,
   ⟨sample, 6, 0, by decide +kernel⟩,
   ⟨sample (mbc := bus [(0, fitted)]), 0, by decide +kernel⟩⟩

/-- States and operands that meet the hypotheses of `ModuleService`, clause by clause. -/
theorem test_hypotheses_ModuleService :
    (∃ (s : State) (n : Nat) (v : Nat), Ready s ∧ (12 ≤ n ∨ 2 ≤ v)) ∧
    (∃ (s : State) (r : RectId), Ready s ∧ s.rects[r].inService = true ∧ capacityOf s.params.policy (s.rects.set r
      { s.rects[r] with state := .empty }) < s.kLive) ∧
    (∃ (s : State) (r : RectId), Ready s ∧ (s.rects[r].inService = false ∨ s.kLive ≤ capacityOf s.params.policy
      (s.rects.set r { s.rects[r] with state := .empty }))) ∧
    (∃ (s : State) (v : Nat) (b : BbuId), Ready s ∧ s.isSuspendedTarget b = true ∧ v ≤ 1) ∧
    (∃ (s : State) (v : Nat) (b : BbuId), Ready s ∧ s.isSuspendedTarget b = false ∧ v = s.bbus[b].inService.toNat) ∧
    (∃ (s : State) (b : BbuId), Ready s ∧ s.isSuspendedTarget b = false ∧ s.bbus[b].inService = true ∧ s.isTarget b
      = true) ∧
    (∃ (s : State) (b : BbuId), Ready s ∧ s.isSuspendedTarget b = false ∧ s.bbus[b].inService = true ∧ s.isTarget b
      = false) ∧
    (∃ (s : State) (b : BbuId), Ready s ∧ s.isSuspendedTarget b = false ∧ s.bbus[b].inService = false) :=
  ⟨⟨sample, 12, 0, by decide +kernel⟩,
   ⟨sample (trays := rack), 0, by decide +kernel⟩,
   ⟨sample, 0, by decide +kernel⟩,
   ⟨sample (test := testing .prepare true (.paused 5)), 0, 0, by decide +kernel⟩,
   ⟨sample, 1, 0, by decide +kernel⟩,
   ⟨sample (test := testing .prepare (prepare := .running 5)), 0, by decide +kernel⟩,
   ⟨sample, 0, by decide +kernel⟩,
   ⟨sample (bbus := [(0, unit .charging (inService := false))]), 0, by decide +kernel⟩⟩

/-- States and operands that meet the hypotheses of `SetBbuConfig`, clause by clause. -/
theorem test_hypotheses_SetBbuConfig :
    (∃ (s : State) (n : Nat) (b : BbuId) (eFull : Nat) (full : Nat), Ready s ∧ full = (if eFull = 0 then
      s.bbus[b].eFull else min 4000000 (max 1000 eFull)) ∧ 6 ≤ n) ∧
    (∃ (s : State) (b : BbuId) (eFull : Nat) (full : Nat), Ready s ∧ full = (if eFull = 0 then s.bbus[b].eFull else
      min 4000000 (max 1000 eFull)) ∧ s.store.saving ≠ none) ∧
    (∃ (s : State) (b : BbuId) (eFull : Nat) (full : Nat), Ready s ∧ full = (if eFull = 0 then s.bbus[b].eFull else
      min 4000000 (max 1000 eFull)) ∧ s.store.saving = none ∧ s.isSuspendedTarget b = true) ∧
    (∃ (s : State) (b : BbuId) (eFull : Nat) (full : Nat), Ready s ∧ full = (if eFull = 0 then s.bbus[b].eFull else
      min 4000000 (max 1000 eFull)) ∧ s.store.saving = none ∧ s.isSuspendedTarget b = false) :=
  ⟨⟨sample, 6, 0, 0, 360000, by decide +kernel⟩,
   ⟨sample (store := kept (saving := some image)), 0, 0, 360000, by decide +kernel⟩,
   ⟨sample (test := testing .prepare true (.paused 5)), 0, 0, 360000, by decide +kernel⟩,
   ⟨sample, 0, 0, 360000, by decide +kernel⟩⟩

/-- States and operands that meet the hypotheses of `GrantDistribution`, clause by clause. -/
theorem test_hypotheses_GrantDistribution :
    (∃ (s : State), s.ilc.state ≠ .normal) ∧
    (∃ (s : State) (a : BbuId), (s.bbus[a].state ≠ .charging ∨ s.bbus[a].inService = false ∨
      s.bbus[a].awaitsCharging = true ∨ (s.test.target = some a ∧ s.test.phase = .discharge))) ∧
    (∃ (s : State) (a : BbuId), s.ilc.state = .normal ∧ (∀ c : BbuId, 0 < s.bbus[c].eFull) ∧ grantEligible s a =
      true) ∧
    (∃ (s : State) (a : BbuId) (b : BbuId), grantEligible s a = true ∧ grantEligible s b = true ∧ (s.bbus[a].stored
      * s.bbus[b].eFull < s.bbus[b].stored * s.bbus[a].eFull ∨ (s.bbus[a].stored * s.bbus[b].eFull =
      s.bbus[b].stored * s.bbus[a].eFull ∧ a < b)) ∧ (∀ c : BbuId, 0 < s.bbus[c].eFull) ∧ 0 < (recomputeGrants
      s).bbus[b].grant) :=
  ⟨⟨sample (ilc := shelf .sagQualify), by decide +kernel⟩,
   ⟨sample, 0, by decide +kernel⟩,
   ⟨sample (bbus := [(0, unit .charging)]), 0, by decide +kernel⟩,
   ⟨sample (bbus := [(0, unit .charging), (1, unit .charging 200000000)]) (c := 48000), 0, 1, by decide +kernel⟩⟩

/-- States and operands that meet the hypotheses of `IfailAndRestore`, clause by clause. -/
theorem test_hypotheses_IfailAndRestore :
    (∃ (s : State) (w : Nat), s.held = none ∧ OpenLaw s ∧ ShelfLaw s ∧ w = min 65535 (s.time - s.ilc.sagStart.getD
      s.time) ∧ s.ilc.state = .normal) ∧
    (∃ (s : State) (w : Nat), s.held = none ∧ OpenLaw s ∧ ShelfLaw s ∧ w = min 65535 (s.time - s.ilc.sagStart.getD
      s.time) ∧ s.ilc.state = .restoreHold ∧ s.ilc.lastR ≠ 0 ∧ reachedStage s.params s.ilc.lastTEst ≤ s.ilc.stage) ∧
    (∃ (s : State) (w : Nat), s.held = none ∧ OpenLaw s ∧ ShelfLaw s ∧ w = min 65535 (s.time - s.ilc.sagStart.getD
      s.time) ∧ s.ilc.state = .restoreHold ∧ s.ilc.lastR ≠ 0 ∧ s.ilc.stage < reachedStage s.params s.ilc.lastTEst) ∧
    (∃ (s : State) (w : Nat), s.held = none ∧ OpenLaw s ∧ ShelfLaw s ∧ w = min 65535 (s.time - s.ilc.sagStart.getD
      s.time) ∧ s.ilc.state = .restoreHold ∧ s.ilc.lastR = 0) ∧
    (∃ (s : State) (w : Nat), s.held = none ∧ OpenLaw s ∧ ShelfLaw s ∧ w = min 65535 (s.time - s.ilc.sagStart.getD
      s.time) ∧ (s.ilc.state = .sagQualify ∨ s.ilc.state = .rideThrough ∨ s.ilc.state = .exhausted)) ∧
    (∃ (s : State) (w : Nat), s.held = none ∧ OpenLaw s ∧ ShelfLaw s ∧ w = min 65535 (s.time - s.ilc.sagStart.getD
      s.time) ∧ s.ilc.state = .sagQualify ∧ s.kLive ≤ s.budget.c ∧ s.run.state = .idle) ∧
    (∃ (s : State) (w : Nat), s.held = none ∧ OpenLaw s ∧ ShelfLaw s ∧ w = min 65535 (s.time - s.ilc.sagStart.getD
      s.time) ∧ s.ilc.state = .sagQualify ∧ s.run.state = .held) ∧
    (∃ (s : State) (w : Nat), s.held = none ∧ OpenLaw s ∧ ShelfLaw s ∧ w = min 65535 (s.time - s.ilc.sagStart.getD
      s.time) ∧ (s.ilc.state = .rideThrough ∨ s.ilc.state = .exhausted)) ∧
    (∃ (s : State) (w : Nat), s.held = none ∧ OpenLaw s ∧ ShelfLaw s ∧ w = min 65535 (s.time - s.ilc.sagStart.getD
      s.time) ∧ (s.ilc.state = .normal ∨ s.ilc.state = .restoreHold)) ∧
    (∃ (s : State) (w : Nat), s.held = none ∧ OpenLaw s ∧ ShelfLaw s ∧ w = min 65535 (s.time - s.ilc.sagStart.getD
      s.time) ∧ s.ilc.state ≠ .restoreHold) ∧
    (∃ (s : State) (w : Nat), s.held = none ∧ OpenLaw s ∧ ShelfLaw s ∧ w = min 65535 (s.time - s.ilc.sagStart.getD
      s.time) ∧ s.ilc.state = .restoreHold ∧ s.run.state = .held) ∧
    (∃ (s : State) (w : Nat), s.held = none ∧ OpenLaw s ∧ ShelfLaw s ∧ w = min 65535 (s.time - s.ilc.sagStart.getD
      s.time) ∧ s.ilc.state = .restoreHold ∧ TrayLaw s ∧ s.store.autoPending = false ∧ s.kLive ≤ s.budget.c) :=
  ⟨⟨sample, 0, by decide +kernel⟩,
   ⟨sample (ilc := shelf .restoreHold (stage := 3) (lastR := 1)), 0, by decide +kernel⟩,
   ⟨sample (ilc := shelf .restoreHold (stage := 1) (lastR := 1) (lastTEst := 30)), 0, by decide +kernel⟩,
   ⟨sample (ilc := shelf .restoreHold), 0, by decide +kernel⟩,
   ⟨sample (ilc := shelf .sagQualify), 10, by decide +kernel⟩,
   ⟨sample (ilc := shelf .sagQualify), 10, by decide +kernel⟩,
   ⟨sample (run := upRun .held [1] [1]) (ilc := shelf .sagQualify), 10, by decide +kernel⟩,
   ⟨sample (ilc := shelf .rideThrough), 0, by decide +kernel⟩,
   ⟨sample, 0, by decide +kernel⟩,
   ⟨sample, 0, by decide +kernel⟩,
   ⟨sample (run := upRun .held [1] [1]) (ilc := shelf .restoreHold), 0, by decide +kernel⟩,
   ⟨sample (ilc := shelf .restoreHold), 0, by decide +kernel⟩⟩

/-- States and operands that meet the hypotheses of `QualifyAndStages`, clause by clause. -/
theorem test_hypotheses_QualifyAndStages :
    (∃ (s : State), OpenLaw s ∧ ShelfLaw s ∧ TestLaw s ∧ s.held = none ∧ s.ilc.state ≠ .sagQualify) ∧
    (∃ (s : State), OpenLaw s ∧ ShelfLaw s ∧ TestLaw s ∧ s.held = none ∧ s.ilc.state = .sagQualify ∧ s.ilc.lastR =
      0 ∧ s.notices.records.length + 4 ≤ 32) ∧
    (∃ (s : State), OpenLaw s ∧ ShelfLaw s ∧ TestLaw s ∧ s.held = none ∧ s.ilc.state = .sagQualify ∧ s.ilc.lastR ≠
      0) ∧
    (∃ (s : State) (j : Fin 3) (value : Nat) (k : Nat), OpenLaw s ∧ ShelfLaw s ∧ TestLaw s ∧ Ready s ∧
      s.store.saving = none ∧ s.ilc.state = .rideThrough ∧ k = reachedStage (paramPut s.params (9 + j.val) (min
      65535 value)) s.ilc.lastTEst ∧ k ≤ s.ilc.stage) ∧
    (∃ (s : State) (j : Fin 3) (value : Nat) (k : Nat), OpenLaw s ∧ ShelfLaw s ∧ TestLaw s ∧ Ready s ∧
      s.store.saving = none ∧ s.ilc.state = .rideThrough ∧ k = reachedStage (paramPut s.params (9 + j.val) (min
      65535 value)) s.ilc.lastTEst ∧ s.ilc.stage < k ∧ s.notices.records.length + 2 ≤ 32) :=
  ⟨⟨sample, by decide +kernel⟩,
   ⟨sample (ilc := shelf .sagQualify), by decide +kernel⟩,
   ⟨sample (ilc := shelf .sagQualify (lastR := 1)), by decide +kernel⟩,
   ⟨sample (ilc := shelf .rideThrough), 0, 65535, 0, by decide +kernel⟩,
   ⟨sample (ilc := shelf .rideThrough (stage := 1) (lastR := 1) (lastTEst := 100)), 1, 65535, 2, by decide +kernel⟩⟩

/-- States and operands that meet the hypotheses of `RunUp`, clause by clause. -/
theorem test_hypotheses_RunUp :
    (∃ (s : State) (scope : List Byte) (l : List TrayId), Ready s ∧ TrayLaw s ∧ DeficitLaw s ∧ l = (allTrays.filter
      fun i => bytesSelect scope s i && joins s.trays[i]) ∧ (scope = [] ∨ (scope.head? = some 0 ∧ scope.length ≠ 1)
      ∨ (scope.head? = some 1 ∧ scope.length ≠ 3) ∨ (scope.head? = some 2 ∧ (scope.length < 2 ∨ 24 < (scope.getD 1
      0).toNat ∨ scope.length ≠ 2 + (scope.getD 1 0).toNat)))) ∧
    (∃ (s : State) (scope : List Byte) (l : List TrayId), Ready s ∧ TrayLaw s ∧ DeficitLaw s ∧ l = (allTrays.filter
      fun i => bytesSelect scope s i && joins s.trays[i]) ∧ (2 < (scope.headD 0).toNat ∨ (scope.head? = some 1 ∧
      scope.length = 3 ∧ ∃ rank ∈ scope.tail, 15 < rank.toNat) ∨ (scope.head? = some 2 ∧ (scope.getD 1 0).toNat ≤
      24 ∧ scope.length = 2 + (scope.getD 1 0).toNat ∧ ∃ tray ∈ scope.drop 2, 23 < tray.toNat))) ∧
    (∃ (s : State) (scope : List Byte) (l : List TrayId), Ready s ∧ TrayLaw s ∧ DeficitLaw s ∧ l = (allTrays.filter
      fun i => bytesSelect scope s i && joins s.trays[i]) ∧ (scopeFault scope = none ∧ scope.head? = some 1)) ∧
    (∃ (s : State) (scope : List Byte) (l : List TrayId), Ready s ∧ TrayLaw s ∧ DeficitLaw s ∧ l = (allTrays.filter
      fun i => bytesSelect scope s i && joins s.trays[i]) ∧ (scopeFault scope).isSome = true) ∧
    (∃ (s : State) (scope : List Byte) (l : List TrayId), Ready s ∧ TrayLaw s ∧ DeficitLaw s ∧ l = (allTrays.filter
      fun i => bytesSelect scope s i && joins s.trays[i]) ∧ scopeFault scope = none ∧ s.ilc.state ≠ .normal) ∧
    (∃ (s : State) (scope : List Byte) (l : List TrayId), Ready s ∧ TrayLaw s ∧ DeficitLaw s ∧ l = (allTrays.filter
      fun i => bytesSelect scope s i && joins s.trays[i]) ∧ scopeFault scope = none ∧ s.ilc.state = .normal ∧
      ((s.run.state ≠ .idle ∧ s.run.direction = .down) ∨ s.run.state = .suspended)) ∧
    (∃ (s : State) (scope : List Byte) (l : List TrayId), Ready s ∧ TrayLaw s ∧ DeficitLaw s ∧ l = (allTrays.filter
      fun i => bytesSelect scope s i && joins s.trays[i]) ∧ scopeFault scope = none ∧ s.ilc.state = .normal ∧
      s.run.state = .idle ∧ l = []) ∧
    (∃ (s : State) (scope : List Byte) (i : TrayId) (l : List TrayId), Ready s ∧ TrayLaw s ∧ DeficitLaw s ∧ l =
      (allTrays.filter fun i => bytesSelect scope s i && joins s.trays[i]) ∧ scopeFault scope = none ∧ s.ilc.state
      = .normal ∧ (s.run.state = .idle ∨ (s.run.state = .running ∧ s.run.direction = .up)) ∧ i ∈ l) ∧
    (∃ (s : State) (scope : List Byte) (i : TrayId) (l : List TrayId), Ready s ∧ TrayLaw s ∧ DeficitLaw s ∧ l =
      (allTrays.filter fun i => bytesSelect scope s i && joins s.trays[i]) ∧ scopeFault scope = none ∧ s.ilc.state
      = .normal ∧ (s.run.state = .idle ∨ (s.run.state = .running ∧ s.run.direction = .up)) ∧ i ∉ l ∧
      s.trays[i].state ≠ .queued) ∧
    (∃ (s : State) (scope : List Byte) (l : List TrayId), Ready s ∧ TrayLaw s ∧ DeficitLaw s ∧ l = (allTrays.filter
      fun i => bytesSelect scope s i && joins s.trays[i]) ∧ scopeFault scope = none ∧ s.ilc.state = .normal ∧
      (s.run.state = .idle ∨ (s.run.state = .running ∧ s.run.direction = .up)) ∧ OrderLaw s) :=
  ⟨⟨sample, [], [], by decide +kernel⟩,
   ⟨sample, [3], [], by decide +kernel⟩,
   ⟨sample, [1, 1, 0], [], by decide +kernel⟩,
   ⟨sample, [3], [], by decide +kernel⟩,
   ⟨sample (ilc := shelf .sagQualify), [0], [], by decide +kernel⟩,
   ⟨sample (run := upRun .suspended), [0], [], by decide +kernel⟩,
   ⟨sample, [0], [], by decide +kernel⟩,
   ⟨sample (trays := rack) (c := 48000), [0], 17, [17], by decide +kernel⟩,
   ⟨sample, [0], 0, [], by decide +kernel⟩,
   ⟨sample, [0], [], by decide +kernel⟩⟩

/-- States and operands that meet the hypotheses of `RunDown`, clause by clause. -/
theorem test_hypotheses_RunDown :
    (∃ (s : State) (scope : List Byte) (l : List TrayId), Ready s ∧ TrayLaw s ∧ OpenLaw s ∧ DeficitLaw s ∧ l =
      (allTrays.filter fun i => bytesSelect scope s i && stops s.trays[i]) ∧ (scope = [] ∨ (scope.head? = some 0 ∧
      scope.length ≠ 1) ∨ (scope.head? = some 1 ∧ scope.length ≠ 3) ∨ (scope.head? = some 2 ∧ (scope.length < 2 ∨
      24 < (scope.getD 1 0).toNat ∨ scope.length ≠ 2 + (scope.getD 1 0).toNat)))) ∧
    (∃ (s : State) (scope : List Byte) (l : List TrayId), Ready s ∧ TrayLaw s ∧ OpenLaw s ∧ DeficitLaw s ∧ l =
      (allTrays.filter fun i => bytesSelect scope s i && stops s.trays[i]) ∧ (2 < (scope.headD 0).toNat ∨
      (scope.head? = some 1 ∧ scope.length = 3 ∧ ∃ rank ∈ scope.tail, 15 < rank.toNat) ∨ (scope.head? = some 2 ∧
      (scope.getD 1 0).toNat ≤ 24 ∧ scope.length = 2 + (scope.getD 1 0).toNat ∧ ∃ tray ∈ scope.drop 2, 23 <
      tray.toNat))) ∧
    (∃ (s : State) (scope : List Byte) (l : List TrayId), Ready s ∧ TrayLaw s ∧ OpenLaw s ∧ DeficitLaw s ∧ l =
      (allTrays.filter fun i => bytesSelect scope s i && stops s.trays[i]) ∧ (scopeFault scope).isSome = true) ∧
    (∃ (s : State) (scope : List Byte) (l : List TrayId), Ready s ∧ TrayLaw s ∧ OpenLaw s ∧ DeficitLaw s ∧ l =
      (allTrays.filter fun i => bytesSelect scope s i && stops s.trays[i]) ∧ scopeFault scope = none ∧
      s.run.direction = .down ∧ s.run.state = .suspended) ∧
    (∃ (s : State) (scope : List Byte) (i : TrayId) (l : List TrayId), Ready s ∧ TrayLaw s ∧ OpenLaw s ∧ DeficitLaw
      s ∧ l = (allTrays.filter fun i => bytesSelect scope s i && stops s.trays[i]) ∧ scopeFault scope = none ∧
      s.run.direction = .down ∧ s.run.state = .running ∧ i ∉ l ∧ i ∉ s.run.stopQueue) ∧
    (∃ (s : State) (scope : List Byte) (l : List TrayId), Ready s ∧ TrayLaw s ∧ OpenLaw s ∧ DeficitLaw s ∧ l =
      (allTrays.filter fun i => bytesSelect scope s i && stops s.trays[i]) ∧ scopeFault scope = none ∧
      s.run.direction = .down ∧ s.run.state = .running ∧ s.run.stopSpacing ≠ none ∧ OrderLaw s) ∧
    (∃ (s : State) (scope : List Byte) (i : TrayId) (l : List TrayId), Ready s ∧ TrayLaw s ∧ OpenLaw s ∧ DeficitLaw
      s ∧ l = (allTrays.filter fun i => bytesSelect scope s i && stops s.trays[i]) ∧ scopeFault scope = none ∧
      (s.run.direction = .up ∨ s.run.state = .idle) ∧ s.trays[i].state = .queued) ∧
    (∃ (s : State) (scope : List Byte) (i : TrayId) (l : List TrayId), Ready s ∧ TrayLaw s ∧ OpenLaw s ∧ DeficitLaw
      s ∧ l = (allTrays.filter fun i => bytesSelect scope s i && stops s.trays[i]) ∧ scopeFault scope = none ∧
      (s.run.direction = .up ∨ s.run.state = .idle) ∧ i ∉ l ∧ s.trays[i].state ≠ .queued) ∧
    (∃ (s : State) (scope : List Byte) (l : List TrayId), Ready s ∧ TrayLaw s ∧ OpenLaw s ∧ DeficitLaw s ∧ l =
      (allTrays.filter fun i => bytesSelect scope s i && stops s.trays[i]) ∧ scopeFault scope = none ∧
      (s.run.direction = .up ∨ s.run.state = .idle) ∧ l = []) ∧
    (∃ (s : State) (scope : List Byte) (i : TrayId) (l : List TrayId), Ready s ∧ TrayLaw s ∧ OpenLaw s ∧ DeficitLaw
      s ∧ l = (allTrays.filter fun i => bytesSelect scope s i && stops s.trays[i]) ∧ scopeFault scope = none ∧
      (s.run.direction = .up ∨ s.run.state = .idle) ∧ l ≠ [] ∧ s.run.stopSpacing ≠ none ∧ s.trays[i].state ≠
      .queued) ∧
    (∃ (s : State) (scope : List Byte) (i : TrayId) (l : List TrayId), Ready s ∧ TrayLaw s ∧ OpenLaw s ∧ DeficitLaw
      s ∧ l = (allTrays.filter fun i => bytesSelect scope s i && stops s.trays[i]) ∧ scopeFault scope = none ∧
      (s.run.direction = .up ∨ s.run.state = .idle) ∧ s.run.stopSpacing = none ∧ i ∈ l ∧ (∀ j ∈ l,
      s.trays[j].cfg.rank < s.trays[i].cfg.rank ∨ (s.trays[j].cfg.rank = s.trays[i].cfg.rank ∧ j ≤ i))) :=
  ⟨⟨sample, [], [], by decide +kernel⟩,
   ⟨sample, [3], [], by decide +kernel⟩,
   ⟨sample, [3], [], by decide +kernel⟩,
   ⟨sample (run := downRun .suspended), [0], [], by decide +kernel⟩,
   ⟨sample (trays := rack) (run := downRun .running [4] (some 9)) (ilc := shelf .sagQualify), [0], 0, [2, 3, 4, 11,
     14], by decide +kernel⟩,
   ⟨sample (trays := rack) (run := downRun .running [4] (some 9)) (ilc := shelf .sagQualify), [0], [2, 3, 4, 11,
     14], by decide +kernel⟩,
   ⟨sample (trays := waiting :: rack) (run := upRun .suspended [1] [1]) (ilc := shelf .sagQualify), [0], 1, [2, 3,
     4, 11, 14], by decide +kernel⟩,
   ⟨sample, [0], 0, [], by decide +kernel⟩,
   ⟨sample, [0], [], by decide +kernel⟩,
   ⟨sample (trays := rack) (run := downRun .idle [] (some 9)) (ilc := shelf .sagQualify), [0], 0, [2, 3, 4, 11,
     14], by decide +kernel⟩,
   ⟨sample (trays := rack) (ilc := shelf .sagQualify), [0], 14, [2, 3, 4, 11, 14], by decide +kernel⟩⟩

/-- States and operands that meet the hypotheses of `RunControl`, clause by clause. -/
theorem test_hypotheses_RunControl :
    (∃ (s : State), Ready s ∧ TrayLaw s ∧ s.run.state ≠ .running) ∧
    (∃ (s : State), Ready s ∧ TrayLaw s ∧ s.run.state = .running) ∧
    (∃ (s : State), Ready s ∧ TrayLaw s ∧ s.run.state ≠ .suspended) ∧
    (∃ (s : State), Ready s ∧ TrayLaw s ∧ s.run.state = .suspended ∧ s.run.direction = .down ∧ s.run.stopQueue ≠ []
      ∧ s.run.stopSpacing ≠ none) ∧
    (∃ (s : State), Ready s ∧ TrayLaw s ∧ s.run.state = .suspended ∧ s.run.direction = .down ∧ s.run.stopQueue =
      []) ∧
    (∃ (s : State), Ready s ∧ TrayLaw s ∧ s.run.state = .suspended ∧ s.run.direction = .up ∧ s.ilc.state ≠ .normal
      ∧ s.run.startQueue ≠ []) ∧
    (∃ (s : State), Ready s ∧ TrayLaw s ∧ s.run.state = .suspended ∧ s.run.direction = .up ∧ s.ilc.state = .normal
      ∧ s.run.startQueue ≠ [] ∧ s.run.startSpacing ≠ none) ∧
    (∃ (s : State), Ready s ∧ TrayLaw s ∧ s.run.state = .idle) ∧
    (∃ (s : State), Ready s ∧ TrayLaw s ∧ s.run.state ≠ .idle ∧ s.run.direction = .down) ∧
    (∃ (s : State), Ready s ∧ TrayLaw s ∧ s.run.state ≠ .idle ∧ s.run.direction = .up) :=
  ⟨⟨sample, by decide +kernel⟩,
   ⟨sample (trays := rack) (run := upRun .running [] [2] (some 9)), by decide +kernel⟩,
   ⟨sample, by decide +kernel⟩,
   ⟨sample (trays := rack) (run := downRun .suspended [4] (some 9)), by decide +kernel⟩,
   ⟨sample (run := downRun .suspended), by decide +kernel⟩,
   ⟨sample (trays := waiting :: rack) (run := upRun .suspended [1] [1]) (ilc := shelf .sagQualify),
     by decide +kernel⟩,
   ⟨sample (trays := waiting :: rack) (run := upRun .suspended [1] [1] (some 9)), by decide +kernel⟩,
   ⟨sample, by decide +kernel⟩,
   ⟨sample (run := downRun .suspended), by decide +kernel⟩,
   ⟨sample (run := upRun .suspended), by decide +kernel⟩⟩

/-- States and operands that meet the hypotheses of `StartRule`, clause by clause. -/
theorem test_hypotheses_StartRule :
    (∃ (s : State), s.held = none ∧ TrayLaw s ∧ OpenLaw s ∧ s.run.startSpacing = none) ∧
    (∃ (s : State), s.held = none ∧ TrayLaw s ∧ OpenLaw s ∧ s.run.startSpacing ≠ none ∧ (s.run.direction = .down ∨
      s.run.state ≠ .running)) ∧
    (∃ (s : State), s.held = none ∧ TrayLaw s ∧ OpenLaw s ∧ s.run.startSpacing ≠ none ∧ s.run.direction = .up ∧
      s.run.state = .running ∧ s.run.startQueue = []) ∧
    (∃ (s : State) (h : TrayId) (rest : List TrayId), s.held = none ∧ TrayLaw s ∧ OpenLaw s ∧ s.run.startSpacing ≠
      none ∧ s.run.direction = .up ∧ s.run.state = .running ∧ s.run.startQueue = h :: rest ∧ s.params.slots ≤
      s.inrushCount) ∧
    (∃ (s : State) (h : TrayId) (rest : List TrayId), s.held = none ∧ TrayLaw s ∧ OpenLaw s ∧ s.run.startSpacing ≠
      none ∧ s.run.direction = .up ∧ s.run.state = .running ∧ s.run.startQueue = h :: rest ∧ s.inrushCount <
      s.params.slots ∧ (∃ i : TrayId, s.trays[i].state = .inrush ∧ s.trays[i].cfg.rank < s.trays[h].cfg.rank)) ∧
    (∃ (s : State) (h : TrayId) (rest : List TrayId), s.held = none ∧ TrayLaw s ∧ OpenLaw s ∧ s.run.startSpacing ≠
      none ∧ s.run.direction = .up ∧ s.run.state = .running ∧ s.run.startQueue = h :: rest ∧ s.inrushCount <
      s.params.slots ∧ (∀ i : TrayId, s.trays[i].state = .inrush → s.trays[h].cfg.rank ≤ s.trays[i].cfg.rank) ∧
      s.ilc.state ≠ .normal) ∧
    (∃ (s : State) (h : TrayId) (rest : List TrayId), s.held = none ∧ TrayLaw s ∧ OpenLaw s ∧ s.run.startSpacing ≠
      none ∧ s.run.direction = .up ∧ s.run.state = .running ∧ s.run.startQueue = h :: rest ∧ s.inrushCount <
      s.params.slots ∧ (∀ i : TrayId, s.trays[i].state = .inrush → s.trays[h].cfg.rank ≤ s.trays[i].cfg.rank) ∧
      s.ilc.state = .normal ∧ s.budget.c < s.kT + s.trays[h].cfg.alloc + s.trays[h].cfg.surge + s.params.margin +
      s.budget.floorEff) ∧
    (∃ (s : State) (h : TrayId) (rest : List TrayId), s.held = none ∧ TrayLaw s ∧ OpenLaw s ∧ s.run.startSpacing ≠
      none ∧ s.run.direction = .up ∧ s.run.state = .running ∧ s.run.startQueue = h :: rest ∧ s.inrushCount <
      s.params.slots ∧ (∀ i : TrayId, s.trays[i].state = .inrush → s.trays[h].cfg.rank ≤ s.trays[i].cfg.rank) ∧
      s.ilc.state = .normal ∧ s.kT + s.trays[h].cfg.alloc + s.trays[h].cfg.surge + s.params.margin +
      s.budget.floorEff ≤ s.budget.c ∧ s.params.readyMin ≠ 0 ∧ s.tProj s.trays[h].cfg.alloc < s.params.readyMin) ∧
    (∃ (s : State) (h : TrayId) (rest : List TrayId), s.held = none ∧ TrayLaw s ∧ OpenLaw s ∧ s.run.startSpacing ≠
      none ∧ s.run.direction = .up ∧ s.run.state = .running ∧ s.run.startQueue = h :: rest ∧ s.inrushCount <
      s.params.slots ∧ (∀ i : TrayId, s.trays[i].state = .inrush → s.trays[h].cfg.rank ≤ s.trays[i].cfg.rank) ∧
      s.ilc.state = .normal ∧ s.kT + s.trays[h].cfg.alloc + s.trays[h].cfg.surge + s.params.margin +
      s.budget.floorEff ≤ s.budget.c ∧ (s.params.readyMin = 0 ∨ s.params.readyMin ≤ s.tProj s.trays[h].cfg.alloc) ∧
      s.pins.pg[h] = false ∧ s.params.startSpacing ≠ 0) :=
  ⟨⟨sample, by decide +kernel⟩,
   ⟨sample (trays := waiting :: rack) (run := upRun .suspended [1] [1] (some 9)), by decide +kernel⟩,
   ⟨sample (trays := rack) (run := upRun .running [] [2] (some 9)), by decide +kernel⟩,
   ⟨sample (trays := waiting :: rack) (run := upRun .running [1] [1] (some 9)), 1, [], by decide +kernel⟩,
   ⟨sample (trays := lowInrush :: waiting :: quiet) (run := upRun .running [1] [1] (some 9)), 1, [],
     by decide +kernel⟩,
   ⟨sample (trays := waiting :: quiet) (run := upRun .running [1] [1] (some 9)) (ilc := shelf .sagQualify), 1, [],
     by decide +kernel⟩,
   ⟨sample (trays := waiting :: quiet) (run := upRun .running [1] [1] (some 9)), 1, [], by decide +kernel⟩,
   ⟨sample (trays := waiting :: quiet) (run := upRun .running [1] [1] (some 9)) (c := 48000) (params :=
     { State.reset.params with slots := 4, readyMin := 60 }), 1, [], by decide +kernel⟩,
   ⟨sample (trays := waiting :: quiet) (run := upRun .running [1] [1] (some 9)) (c := 48000), 1, [],
     by decide +kernel⟩⟩

/-- States and operands that meet the hypotheses of `StopRuleAndAutoStart`, clause by clause. -/
theorem test_hypotheses_StopRuleAndAutoStart :
    (∃ (s : State), s.held = none ∧ TrayLaw s ∧ DeficitLaw s ∧ s.run.stopSpacing = none) ∧
    (∃ (s : State), s.held = none ∧ TrayLaw s ∧ DeficitLaw s ∧ s.run.stopSpacing ≠ none ∧ (s.run.direction = .up ∨
      s.run.state ≠ .running)) ∧
    (∃ (s : State) (h : TrayId) (rest : List TrayId), s.held = none ∧ TrayLaw s ∧ DeficitLaw s ∧ s.run.stopSpacing
      ≠ none ∧ s.run.direction = .down ∧ s.run.state = .running ∧ s.run.stopQueue = h :: rest ∧
      s.params.stopSpacing ≠ 0 ∧ rest ≠ []) ∧
    (∃ (s : State) (h : TrayId) (rest : List TrayId), s.held = none ∧ TrayLaw s ∧ DeficitLaw s ∧ s.run.stopSpacing
      ≠ none ∧ s.run.direction = .down ∧ s.run.state = .running ∧ s.run.stopQueue = h :: rest ∧
      s.params.stopSpacing ≠ 0 ∧ rest = []) ∧
    (∃ (s : State) (h : TrayId) (rest : List TrayId), s.held = none ∧ TrayLaw s ∧ DeficitLaw s ∧ s.run.stopSpacing
      ≠ none ∧ s.run.direction = .down ∧ s.run.state = .running ∧ s.run.stopQueue = h :: rest ∧
      s.params.stopSpacing = 0) ∧
    (∃ (s : State), s.held = none ∧ TrayLaw s ∧ DeficitLaw s ∧ (s.store.autoPending = false ∨ s.mbc.rosterReady =
      false ∨ s.ilc.state ≠ .normal ∨ s.run.state ≠ .idle ∨ (∃ c : ChannelId, s.channels[c].cfg.enabled = true ∧
      s.channels[c].samples < s.channels[c].cfg.nC))) ∧
    (∃ (s : State), s.held = none ∧ TrayLaw s ∧ DeficitLaw s ∧ s.store.autoPending = true ∧ s.mbc.rosterReady =
      true ∧ s.ilc.state = .normal ∧ s.run.state = .idle ∧ (∀ c : ChannelId, s.channels[c].cfg.enabled = true →
      s.channels[c].cfg.nC ≤ s.channels[c].samples)) :=
  ⟨⟨sample, by decide +kernel⟩,
   ⟨sample (run := downRun .idle [] (some 9)), by decide +kernel⟩,
   ⟨sample (trays := rack) (run := downRun .running [11, 4] (some 9)) (c := 48000), 11, [4], by decide +kernel⟩,
   ⟨sample (trays := rack) (run := downRun .running [4] (some 9)) (c := 48000), 4, [], by decide +kernel⟩,
   ⟨sample (trays := rack) (run := downRun .running [4] (some 9)) (c := 48000) (params :=
     { State.reset.params with stopSpacing := 0 }), 4, [], by decide +kernel⟩,
   ⟨sample, by decide +kernel⟩,
   ⟨sample (store := kept (autoPending := true)), by decide +kernel⟩⟩

/-- States and operands that meet the hypotheses of `ScanPass`, clause by clause. -/
theorem test_hypotheses_ScanPass :
    (∃ (s : State) (readings : Vector CableReading 12) (c : ChannelId) (cls : SampleClass) (t : State), after (exec
      (.scanPass readings) s) = some t ∧ s.held = none ∧ LeakLaw s ∧ ValveLaw s ∧ cls = sampleClass readings[c] ∧
      (∀ l : LoopId, t.loops[l].escalated = s.loops[l].escalated)) ∧
    (∃ (s : State) (readings : Vector CableReading 12) (c : ChannelId) (cls : SampleClass), s.held = none ∧ LeakLaw
      s ∧ ValveLaw s ∧ cls = sampleClass readings[c] ∧ s.channels[c].cfg.enabled = false) ∧
    (∃ (s : State) (readings : Vector CableReading 12) (c : ChannelId) (cls : SampleClass), s.held = none ∧ LeakLaw
      s ∧ ValveLaw s ∧ cls = sampleClass readings[c] ∧ s.channels[c].cfg.enabled = true ∧ s.channels[c].state =
      .alarm) ∧
    (∃ (s : State) (readings : Vector CableReading 12) (c : ChannelId) (cls : SampleClass), s.held = none ∧ LeakLaw
      s ∧ ValveLaw s ∧ cls = sampleClass readings[c] ∧ s.channels[c].cfg.enabled = true ∧ (s.channels[c].state =
      .dry ∨ s.channels[c].state = .suspect)) ∧
    (∃ (s : State) (readings : Vector CableReading 12) (c : ChannelId) (cls : SampleClass), s.held = none ∧ LeakLaw
      s ∧ ValveLaw s ∧ cls = sampleClass readings[c] ∧ s.channels[c].cfg.enabled = true ∧ s.channels[c].state =
      .cableFault) ∧
    (∃ (s : State) (readings : Vector CableReading 12) (c : ChannelId) (cls : SampleClass) (t : State), after (exec
      (.scanPass readings) s) = some t ∧ s.held = none ∧ LeakLaw s ∧ ValveLaw s ∧ cls = sampleClass readings[c] ∧
      s.channels[c].cfg.enabled = true ∧ t.channels[c].state = .alarm ∧ s.channels[c].cfg.isolate = true ∧ 17 ∈
      s.channels[c].cfg.trays) ∧
    (∃ (s : State) (readings : Vector CableReading 12) (c : ChannelId) (cls : SampleClass) (t : State), after (exec
      (.scanPass readings) s) = some t ∧ s.held = none ∧ LeakLaw s ∧ ValveLaw s ∧ cls = sampleClass readings[c] ∧
      s.channels[c].cfg.enabled = true ∧ t.channels[c].state = .alarm ∧ s.channels[c].cfg.closeValve = true) ∧
    (∃ (s : State) (readings : Vector CableReading 12) (c : ChannelId) (cls : SampleClass) (t : State), after (exec
      (.scanPass readings) s) = some t ∧ s.held = none ∧ LeakLaw s ∧ ValveLaw s ∧ cls = sampleClass readings[c] ∧
      s.channels[c].cfg.enabled = true ∧ (∀ d : ChannelId, d ≠ c → s.channels[d].cfg.enabled = false) ∧
      s.channels[c].state ≠ .alarm ∧ t.channels[c].state = .alarm) ∧
    (∃ (s : State) (readings : Vector CableReading 12) (c : ChannelId) (cls : SampleClass) (t : State), after (exec
      (.scanPass readings) s) = some t ∧ s.held = none ∧ LeakLaw s ∧ ValveLaw s ∧ cls = sampleClass readings[c] ∧
      s.channels[c].cfg.enabled = true ∧ (∀ d : ChannelId, d ≠ c → s.channels[d].cfg.enabled = false) ∧
      s.channels[c].state ≠ .cableFault ∧ t.channels[c].state = .cableFault) ∧
    (∃ (s : State) (readings : Vector CableReading 12) (c : ChannelId) (cls : SampleClass) (t : State), after (exec
      (.scanPass readings) s) = some t ∧ s.held = none ∧ LeakLaw s ∧ ValveLaw s ∧ cls = sampleClass readings[c] ∧
      s.channels[c].cfg.enabled = true ∧ (∀ d : ChannelId, d ≠ c → s.channels[d].cfg.enabled = false) ∧
      s.channels[c].cableFlag = false ∧ t.channels[c].cableFlag = true) :=
  ⟨⟨sample, (Vector.replicate 12 ⟨true, true⟩), 0, .wet, ((after (exec (.scanPass (Vector.replicate 12 ⟨true,
     true⟩)) (sample))).getD (sample)), by decide +kernel⟩,
   ⟨sample, (Vector.replicate 12 ⟨true, true⟩), 0, .wet, by decide +kernel⟩,
   ⟨sample (channels := [(0, cable .alarm)]), (Vector.replicate 12 ⟨true, true⟩), 0, .wet, by decide +kernel⟩,
   ⟨sample (channels := [(0, cable .dry)]), (Vector.replicate 12 ⟨true, true⟩), 0, .wet, by decide +kernel⟩,
   ⟨sample (channels := [(0, cable .cableFault)]), (Vector.replicate 12 ⟨true, true⟩), 0, .wet, by decide +kernel⟩,
   ⟨sample (channels := [(0, cable .dry (isolate := true))]), (Vector.replicate 12 ⟨true, true⟩), 0, .wet, ((after
     (exec (.scanPass (Vector.replicate 12 ⟨true, true⟩)) (sample (channels := [(0, cable .dry (isolate :=
     true))])))).getD (sample (channels := [(0, cable .dry (isolate := true))]))), by decide +kernel⟩,
   ⟨sample (channels := [(0, cable .alarm (closeValve := true))]) (loops := [(0, valveIn .closed true)]),
     (Vector.replicate 12 ⟨true, true⟩), 0, .wet, ((after (exec (.scanPass (Vector.replicate 12 ⟨true, true⟩))
     (sample (channels := [(0, cable .alarm (closeValve := true))]) (loops := [(0, valveIn .closed true)])))).getD
     (sample (channels := [(0, cable .alarm (closeValve := true))]) (loops := [(0, valveIn .closed true)]))),
     by decide +kernel⟩,
   ⟨sample (channels := [(0, cable .dry)]), (Vector.replicate 12 ⟨true, true⟩), 0, .wet, ((after (exec (.scanPass
     (Vector.replicate 12 ⟨true, true⟩)) (sample (channels := [(0, cable .dry)])))).getD (sample (channels := [(0,
     cable .dry)]))), by decide +kernel⟩,
   ⟨sample (channels := [(0, cable .dry)]), (Vector.replicate 12 ⟨false, false⟩), 0, .opened, ((after (exec
     (.scanPass (Vector.replicate 12 ⟨false, false⟩)) (sample (channels := [(0, cable .dry)])))).getD (sample
     (channels := [(0, cable .dry)]))), by decide +kernel⟩,
   ⟨sample (channels := [(0, cable .alarm)]), (Vector.replicate 12 ⟨false, false⟩), 0, .opened, ((after (exec
     (.scanPass (Vector.replicate 12 ⟨false, false⟩)) (sample (channels := [(0, cable .alarm)])))).getD (sample
     (channels := [(0, cable .alarm)]))), by decide +kernel⟩⟩

/-- States and operands that meet the hypotheses of `LeakRequests`, clause by clause. -/
theorem test_hypotheses_LeakRequests :
    (∃ (s : State) (n : Nat), Ready s ∧ LeakLaw s ∧ TrayLaw s ∧ OpenLaw s ∧ 12 ≤ n) ∧
    (∃ (s : State) (c : ChannelId), Ready s ∧ LeakLaw s ∧ TrayLaw s ∧ OpenLaw s ∧ s.hli.arm ≠ some (.leakRelease
      c.val)) ∧
    (∃ (s : State) (c : ChannelId), Ready s ∧ LeakLaw s ∧ TrayLaw s ∧ OpenLaw s ∧ s.hli.arm = some (.leakRelease
      c.val) ∧ (s.channels[c].state ≠ .alarm ∨ s.channels[c].dryStreak < s.channels[c].cfg.nC)) ∧
    (∃ (s : State) (c : ChannelId) (l : LoopId), Ready s ∧ LeakLaw s ∧ TrayLaw s ∧ OpenLaw s ∧ s.hli.arm = some
      (.leakRelease c.val) ∧ s.channels[c].state = .alarm ∧ s.channels[c].cfg.nC ≤ s.channels[c].dryStreak ∧
      s.channels[c].cfg.loop = l) ∧
    (∃ (s : State) (g : RawChannelConfig), Ready s ∧ LeakLaw s ∧ TrayLaw s ∧ OpenLaw s ∧ (g.count ≠ g.trays.length
      ∨ 24 < g.count)) ∧
    (∃ (s : State) (g : RawChannelConfig), Ready s ∧ LeakLaw s ∧ TrayLaw s ∧ OpenLaw s ∧ g.count = g.trays.length ∧
      g.count ≤ 24 ∧ (11 < g.channel ∨ 3 < g.loop ∨ (∃ i ∈ g.trays, 23 < i))) ∧
    (∃ (s : State) (c : ChannelId) (l : LoopId) (g : RawChannelConfig), Ready s ∧ LeakLaw s ∧ TrayLaw s ∧ OpenLaw s
      ∧ g.count = g.trays.length ∧ g.count ≤ 24 ∧ g.channel = c.val ∧ g.loop = l.val ∧ (∀ i ∈ g.trays, i ≤ 23) ∧
      s.store.saving ≠ none) ∧
    (∃ (s : State) (c : ChannelId) (l : LoopId) (g : RawChannelConfig), Ready s ∧ LeakLaw s ∧ TrayLaw s ∧ OpenLaw s
      ∧ g.count = g.trays.length ∧ g.count ≤ 24 ∧ g.channel = c.val ∧ g.loop = l.val ∧ (∀ i ∈ g.trays, i ≤ 23) ∧
      s.store.saving = none ∧ s.channels[c].state = .alarm) ∧
    (∃ (s : State) (c : ChannelId) (l : LoopId) (g : RawChannelConfig), Ready s ∧ LeakLaw s ∧ TrayLaw s ∧ OpenLaw s
      ∧ g.count = g.trays.length ∧ g.count ≤ 24 ∧ g.channel = c.val ∧ g.loop = l.val ∧ (∀ i ∈ g.trays, i ≤ 23) ∧
      s.store.saving = none ∧ s.channels[c].state ≠ .alarm ∧ g.enabled = 0) ∧
    (∃ (s : State) (c : ChannelId) (l : LoopId) (g : RawChannelConfig), Ready s ∧ LeakLaw s ∧ TrayLaw s ∧ OpenLaw s
      ∧ g.count = g.trays.length ∧ g.count ≤ 24 ∧ g.channel = c.val ∧ g.loop = l.val ∧ (∀ i ∈ g.trays, i ≤ 23) ∧
      s.store.saving = none ∧ s.channels[c].state ≠ .alarm ∧ g.enabled ≠ 0) :=
  ⟨⟨sample, 12, by decide +kernel⟩,
   ⟨sample, 0, by decide +kernel⟩,
   ⟨sample (hli := link (arm := some (.leakRelease 0))), 0, by decide +kernel⟩,
   ⟨sample (channels := [(0, cable .alarm)]) (hli := link (arm := some (.leakRelease 0))), 0, 0, by decide +kernel⟩,
   ⟨sample, ⟨0, 1, 0, 0, 0, 1, 1, 2, [23]⟩, by decide +kernel⟩,
   ⟨sample, ⟨0, 1, 4, 0, 0, 1, 1, 0, []⟩, by decide +kernel⟩,
   ⟨sample (store := kept (saving := some image)), 0, 0, ⟨0, 1, 0, 0, 0, 1, 1, 1, [23]⟩, by decide +kernel⟩,
   ⟨sample (channels := [(0, cable .alarm)]), 0, 0, ⟨0, 1, 0, 0, 0, 1, 1, 1, [23]⟩, by decide +kernel⟩,
   ⟨sample, 0, 0, ⟨0, 0, 0, 0, 0, 1, 1, 0, []⟩, by decide +kernel⟩,
   ⟨sample, 0, 0, ⟨0, 1, 0, 0, 0, 1, 1, 1, [23]⟩, by decide +kernel⟩⟩

/-- States and operands that meet the hypotheses of `Valves`, clause by clause. -/
theorem test_hypotheses_Valves :
    (∃ (s : State) (n : Nat), Ready s ∧ 4 ≤ n) ∧
    (∃ (s : State) (l : LoopId), Ready s ∧ (s.loops[l].escalated = true ∨ (∃ c : ChannelId, s.channels[c].state =
      .alarm ∧ s.channels[c].cfg.loop = l ∧ s.channels[c].cfg.closeValve = true))) ∧
    (∃ (s : State) (l : LoopId), Ready s ∧ s.loops[l].escalated = false ∧ (∀ c : ChannelId, ¬ (s.channels[c].state
      = .alarm ∧ s.channels[c].cfg.loop = l ∧ s.channels[c].cfg.closeValve = true)) ∧ (s.loops[l].valve = .opened ∨
      s.loops[l].valve = .opening)) ∧
    (∃ (s : State) (l : LoopId), Ready s ∧ s.loops[l].escalated = false ∧ (∀ c : ChannelId, ¬ (s.channels[c].state
      = .alarm ∧ s.channels[c].cfg.loop = l ∧ s.channels[c].cfg.closeValve = true)) ∧ (s.loops[l].valve = .closed ∨
      s.loops[l].valve = .closing ∨ s.loops[l].valve = .stuck)) ∧
    (∃ (s : State) (l : LoopId), Ready s ∧ (s.loops[l].valve = .closed ∨ s.loops[l].valve = .closing)) ∧
    (∃ (s : State) (l : LoopId), Ready s ∧ (s.loops[l].valve = .opened ∨ s.loops[l].valve = .opening ∨
      s.loops[l].valve = .stuck)) ∧
    (∃ (s : State) (l : LoopId), s.held = none ∧ s.loops[l].travel ≠ none ∧ (s.loops[l].valve = .closing ∨
      s.loops[l].valve = .opening)) ∧
    (∃ (s : State) (l : LoopId), s.held = none ∧ s.loops[l].travel = none) :=
  ⟨⟨sample, 4, by decide +kernel⟩,
   ⟨sample (loops := [(0, { valveIn .closed true with escalated := true })]), 0, by decide +kernel⟩,
   ⟨sample, 0, by decide +kernel⟩,
   ⟨sample (loops := [(0, valveIn .closed true)]), 0, by decide +kernel⟩,
   ⟨sample (loops := [(0, valveIn .closed true)]), 0, by decide +kernel⟩,
   ⟨sample, 0, by decide +kernel⟩,
   ⟨sample, 0, by decide +kernel⟩,
   ⟨sample (loops := [(0, valveIn .opened)]), 0, by decide +kernel⟩⟩

/-- States and operands that meet the hypotheses of `TestCommands`, clause by clause. -/
theorem test_hypotheses_TestCommands :
    (∃ (s : State) (n : Nat), TestLaw s ∧ Ready s ∧ 6 ≤ n) ∧
    (∃ (s : State) (b : BbuId), TestLaw s ∧ Ready s ∧ (s.testActive = true ∨ s.ilc.state ≠ .normal ∨
      s.bbus[b].inService = false ∨ (s.bbus[b].state ≠ .charging ∧ s.bbus[b].state ≠ .full))) ∧
    (∃ (s : State) (b : BbuId), TestLaw s ∧ Ready s ∧ s.testActive = false ∧ s.ilc.state = .normal ∧
      s.bbus[b].inService = true ∧ (s.bbus[b].state = .charging ∨ s.bbus[b].state = .full) ∧ s.params.readyMin ≠ 0
      ∧ lastingTime (s.reserve - s.usable b) s.lMeas < s.params.readyMin) ∧
    (∃ (s : State) (b : BbuId), TestLaw s ∧ Ready s ∧ s.testActive = false ∧ s.ilc.state = .normal ∧
      s.bbus[b].inService = true ∧ (s.params.readyMin = 0 ∨ s.params.readyMin ≤ lastingTime (s.reserve - s.usable
      b) s.lMeas) ∧ s.bbus[b].state = .charging) ∧
    (∃ (s : State) (b : BbuId), TestLaw s ∧ Ready s ∧ s.testActive = false ∧ s.ilc.state = .normal ∧
      s.bbus[b].inService = true ∧ (s.params.readyMin = 0 ∨ s.params.readyMin ≤ lastingTime (s.reserve - s.usable
      b) s.lMeas) ∧ s.bbus[b].state = .full) ∧
    (∃ (s : State), TestLaw s ∧ Ready s ∧ ((s.test.phase ≠ .prepare ∧ s.test.phase ≠ .discharge) ∨ s.test.suspended
      = true)) ∧
    (∃ (s : State) (b : BbuId) (left : Nat), TestLaw s ∧ Ready s ∧ s.test.phase = .prepare ∧ s.test.prepare =
      .running left ∧ s.test.suspended = false ∧ s.test.target = some b) ∧
    (∃ (s : State) (b : BbuId), TestLaw s ∧ Ready s ∧ s.test.phase = .discharge ∧ s.test.prepare = .stopped ∧
      s.test.suspended = false ∧ s.test.target = some b) ∧
    (∃ (s : State) (b : BbuId) (left : Nat), TestLaw s ∧ Ready s ∧ s.test.suspended = true ∧ s.test.target = some b
      ∧ s.test.phase = .prepare ∧ s.test.prepare = .paused left ∧ s.bbus[b].state ≠ .full) ∧
    (∃ (s : State) (b : BbuId) (left : Nat), TestLaw s ∧ Ready s ∧ s.test.suspended = true ∧ s.test.target = some b
      ∧ s.test.phase = .prepare ∧ s.test.prepare = .paused left ∧ s.bbus[b].state = .full) ∧
    (∃ (s : State) (b : BbuId), TestLaw s ∧ Ready s ∧ s.test.suspended = true ∧ s.test.target = some b ∧
      s.test.phase = .discharge ∧ s.test.prepare = .stopped) ∧
    (∃ (s : State) (b : BbuId), TestLaw s ∧ Ready s ∧ s.testActive = true ∧ s.test.target = some b) ∧
    (∃ (s : State) (b : BbuId) (left : Nat), TestLaw s ∧ s.held = none ∧ s.test.phase = .prepare ∧ s.test.prepare =
      .running left ∧ s.test.target = some b) ∧
    (∃ (s : State) (left : Nat), TestLaw s ∧ s.held = none ∧ (s.test.phase ≠ .prepare ∨ s.test.prepare = .stopped ∨
      s.test.prepare = .paused left)) :=
  ⟨⟨sample, 6, by decide +kernel⟩,
   ⟨sample, 0, by decide +kernel⟩,
   ⟨sample (bbus := [(0, unit .charging)]) (params := { State.reset.params with slots := 4, readyMin := 60 })
     (rects := [(0, source)]), 0, by decide +kernel⟩,
   ⟨sample (bbus := [(0, unit .charging)]), 0, by decide +kernel⟩,
   ⟨sample (bbus := [(0, unit .full)]), 0, by decide +kernel⟩,
   ⟨sample, by decide +kernel⟩,
   ⟨sample (test := testing .prepare (prepare := .running 5)), 0, 5, by decide +kernel⟩,
   ⟨sample (test := testing .discharge), 0, by decide +kernel⟩,
   ⟨sample (test := testing .prepare true (.paused 5)), 0, 5, by decide +kernel⟩,
   ⟨sample (test := testing .prepare true (.paused 5)) (bbus := [(0, unit .full)]), 0, 5, by decide +kernel⟩,
   ⟨sample (test := testing .discharge true), 0, by decide +kernel⟩,
   ⟨sample (test := testing .prepare (prepare := .running 5)), 0, by decide +kernel⟩,
   ⟨sample (test := testing .prepare (prepare := .running 5)), 0, 5, by decide +kernel⟩,
   ⟨sample, 5, by decide +kernel⟩⟩

/-- States and operands that meet the hypotheses of `TestArrivals`, clause by clause. -/
theorem test_hypotheses_TestArrivals :
    (∃ (s : State) (p : Poll) (b : BbuId) (b0 : Byte) (b1 : Byte) (b6 : Byte) (power : Int) (delta : Nat) (measured
      : Nat), s.held = none ∧ s.mbc.poll = some p ∧ p.slot = bbuSlotNo b ∧ s.isTarget b = true ∧ power = max
      (-6000) (min 6000 (s16 b0 b1)) ∧ (delta = (if s.bbus[b].seeded = false ∨ 500 < s.time -
      s.bbus[b].lastArrival.getD s.time then 0 else power.toNat * (s.time - s.bbus[b].lastArrival.getD s.time))) ∧
      measured = min 4000000000 (s.test.eMeas + delta) ∧ (b6 ≠ 0 ∨ p.inService = false)) ∧
    (∃ (s : State) (p : Poll) (b : BbuId) (b0 : Byte) (b1 : Byte) (b3 : Byte) (b6 : Byte) (power : Int) (delta :
      Nat) (measured : Nat), s.held = none ∧ s.mbc.poll = some p ∧ p.slot = bbuSlotNo b ∧ s.isTarget b = true ∧
      power = max (-6000) (min 6000 (s16 b0 b1)) ∧ (delta = (if s.bbus[b].seeded = false ∨ 500 < s.time -
      s.bbus[b].lastArrival.getD s.time then 0 else power.toNat * (s.time - s.bbus[b].lastArrival.getD s.time))) ∧
      measured = min 4000000000 (s.test.eMeas + delta) ∧ b6 = 0 ∧ p.inService = true ∧ s.test.phase = .prepare ∧ b3
      ≠ 0 ∧ power < 20 ∧ s.test.suspended = false) ∧
    (∃ (s : State) (p : Poll) (b : BbuId) (b0 : Byte) (b1 : Byte) (b3 : Byte) (b6 : Byte) (power : Int) (delta :
      Nat) (measured : Nat), s.held = none ∧ s.mbc.poll = some p ∧ p.slot = bbuSlotNo b ∧ s.isTarget b = true ∧
      power = max (-6000) (min 6000 (s16 b0 b1)) ∧ (delta = (if s.bbus[b].seeded = false ∨ 500 < s.time -
      s.bbus[b].lastArrival.getD s.time then 0 else power.toNat * (s.time - s.bbus[b].lastArrival.getD s.time))) ∧
      measured = min 4000000000 (s.test.eMeas + delta) ∧ b6 = 0 ∧ p.inService = true ∧ s.test.phase = .prepare ∧
      (b3 = 0 ∨ 20 ≤ power ∨ s.test.suspended = true)) ∧
    (∃ (s : State) (p : Poll) (b : BbuId) (b0 : Byte) (b1 : Byte) (b4 : Byte) (b6 : Byte) (power : Int) (delta :
      Nat) (measured : Nat), s.held = none ∧ s.mbc.poll = some p ∧ p.slot = bbuSlotNo b ∧ s.isTarget b = true ∧
      power = max (-6000) (min 6000 (s16 b0 b1)) ∧ (delta = (if s.bbus[b].seeded = false ∨ 500 < s.time -
      s.bbus[b].lastArrival.getD s.time then 0 else power.toNat * (s.time - s.bbus[b].lastArrival.getD s.time))) ∧
      measured = min 4000000000 (s.test.eMeas + delta) ∧ b6 = 0 ∧ p.inService = true ∧ s.test.phase = .discharge ∧
      b4 = 0) ∧
    (∃ (s : State) (p : Poll) (b : BbuId) (b0 : Byte) (b1 : Byte) (b4 : Byte) (b6 : Byte) (power : Int) (delta :
      Nat) (measured : Nat), s.held = none ∧ s.mbc.poll = some p ∧ p.slot = bbuSlotNo b ∧ s.isTarget b = true ∧
      power = max (-6000) (min 6000 (s16 b0 b1)) ∧ (delta = (if s.bbus[b].seeded = false ∨ 500 < s.time -
      s.bbus[b].lastArrival.getD s.time then 0 else power.toNat * (s.time - s.bbus[b].lastArrival.getD s.time))) ∧
      measured = min 4000000000 (s.test.eMeas + delta) ∧ b6 = 0 ∧ p.inService = true ∧ s.test.phase = .discharge ∧
      b4 ≠ 0 ∧ min 100 (measured / 1000 * 100 / s.bbus[b].eRated) < s.params.weakThreshold ∧
      s.notices.records.length + 4 ≤ 32) ∧
    (∃ (s : State) (p : Poll) (b : BbuId) (b0 : Byte) (b1 : Byte) (b3 : Byte) (b6 : Byte) (power : Int) (delta :
      Nat) (measured : Nat), s.held = none ∧ s.mbc.poll = some p ∧ p.slot = bbuSlotNo b ∧ s.isTarget b = true ∧
      power = max (-6000) (min 6000 (s16 b0 b1)) ∧ (delta = (if s.bbus[b].seeded = false ∨ 500 < s.time -
      s.bbus[b].lastArrival.getD s.time then 0 else power.toNat * (s.time - s.bbus[b].lastArrival.getD s.time))) ∧
      measured = min 4000000000 (s.test.eMeas + delta) ∧ b6 = 0 ∧ p.inService = true ∧ s.test.phase = .recharge ∧
      b3 ≠ 0 ∧ power < 20) ∧
    (∃ (s : State) (p : Poll) (b : BbuId) (b0 : Byte) (b1 : Byte) (b3 : Byte) (b6 : Byte) (power : Int) (delta :
      Nat) (measured : Nat), s.held = none ∧ s.mbc.poll = some p ∧ p.slot = bbuSlotNo b ∧ s.isTarget b = true ∧
      power = max (-6000) (min 6000 (s16 b0 b1)) ∧ (delta = (if s.bbus[b].seeded = false ∨ 500 < s.time -
      s.bbus[b].lastArrival.getD s.time then 0 else power.toNat * (s.time - s.bbus[b].lastArrival.getD s.time))) ∧
      measured = min 4000000000 (s.test.eMeas + delta) ∧ b6 = 0 ∧ p.inService = true ∧ s.test.phase = .recharge ∧
      (b3 = 0 ∨ 20 ≤ power)) :=
  ⟨⟨sample (test := testing .prepare (prepare := .running 5)) (mbc := bus [(6, fitted 2)] (some 6)),
     { slot := 6, tag := 7, payload := [], inService := true, window := 2 }, 0, 0, 0, 1, 0, 0, 0,
     by decide +kernel⟩,
   ⟨sample (test := testing .prepare (prepare := .running 5)) (mbc := bus [(6, fitted 2)] (some 6)),
     { slot := 6, tag := 7, payload := [], inService := true, window := 2 }, 0, 0, 0, 1, 0, 0, 0, 0,
     by decide +kernel⟩,
   ⟨sample (test := testing .prepare (prepare := .running 5)) (mbc := bus [(6, fitted 2)] (some 6)),
     { slot := 6, tag := 7, payload := [], inService := true, window := 2 }, 0, 0, 0, 0, 0, 0, 0, 0,
     by decide +kernel⟩,
   ⟨sample (test := testing .discharge) (mbc := bus [(6, fitted 2)] (some 6)),
     { slot := 6, tag := 7, payload := [], inService := true, window := 2 }, 0, 0, 0, 0, 0, 0, 0, 0,
     by decide +kernel⟩,
   ⟨sample (test := testing .discharge) (mbc := bus [(6, fitted 2)] (some 6)),
     { slot := 6, tag := 7, payload := [], inService := true, window := 2 }, 0, 0, 0, 1, 0, 0, 0, 0,
     by decide +kernel⟩,
   ⟨sample (test := testing .recharge) (mbc := bus [(6, fitted 2)] (some 6)),
     { slot := 6, tag := 7, payload := [], inService := true, window := 2 }, 0, 0, 0, 1, 0, 0, 0, 0,
     by decide +kernel⟩,
   ⟨sample (test := testing .recharge) (mbc := bus [(6, fitted 2)] (some 6)),
     { slot := 6, tag := 7, payload := [], inService := true, window := 2 }, 0, 0, 0, 0, 0, 0, 0, 0,
     by decide +kernel⟩⟩

/-- States and operands that meet the hypotheses of `EveryStepKeepsTheTrayLaw`, clause by clause. -/
theorem test_hypotheses_EveryStepKeepsTheTrayLaw :
    (∃ (s : State) (t : State), Laws s ∧ after (step s) = some t) :=
  ⟨sample, ((after (step (sample))).getD (sample)), by decide +kernel⟩

/-- States and operands that meet the hypotheses of `EveryStepKeepsTheLeakLaws`, clause by clause. -/
theorem test_hypotheses_EveryStepKeepsTheLeakLaws :
    (∃ (s : State) (t : State), Laws s ∧ after (step s) = some t) :=
  ⟨sample, ((after (step (sample))).getD (sample)), by decide +kernel⟩

/-- States and operands that meet the hypotheses of `EveryStepKeepsTheBudgetLaws`, clause by clause. -/
theorem test_hypotheses_EveryStepKeepsTheBudgetLaws :
    (∃ (s : State) (t : State), Laws s ∧ after (step s) = some t) :=
  ⟨sample, ((after (step (sample))).getD (sample)), by decide +kernel⟩

/-- States and operands that meet the hypotheses of `EveryStepKeepsTheOtherLaws`, clause by clause. -/
theorem test_hypotheses_EveryStepKeepsTheOtherLaws :
    (∃ (s : State) (t : State), Laws s ∧ after (step s) = some t ∧ (s.ilc.state = .rideThrough ∨ s.ilc.state =
      .restoreHold ∨ s.ilc.state = .exhausted) ∧ (t.ilc.state = .rideThrough ∨ t.ilc.state = .restoreHold ∨
      t.ilc.state = .exhausted)) :=
  ⟨sample (ilc := shelf .rideThrough), ((after (step (sample (ilc := shelf .rideThrough)))).getD (sample (ilc :=
    shelf .rideThrough))), by decide +kernel⟩

end Sys2Proof.Machine.Tests
end

section
/-! PROOFS. A request that is taken at once, the index of a request, the reports on one record (R20, R71, R138, R173),
and SET-TRAY-CONFIG (R19). -/
namespace Sys2Proof.Machine

/-! ### A request that is taken at once -/

/-- The oldest request is answered by its owning block, with the arm target consumed first (R163 to R165). -/
theorem takeRequest_cons (r : Request) (rest : List Request) (s : State) (hq : s.hli.queue = r :: rest) :
    takeRequest s =
      replying r (answerBody r.body s.hli.arm (setLink { s.hli with arm := none } s)).1
        (answerBody r.body s.hli.arm (setLink { s.hli with arm := none } s)).2 := by
  unfold takeRequest
  rw [hq]
  rfl

/-- A request that finds the queue empty and no RESTART on its way is evaluated in the step of its arrival, by its block
on the part as `asked` describes it (R163, R166). -/
theorem acceptRequest_of_ready (r : Request) (s : State) (h : Ready s) :
    acceptRequest r s =
      replying r (answerBody r.body s.hli.arm (asked r s)).1 (answerBody r.body s.hli.arm (asked r s)).2 := by
  obtain ⟨-, hqueue, hrestart⟩ := h
  have htaken : acceptRequest r s =
      takeRequest { s with hli := { s.hli with
        framer := .hunt, inBreak := false, queue := [r], silence := silenceStart s.params.hostSilence } } := by
    simp [acceptRequest, restartSilence, setLink, hqueue, hrestart, Config.requestRoom]
  rw [htaken, takeRequest_cons r [] _ rfl]
  rfl

/-- A request row on a part that takes it at once: what its block answers is the reply, what its block leaves is the
part. -/
theorem request_of_answer {kind tag : Byte} {body : RequestBody} {s t : State} {a : Answer} (h : Ready s)
    (ha : answerBody body s.hli.arm (asked ⟨kind, tag, body⟩ s) = (a, t)) :
    request kind tag body s = .next (replying ⟨kind, tag, body⟩ a t) := by
  have ⟨hheld, _, _⟩ := h
  have hawake : s.held.isSome = false := Option.isSome_eq_false_iff.mpr (Option.isNone_iff_eq_none.mpr hheld)
  simp only [request, awake, hawake, Bool.false_eq_true, if_false, acceptRequest_of_ready _ s h, ha]

/-! ### The index of a request -/

theorem onTray_val (i : TrayId) (f : TrayId → State → Answer × State) (s : State) : onTray i f s = f i s := by
  simp [onTray, trayOf]

theorem onTray_badIndex {n : Nat} (hn : 24 ≤ n) (f : TrayId → State → Answer × State) (s : State) :
    onTray n f s = refuse .badIndex s := by
  simp [onTray, trayOf, Nat.not_lt.mpr hn]

theorem onBbu_val (b : BbuId) (f : BbuId → State → Answer × State) (s : State) : onBbu b f s = f b s := by
  simp [onBbu, bbuOf]

theorem onBbu_badIndex {n : Nat} (hn : 6 ≤ n) (f : BbuId → State → Answer × State) (s : State) :
    onBbu n f s = refuse .badIndex s := by
  simp [onBbu, bbuOf, Nat.not_lt.mpr hn]

theorem onChannel_val (c : ChannelId) (f : ChannelId → State → Answer × State) (s : State) :
    onChannel c f s = f c s := by
  simp [onChannel, channelOf]

theorem onChannel_badIndex {n : Nat} (hn : 12 ≤ n) (f : ChannelId → State → Answer × State) (s : State) :
    onChannel n f s = refuse .badIndex s := by
  simp [onChannel, channelOf, Nat.not_lt.mpr hn]

/-! ### The reports on one record -/

/-- A tray without a staged configuration reports fourteen zero bytes in its place (R20). -/
theorem trayConfigPayload_eq (i : TrayId) (s : State) :
    trayConfigPayload i s =
      le8 i ++ trayConfigBytes s.trays[i].cfg ++ le8 s.trays[i].staged.isSome.toNat ++
        (s.trays[i].staged.map trayConfigBytes).getD (List.replicate 14 0) := by
  unfold trayConfigPayload leBool
  cases s.trays[i].staged <;> rfl

/-- The fields of a battery slot's configuration (R71). -/
theorem bbuConfigPayload_eq (b : BbuId) (s : State) :
    bbuConfigPayload b s =
      le8 b ++ le32 s.bbus[b].eRated ++ le16 s.bbus[b].maxCharge ++ le32 s.bbus[b].eFull ++
        le8 s.bbus[b].inService.toNat := rfl

/-- The fields of a channel's configuration, its trays read off as numbers before they become bytes (R138). -/
theorem leakChannelPayload_eq (c : ChannelId) (s : State) :
    leakChannelPayload c s =
      le8 c ++ le8 s.channels[c].cfg.enabled.toNat ++ le8 s.channels[c].cfg.loop ++
        le8 s.channels[c].cfg.isolate.toNat ++ le8 s.channels[c].cfg.closeValve.toNat ++
        le8 s.channels[c].cfg.nC ++ le8 s.channels[c].cfg.nF ++ le8 s.channels[c].cfg.trays.length ++
        s.channels[c].cfg.trays.flatMap fun j => le8 j := by
  have htrays : (s.channels[c].cfg.trays.flatMap fun j => le8 j) =
      s.channels[c].cfg.trays.flatMap fun i => le8 i.val := by
    simp only [List.bind_eq_flatMap, List.pure_def, List.flatMap_assoc, List.flatMap_singleton]
  rw [htrays]
  rfl

/-- A set of three bits as a sum. -/
theorem bitSum_three (a b c : Bool) : bitSum [a, b, c] = a.toNat + 2 * b.toNat + 4 * c.toNat := by
  simp only [bitSum, List.foldr]
  omega

/-- A set of six bits as a sum. -/
theorem bitSum_six (a b c d e f : Bool) :
    bitSum [a, b, c, d, e, f] =
      a.toNat + 2 * b.toNat + 4 * c.toNat + 8 * d.toNat + 16 * e.toNat + 32 * f.toNat := by
  simp only [bitSum, List.foldr]
  omega

/-- The seven fields of one tray in GET-TRAYS (R173). -/
theorem trayBytes_eq (s : State) (j : TrayId) :
    trayBytes s j =
      le8 (trayStateCode s.trays[j].state) ++
      le8 (s.trays[j].locks.leak.toNat + 2 * s.trays[j].locks.shed.toNat + 4 * s.trays[j].locks.hold.toNat) ++
      le8 ((s.trays[j].owner == .manual).toNat + 2 * s.trays[j].present.toNat +
        4 * s.trays[j].retryPending.toNat + 8 * s.trays[j].staged.isSome.toNat +
        16 * s.trays[j].enable.toNat + 32 * s.pins.pg[j].toNat) ++
      le8 s.trays[j].retriesUsed ++ le8 ((s.trays[j].cause.map failureCauseCode).getD 0xFF) ++
      le16 s.trays[j].counted := by
  simp only [trayBytes, lockBits, optByte, bitSum_three, bitSum_six]

/-- The trays that GET-TRAYS names: the cut at T23 leaves out no tray that the clamped count reaches (R173). -/
theorem traysCount_range (i j : TrayId) (count : Nat) :
    (decide (i.val ≤ j.val) && decide (j.val < i.val + traysCount i count)) =
      (decide (i ≤ j) && decide (j.val < i.val + min 24 (max 1 count))) := by
  have hreach : j.val < i.val + traysCount i count ↔ j.val < i.val + min 24 (max 1 count) := by
    have hj := j.isLt
    unfold traysCount clamp
    omega
  simp only [hreach, Fin.le_def]

/-- The payload of GET-TRAYS in the words of its layout (R173). -/
theorem traysPayload_eq (i : TrayId) (count : Nat) (s : State) :
    traysPayload i count s =
      le8 i ++ le8 (min (min 24 (max 1 count)) (24 - i.val)) ++
        (allTrays.filter fun j =>
          decide (i ≤ j) && decide (j.val < i.val + min 24 (max 1 count))).flatMap (trayBytes s) := by
  simp only [traysPayload, traysCount_range]
  rfl

theorem answerGetTrays_badIndex {n : Nat} (hn : 24 ≤ n) (count : Nat) (s : State) :
    answerGetTrays n count s = refuse .badIndex s := if_pos hn

theorem answerGetTrays_val (i : TrayId) (count : Nat) (s : State) :
    answerGetTrays i count s = answerData (traysPayload i count s) s := if_neg (by omega)

/-! ### SET-TRAY-CONFIG -/

/-- A record that keeps every place the tray has in the run leaves the run as it is (R109, R110, R116). -/
theorem syncRun_eq_self (i : TrayId) (t : Tray) (r : RunRecord)
    (hstart : t.state ≠ .queued → i ∉ r.startQueue) (hstop : t.stoppable = false → i ∉ r.stopQueue)
    (hmember : t.state = .off ∨ t.owner = .manual → i ∉ r.members) :
    syncRun i t r = r := by
  have hwithout : ∀ l : List TrayId, i ∉ l → without i l = l := fun l hi =>
    List.filter_eq_self.mpr fun j hj => bne_iff_ne.mpr fun hji => hi (hji ▸ hj)
  have hs : (if t.state = .queued then r.startQueue else without i r.startQueue) = r.startQueue := by
    split
    · rfl
    · next hq => exact hwithout _ (hstart hq)
  have hp : (if t.stoppable then r.stopQueue else without i r.stopQueue) = r.stopQueue := by
    split
    · rfl
    · next hq => exact hwithout _ (hstop (Bool.eq_false_iff.mpr hq))
  have hm : (if t.state = .off ∨ t.owner = .manual then without i r.members else r.members) = r.members := by
    split
    · next hq => exact hwithout _ (hmember hq)
    · rfl
  simp only [syncRun, hs, hp, hm]

/-- A tray that keeps its state and owner, and stays one that may be stopped if it was, leaves the run as it is when its
new record is stored (R6, R109, R110, R116). -/
theorem putTray_eq_set (i : TrayId) (t : Tray) (s : State) (hplace : placeLaw s i)
    (hstate : t.state = s.trays[i].state) (howner : t.owner = s.trays[i].owner)
    (hstop : s.trays[i].stoppable = true → t.stoppable = true) :
    putTray i t s = { s with trays := s.trays.set i t } := by
  obtain ⟨hqueued, -, hstoppable, hmember, -⟩ := hplace
  have hrun : syncRun i t s.run = s.run := by
    refine syncRun_eq_self i t s.run ?_ ?_ ?_
    · intro hne hi
      exact hne (hstate.trans (hqueued.mp hi))
    · intro hno hi
      exact Bool.false_ne_true (hno.symm.trans (hstop (hstoppable hi)))
    · intro hor hi
      obtain ⟨hnotOff, hauto⟩ := hmember hi
      rcases hor with hoff | hmanual
      · exact hnotOff (hstate.symm.trans hoff)
      · exact absurd (hmanual.symm.trans (howner.trans hauto)) (by decide)
  simp only [putTray, hrun]

theorem Tray.stoppable_of_off (t : Tray) (h : t.state = .off) : t.stoppable = false := by
  simp [Tray.stoppable, Tray.enable, h]

/-- A configuration taken by an OFF tray is in force at once, and nothing is staged (R19). -/
theorem applyTrayConfig_off (i : TrayId) (c : TrayConfig) (s : State) (hplace : placeLaw s i)
    (hoff : s.trays[i].state = .off) :
    applyTrayConfig i c s =
      { s with trays := s.trays.set i { s.trays[i] with cfg := c, staged := none } } := by
  have hstop : s.trays[i].stoppable = true →
      ({ s.trays[i] with cfg := c, staged := none } : Tray).stoppable = true := by
    intro hs
    rw [Tray.stoppable_of_off _ hoff] at hs
    exact absurd hs Bool.false_ne_true
  unfold applyTrayConfig
  rw [if_pos hoff]
  exact putTray_eq_set i _ s hplace rfl rfl hstop

/-- A configuration taken by a tray in any other state is staged (R19). -/
theorem applyTrayConfig_staged (i : TrayId) (c : TrayConfig) (s : State) (hplace : placeLaw s i)
    (hon : s.trays[i].state ≠ .off) :
    applyTrayConfig i c s = { s with trays := s.trays.set i { s.trays[i] with staged := some c } } := by
  unfold applyTrayConfig
  rw [if_neg hon]
  exact putTray_eq_set i _ s hplace rfl rfl id

theorem saveInFlight_of_ne (s : State) (h : s.store.saving ≠ none) : s.saveInFlight = true :=
  Option.isSome_iff_ne_none.mpr h

theorem saveInFlight_of_none (s : State) (h : s.store.saving = none) : s.saveInFlight = false := by
  rw [State.saveInFlight, h]
  rfl

theorem answerSetTrayConfig_badIndex {n : Nat} (hn : 24 ≤ n) (g : RawTrayConfig) (s : State) :
    answerSetTrayConfig n g s = refuse .badIndex s := onTray_badIndex hn _ s

theorem answerSetTrayConfig_busy (i : TrayId) (g : RawTrayConfig) (s : State) (h : s.store.saving ≠ none) :
    answerSetTrayConfig i g s = refuse .busy s := by
  simp only [answerSetTrayConfig, onTray_val, saveInFlight_of_ne s h, if_true]

/-- Outside a save the configuration is taken; the ACK says whether it was clamped and whether it is staged (R19). -/
theorem answerSetTrayConfig_taken (i : TrayId) (g : RawTrayConfig) (s : State) (h : s.store.saving = none) :
    answerSetTrayConfig i g s =
      (.ack (trayConfigClamped g) (s.trays[i].state != .off), applyTrayConfig i (clampTrayConfig g) s) := by
  simp only [answerSetTrayConfig, onTray_val, saveInFlight_of_none s h, Bool.false_eq_true, if_false]

/-- An OFF tray takes the configuration at once and the ACK carries no STAGED (R19). -/
theorem answerSetTrayConfig_off (i : TrayId) (g : RawTrayConfig) (s : State) (hsave : s.store.saving = none)
    (hplace : placeLaw s i) (hoff : s.trays[i].state = .off) :
    answerSetTrayConfig i g s =
      (.ack (trayConfigClamped g) false,
        { s with trays := s.trays.set i { s.trays[i] with cfg := clampTrayConfig g, staged := none } }) := by
  rw [answerSetTrayConfig_taken i g s hsave, applyTrayConfig_off i _ s hplace hoff, hoff]
  rfl

/-- A tray in any other state stages the configuration and the ACK carries STAGED (R19). -/
theorem answerSetTrayConfig_staged (i : TrayId) (g : RawTrayConfig) (s : State) (hsave : s.store.saving = none)
    (hplace : placeLaw s i) (hon : s.trays[i].state ≠ .off) :
    answerSetTrayConfig i g s =
      (.ack (trayConfigClamped g) true,
        { s with trays := s.trays.set i { s.trays[i] with staged := some (clampTrayConfig g) } }) := by
  rw [answerSetTrayConfig_taken i g s hsave, applyTrayConfig_staged i _ s hplace hon, bne_iff_ne.mpr hon]

/-- Each numeric field is brought to the nearest end of its range (R1, R19). -/
theorem clampTrayConfig_eq (g : RawTrayConfig) :
    clampTrayConfig g =
      { alloc := min 6000 g.alloc, surge := min 6000 g.surge, pgTimeout := min 5000 (max 10 g.pgTimeout),
        settle := min 5000 g.settle, stopTime := min 10000 (max 10 g.stopTime), rank := min 15 g.rank,
        shedClass := min 3 g.shedClass, pinned := g.pinned != 0, retries := min 3 g.retries } := by
  simp only [clampTrayConfig, clamp, yes, Nat.zero_max]

/-! ### The statements -/

/-- Settles O23: each report is a request taken at once, refused past the last record, and otherwise answered with the
payload of its layout. -/
theorem indexedReports : Obligations.IndexedReports := by
  intro s tag n count i b c hready
  refine ⟨fun hn => ?_, ?_, fun hn => ?_, ?_, fun hn => ?_, ?_, fun hn => ?_, ?_⟩
  · exact request_of_answer hready (onTray_badIndex hn _ _)
  · rw [← trayConfigPayload_eq]
    exact request_of_answer hready (onTray_val i _ _)
  · exact request_of_answer hready (onBbu_badIndex hn _ _)
  · rw [← bbuConfigPayload_eq]
    exact request_of_answer hready (onBbu_val b _ _)
  · exact request_of_answer hready (onChannel_badIndex hn _ _)
  · rw [← leakChannelPayload_eq]
    exact request_of_answer hready (onChannel_val c _ _)
  · exact request_of_answer hready (answerGetTrays_badIndex hn count _)
  · simp only [← trayBytes_eq]
    rw [← traysPayload_eq]
    exact request_of_answer hready (answerGetTrays_val i count _)

/-- Settles O27: the refusals in their order, then the OFF tray and any other; the run record is untouched because the
tray keeps its place in it (`putTray_eq_set`). -/
theorem setTrayConfig : Obligations.SetTrayConfig := by
  intro s tag n i g hready hlaw
  obtain ⟨-, -, hplace⟩ := hlaw.1 i
  refine ⟨fun hn => ?_, fun hsave => ?_, fun hsave hoff => ?_, fun hsave hon => ?_, clampTrayConfig_eq g⟩
  · exact request_of_answer hready (answerSetTrayConfig_badIndex hn g _)
  · exact request_of_answer hready (answerSetTrayConfig_busy i g _ hsave)
  · exact request_of_answer hready (answerSetTrayConfig_off i g _ hsave hplace hoff)
  · exact request_of_answer hready (answerSetTrayConfig_staged i g _ hsave hplace hon)

end Sys2Proof.Machine
end

section
/-! PROOFS. GET-INPUT-STATUS (R105). -/
namespace Sys2Proof.Machine

/-! ### The reply and the statistics -/

/-- The fields of the input loss record in the order of their layout; a stopped timer is reported as 0 (R105). -/
theorem inputStatusPayload_eq (s : State) :
    inputStatusPayload s =
      le8 (shelfStateCode s.ilc.state) ++ le8 s.ilc.stage ++ le8 s.ilc.ifail.toNat ++
        le16 (s.ilc.qualify.getD 0) ++ le32 (s.ilc.restore.getD 0) ++ le32 s.ilc.lastR ++ le16 s.ilc.lastTEst ++
        le16 s.ilc.sagCount ++ le16 s.ilc.lastSag ++ le16 s.ilc.longestSag := rfl

/-- The arrival of a request leaves the input loss record alone, so the reply reports it as it stood before. -/
theorem inputStatusPayload_asked (r : Request) (s : State) :
    inputStatusPayload (asked r s) = inputStatusPayload s := rfl

/-- Clearing the statistics touches no field of the link. -/
theorem clearSags_asked (r : Request) (s : State) : clearSags (asked r s) = asked r (clearSags s) := rfl

/-- With the clear flag 0 the request only reports. -/
theorem answerGetInputStatus_zero (s : State) :
    answerGetInputStatus 0 s = (.data (inputStatusPayload s), s) := rfl

/-- With the clear flag set the reply still holds the statistics from before they are cleared. -/
theorem answerGetInputStatus_of_ne_zero {clear : Nat} (h : clear ≠ 0) (s : State) :
    answerGetInputStatus clear s = (.data (inputStatusPayload s), clearSags s) := by
  have hyes : yes clear = true := bne_iff_ne.mpr h
  simp only [answerGetInputStatus, answerData, hyes, if_true]

/-- The answer to GET-INPUT-STATUS at its arrival: the report of the part before it, and the clearing done on that
part. -/
theorem answerGetInputStatus_asked (r : Request) (clear : Nat) (s : State) :
    answerGetInputStatus clear (asked r s) =
      (.data (inputStatusPayload s), asked r (if clear = 0 then s else clearSags s)) := by
  by_cases hclear : clear = 0
  · subst hclear
    rw [answerGetInputStatus_zero, inputStatusPayload_asked, if_pos rfl]
  · rw [answerGetInputStatus_of_ne_zero hclear, inputStatusPayload_asked, clearSags_asked, if_neg hclear]

/-! ### The statement -/

/-- Settles O22: the request is taken at once, its reply is built from the record before the statistics are cleared,
and the clearing leaves the link alone. -/
theorem inputStatus : Obligations.InputStatus := by
  intro s tag clear hready
  rw [← inputStatusPayload_eq]
  exact request_of_answer hready (answerGetInputStatus_asked _ clear s)

end Sys2Proof.Machine
end

section
/-! PROOFS. IDENTIFY (R168). -/
namespace Sys2Proof.Machine

/-! ### The reply and the arm target -/

/-- The fixed codes, low byte first, and the station number (Message and Record Layouts, Codes). -/
theorem identifyPayload_eq (s : State) :
    identifyPayload s = [0x51, 0x0E, 0x24, 0x02, 0x01, BitVec.ofNat 8 s.hli.station] := by
  have hvendor : le16 Config.vendorCode = [0x51, 0x0E] := by decide
  have hpart : le16 Config.partCode = [0x24, 0x02] := by decide
  have hrevision : le8 Config.revision = [0x01] := by decide
  rw [identifyPayload, hvendor, hpart, hrevision]
  rfl

/-- The arrival of a request leaves the station number alone, so the reply carries it as it stood before. -/
theorem identifyPayload_asked (r : Request) (s : State) :
    identifyPayload (asked r s) = identifyPayload s := rfl

/-- IDENTIFY only reports: its block leaves the part as the arrival of the request has put it. -/
theorem answerIdentify_asked (r : Request) (s : State) :
    answerIdentify (asked r s) = (.data (identifyPayload s), asked r s) := by
  rw [answerIdentify, answerData, identifyPayload_asked]

/-- Every request consumes the arm target (R165, R168). -/
theorem answered_arm (r : Request) (a : Answer) (s : State) : (answered r a s).hli.arm = none := rfl

/-! ### The statement -/

/-- Settles O19: the request is taken at once, its reply is the fixed codes and the station, and its block changes
nothing; the arm target goes as it does with every request. -/
theorem identifyReply : Obligations.IdentifyReply := by
  intro s tag hready
  refine ⟨?_, answered_arm _ _ s⟩
  rw [← identifyPayload_eq]
  exact request_of_answer hready (answerIdentify_asked _ s)

end Sys2Proof.Machine
end

section
/-! PROOFS. TAKE-NOTICES (R171). -/
namespace Sys2Proof.Machine

/-! ### The records that leave the queue and those that stay -/

section
variable {count n : Nat} {s : State} (hn : n = min (min 8 (max 1 count)) s.notices.records.length)
include hn

/-- The take stops at the end of the queue, so the clamped count may be cut to the queue's length (R171). -/
theorem taken_eq_take : taken count s = s.notices.records.take n := by
  rw [hn]
  exact List.take_eq_take_min

theorem untaken_eq_drop : untaken count s = s.notices.records.drop n := by
  rw [hn]
  exact List.drop_eq_drop_min

theorem length_taken : (taken count s).length = n := by
  rw [taken_eq_take hn, List.length_take_of_le (hn ▸ Nat.min_le_right _ _)]

theorem length_untaken : (untaken count s).length = s.notices.records.length - n := by
  rw [untaken_eq_drop hn, List.length_drop]

/-! ### The reply and what the request leaves -/

/-- The reply counts the records it returns and those that stay, and gives the lost count from before the request and
each record with its age (R171). -/
theorem noticesPayload_eq :
    noticesPayload count s =
      le8 n ++ le8 (s.notices.records.length - n) ++ le8 s.notices.lost ++
        (s.notices.records.take n).flatMap (noticeBytes s.time) := by
  rw [noticesPayload, length_taken hn, length_untaken hn, taken_eq_take hn]

/-- The answer to TAKE-NOTICES: the arrival of the request touches neither the queue nor the time base, so the report
and the removal are those of the part before it. -/
theorem answerTakeNotices_asked (r : Request) :
    answerTakeNotices count (asked r s) =
      (.data (le8 n ++ le8 (s.notices.records.length - n) ++ le8 s.notices.lost ++
          (s.notices.records.take n).flatMap (noticeBytes s.time)),
        asked r { s with notices := { records := s.notices.records.drop n, lost := 0 } }) := by
  have hpayload : noticesPayload count (asked r s) = noticesPayload count s := rfl
  have huntaken : untaken count (asked r s) = untaken count s := rfl
  rw [answerTakeNotices, answerData, hpayload, huntaken, noticesPayload_eq hn, untaken_eq_drop hn]
  rfl

end

/-! ### ALERT -/

/-- A reply changes no notice, and so not ALERT (R170). -/
theorem alert_answered (r : Request) (a : Answer) (s : State) : (answered r a s).alert = s.alert := rfl

/-- A queue without its first `n` records holds one exactly if there were more than `n` (R170). -/
theorem alert_drop (n lost : Nat) (s : State) :
    ({ s with notices := { records := s.notices.records.drop n, lost := lost } } : State).alert =
      decide (n < s.notices.records.length) := by
  have hempty : (s.notices.records.drop n).isEmpty = true ↔ s.notices.records.length ≤ n :=
    List.isEmpty_iff.trans List.drop_eq_nil_iff
  rw [State.alert, Bool.eq_iff_iff, Bool.not_eq_true', ← Bool.not_eq_true, hempty, decide_eq_true_iff, Nat.not_le]

/-! ### The statement -/

/-- Settles O21: the request is taken at once; its clamped count, cut to the queue's length, splits the queue into the
records of the reply and those that stay, and ALERT follows the latter. -/
theorem takeNotices : Obligations.TakeNotices := by
  intro s tag count n hready hn
  refine ⟨_, request_of_answer hready (answerTakeNotices_asked hn _), rfl, ?_⟩
  exact (alert_answered _ _ _).trans (alert_drop n 0 s)

end Sys2Proof.Machine
end

section
/-! PROOFS. The budget laws (R49, R83, R86 to R88, R114, R117): a state under all the laws from which one step leaves a DOWN
run complete. -/
namespace Sys2Proof.Machine

/-- A part in SAG-QUALIFY whose DOWN run is HELD and has nothing left to stop, with IFAIL about to be released. The laws
name no direction for a HELD run. -/
def heldDownRun : State :=
  { State.reset with
    ilc := { coldInputLoss with state := .sagQualify, ifail := true, qualify := some 5, sagStart := some 0 }
    run := { coldRun with direction := .down, state := .held }
    pending := [.ifailRelease] }

theorem heldDownRun_trayLaw : TrayLaw heldDownRun := by
  have hlock : ∀ i : TrayId, lockLaw heldDownRun.trays[i] := by decide +kernel
  have htimer : ∀ i : TrayId, timerLaw heldDownRun.trays[i] := by decide +kernel
  have hplace : ∀ i : TrayId, placeLaw heldDownRun i := by decide +kernel
  have hqueue : queueLaw heldDownRun.run := by decide +kernel
  exact ⟨fun i => ⟨hlock i, htimer i, hplace i⟩, hqueue⟩

theorem heldDownRun_laws : Laws heldDownRun := by
  refine ⟨?_, ?_, ?_, heldDownRun_trayLaw, ?_, ?_, ?_, ?_, ?_, ?_, ?_, ?_⟩
  all_goals decide +kernel

/-- The shelf is NORMAL again and the run RUNNING, but only an UP run is evaluated then (R115), so the DOWN run stands
complete. -/
theorem heldDownRun_completes : ∃ t, step heldDownRun = .next t ∧ downComplete t = true :=
  ⟨sagRidden { setIfailPin false heldDownRun with pending := [] }, rfl, by decide +kernel⟩

/-- Refutes O59: no law keeps a DOWN run from being HELD, and the end of a sag makes such a run RUNNING without the
completion test of R117, so an empty one stands complete. -/
theorem not_everyStepKeepsTheBudgetLaws : ¬ Obligations.EveryStepKeepsTheBudgetLaws := by
  intro h
  obtain ⟨t, hstep, hcomplete⟩ := heldDownRun_completes
  obtain ⟨-, ⟨-, hopen⟩, -⟩ := h heldDownRun t heldDownRun_laws hstep
  exact Bool.false_ne_true (hopen.symm.trans hcomplete)

end Sys2Proof.Machine
end

section
/-! PROOFS. What can happen to one tray's record, and that the laws of trays, run and queues are kept when a record is
stored (R2, R5, R6, R14, R109, R110, R116). -/
namespace Sys2Proof.Machine

/-! ### The laws of one record -/

/-- The laws of one tray's record. -/
abbrev recordLaw (t : Tray) : Prop := lockLaw t ∧ timerLaw t

/-- A stop leaves a tray that is QUEUED in OFF, one that is powered in STOPPING, and any other as it is (R15). -/
theorem stopTray_cases (t : Tray) :
    (t.state = .queued ∧ stopTray t = enterOff t) ∨
    ((t.state = .inrush ∨ t.state = .on) ∧ stopTray t = enterStopping t) ∨
    ((t.state = .off ∨ t.state = .stopping ∨ t.state = .failed) ∧ stopTray t = t) := by
  unfold stopTray
  cases h : t.state <;> simp

theorem recordLaw_enterOff (t : Tray) : recordLaw (enterOff t) := by
  simp [recordLaw, lockLaw, timerLaw, enterOff, timerFits, Tray.enable]

theorem recordLaw_enterStopping (t : Tray) (h : timerLaw t) (hs : t.state = .inrush ∨ t.state = .on) :
    recordLaw (enterStopping t) := by
  obtain ⟨-, hcause, -, hpresent⟩ := h
  rcases hs with hs | hs <;>
    simp_all [recordLaw, lockLaw, timerLaw, enterStopping, timerFits, Tray.enable]

/-- A stop keeps the laws, whatever lockouts the tray is given with it: it leaves no tray QUEUED or powered. -/
theorem recordLaw_stopTray (t : Tray) (l : Lockouts) (h : timerLaw t) :
    recordLaw (stopTray { t with locks := l }) := by
  rcases stopTray_cases { t with locks := l } with ⟨-, e⟩ | ⟨hs, e⟩ | ⟨hs, e⟩ <;> rw [e]
  · exact recordLaw_enterOff _
  · exact recordLaw_enterStopping _ h hs
  · refine ⟨?_, h⟩
    rcases hs with hs | hs | hs <;> simp_all [lockLaw, Tray.enable]

/-- What a record needs to enter INRUSH: nothing locks it out, no cause of failure, and it is present (R7). -/
theorem recordLaw_enterInrush (t : Tray) (hlocks : t.locks.leak = false ∧ t.locks.shed = false)
    (hcause : t.cause = none) (hpresent : t.present = true) : recordLaw (enterInrush t) := by
  simp [recordLaw, lockLaw, timerLaw, enterInrush, timerFits, hlocks, hcause, hpresent]

theorem recordLaw_enterOn (t : Tray) (h : recordLaw t) (hs : t.state = .inrush) : recordLaw (enterOn t) := by
  obtain ⟨⟨-, hlocks⟩, -, hcause, -, hpresent⟩ := h
  simp_all [recordLaw, lockLaw, timerLaw, enterOn, timerFits, Tray.enable]

theorem recordLaw_enterFailed (t : Tray) (c : FailureCause) (h : recordLaw t) (hs : t.state ≠ .off) :
    recordLaw (enterFailed c t) := by
  obtain ⟨-, -, -, -, hpresent⟩ := h
  have hthere : t.present = true := by
    cases hp : t.present
    · exact absurd (hpresent hp) hs
    · rfl
  have htimer : timerFits .failed (if willRetry c t then .discharge t.cfg.stopTime else .idle) = true := by
    split <;> rfl
  simp_all [recordLaw, lockLaw, timerLaw, enterFailed, Tray.enable]

/-- The timer of a tray in INRUSH is either of its two (R8). -/
theorem recordLaw_inrushTimer (t : Tray) (tm : TrayTimer) (h : recordLaw t) (hs : t.state = .inrush)
    (hfits : timerFits .inrush tm = true) : recordLaw { t with timer := tm } := by
  obtain ⟨hlock, -, hcause, hoff, hpresent⟩ := h
  exact ⟨hlock, (congrArg (fun st => timerFits st tm) hs).trans hfits, hcause, hoff, hpresent⟩

/-! ### What a record's change keeps -/

/-- The change of a tray's record from `old` to `t` keeps the laws of the record, and a place in a queue is kept only
with what the place rests on (R6, R109, R116). -/
structure TrayKept (old t : Tray) : Prop where
  record : recordLaw old → recordLaw t
  queued : t.state = .queued → old.state = .queued
  present : t.state = .queued → old.present = true → t.present = true
  owner : t.state = .queued → old.owner = .auto → t.owner = .auto
  rank : t.state = .queued ∨ t.stoppable = true → t.cfg.rank = old.cfg.rank

theorem Tray.stoppable_of_state (t : Tray) (h : t.state ≠ .inrush) (h' : t.state ≠ .on) : t.stoppable = false := by
  simp [Tray.stoppable, Tray.enable, h, h']

/-- A tray that is neither QUEUED nor powered afterwards has no place to keep. -/
theorem TrayKept.of_out {old t : Tray} (hr : recordLaw old → recordLaw t)
    (hs : t.state = .off ∨ t.state = .stopping ∨ t.state = .failed) : TrayKept old t := by
  have hq : t.state ≠ .queued := by rcases hs with h | h | h <;> simp [h]
  have hp : t.stoppable = false := by
    apply Tray.stoppable_of_state <;> rcases hs with h | h | h <;> simp [h]
  refine ⟨hr, fun h => absurd h hq, fun h => absurd h hq, fun h => absurd h hq, fun h => ?_⟩
  rcases h with h | h
  · exact absurd h hq
  · exact absurd (hp.symm.trans h) Bool.false_ne_true

/-- A tray that is powered afterwards with its configuration kept. -/
theorem TrayKept.of_powered {old t : Tray} (hr : recordLaw old → recordLaw t)
    (hs : t.state = .inrush ∨ t.state = .on) (hc : t.cfg.rank = old.cfg.rank) : TrayKept old t := by
  have hq : t.state ≠ .queued := by rcases hs with h | h <;> simp [h]
  exact ⟨hr, fun h => absurd h hq, fun h => absurd h hq, fun h => absurd h hq, fun _ => hc⟩

/-- A tray that keeps its state and its rank, and, while QUEUED, presence and owner. -/
theorem TrayKept.of_same {old t : Tray} (hr : recordLaw old → recordLaw t) (hs : t.state = old.state)
    (hc : t.cfg.rank = old.cfg.rank) (hp : old.present = true → t.present = true)
    (ho : old.owner = .auto → t.owner = .auto) : TrayKept old t :=
  ⟨hr, fun h => hs ▸ h, fun _ => hp, fun _ => ho, fun _ => hc⟩

theorem trayKept_stopTray (t : Tray) (l : Lockouts) : TrayKept t (stopTray { t with locks := l }) := by
  have hr : recordLaw t → recordLaw (stopTray { t with locks := l }) := fun h => recordLaw_stopTray t l h.2
  refine TrayKept.of_out hr ?_
  rcases stopTray_cases { t with locks := l } with ⟨-, e⟩ | ⟨-, e⟩ | ⟨h, e⟩ <;> rw [e]
  · exact Or.inl rfl
  · exact Or.inr (Or.inl rfl)
  · exact h

theorem trayKept_enterOff (t : Tray) : TrayKept t (enterOff t) :=
  TrayKept.of_out (fun _ => recordLaw_enterOff t) (Or.inl rfl)

/-! ### Storing one record -/

/-- The laws of the tray table, the run and the queues (R2, R5, R6, R14, R108 to R110, R116). -/
abbrev RackLaw (s : State) : Prop := TrayLaw s ∧ OrderLaw s

theorem mem_without (i j : TrayId) (l : List TrayId) : j ∈ without i l ↔ j ∈ l ∧ j ≠ i := by
  simp [without, bne_iff_ne]

theorem mem_of_keep_or_without {p : Prop} [Decidable p] {i j : TrayId} {l : List TrayId}
    (h : j ∈ if p then l else without i l) : j ∈ l ∧ (j = i → p) := by
  split at h
  · next hp => exact ⟨h, fun _ => hp⟩
  · exact ⟨((mem_without i j l).mp h).1, fun e => absurd e ((mem_without i j l).mp h).2⟩

theorem keep_or_without_sublist {p : Prop} [Decidable p] (i : TrayId) (l : List TrayId) :
    (if p then l else without i l).Sublist l := by
  split
  · exact List.Sublist.refl l
  · exact List.filter_sublist

/-- A run record whose queues have lost trays only keeps the laws of the queues. -/
theorem queueLaw_of_sublist {r r' : RunRecord} (h : queueLaw r) (hs : r'.startQueue.Sublist r.startQueue)
    (hp : r'.stopQueue.Sublist r.stopQueue) (hd : r'.direction = r.direction) (hst : r'.state = r.state) :
    queueLaw r' := by
  obtain ⟨hsn, hpn, hsd, hpd⟩ := h
  refine ⟨hsn.sublist hs, hpn.sublist hp, fun hne => ?_, fun hne => ?_⟩
  · rw [hd, hst]
    exact hsd fun e => hne (List.sublist_nil.mp (e ▸ hs))
  · rw [hd, hst]
    exact hpd fun e => hne (List.sublist_nil.mp (e ▸ hp))

theorem syncRun_startQueue_sublist (i : TrayId) (t : Tray) (r : RunRecord) :
    (syncRun i t r).startQueue.Sublist r.startQueue := keep_or_without_sublist i _

theorem syncRun_stopQueue_sublist (i : TrayId) (t : Tray) (r : RunRecord) :
    (syncRun i t r).stopQueue.Sublist r.stopQueue := keep_or_without_sublist i _

/-- A tray's own place after its record is stored. -/
theorem placeLaw_putTray_self {i : TrayId} {t : Tray} {s : State} (h : placeLaw s i) (hk : TrayKept s.trays[i] t) :
    placeLaw (putTray i t s) i := by
  obtain ⟨hqueue, hmember, hstop, hin, hwait⟩ := h
  have hget : (putTray i t s).trays[i] = t := by rw [putTray_get, if_pos rfl]
  have hfacts : t.state = .queued → t.present = true ∧ t.owner = .auto := fun hq => by
    obtain ⟨hp, ho⟩ := hwait (hk.queued hq)
    exact ⟨hk.present hq hp, hk.owner hq ho⟩
  simp only [placeLaw, hget, putTray_run]
  refine ⟨⟨fun hi => ?_, fun hq => ?_⟩, fun hi => ?_, fun hi => ?_, fun hi => ?_, hfacts⟩
  · exact (mem_of_keep_or_without hi).2 rfl
  · simp only [syncRun, if_pos hq]
    exact hqueue.mpr (hk.queued hq)
  · obtain ⟨hi, hq⟩ := mem_of_keep_or_without hi
    have hnot : ¬ (t.state = .off ∨ t.owner = .manual) := by
      have := (hfacts (hq rfl)).2
      simp [hq rfl, this]
    simp only [syncRun, if_neg hnot]
    exact hmember hi
  · exact (mem_of_keep_or_without hi).2 rfl
  · simp only [syncRun] at hi
    split at hi
    · exact absurd rfl ((mem_without i i _).mp hi).2
    · next hnot =>
      obtain ⟨hoff, hman⟩ := not_or.mp hnot
      refine ⟨hoff, ?_⟩
      cases ho : t.owner
      · rfl
      · exact absurd ho hman

/-- The places of the other trays do not depend on it. -/
theorem placeLaw_putTray_other {i j : TrayId} (hij : j ≠ i) {t : Tray} {s : State} (h : placeLaw s j) :
    placeLaw (putTray i t s) j := by
  have hget : (putTray i t s).trays[j] = s.trays[j] := by rw [putTray_get, if_neg (Ne.symm hij)]
  have hmem : ∀ (p : Prop) [Decidable p] (l : List TrayId), (j ∈ if p then l else without i l) ↔ j ∈ l := by
    intro p _ l
    split
    · exact Iff.rfl
    · exact (mem_without i j l).trans (and_iff_left hij)
  have hmem' : ∀ (p : Prop) [Decidable p] (l : List TrayId), (j ∈ if p then without i l else l) ↔ j ∈ l := by
    intro p _ l
    split
    · exact (mem_without i j l).trans (and_iff_left hij)
    · exact Iff.rfl
  simpa only [placeLaw, hget, putTray_run, syncRun, hmem, hmem'] using h

/-- Storing a record that keeps what its place rests on keeps the laws of trays, run and queues (R6, R109, R110, R116). -/
theorem putTray_rackLaw {i : TrayId} {t : Tray} {s : State} (h : RackLaw s) (hk : TrayKept s.trays[i] t) :
    RackLaw (putTray i t s) := by
  obtain ⟨⟨htray, hqueue⟩, hstart, hstop⟩ := h
  have hrank : ∀ j : TrayId, ((putTray i t s).trays[j].state = .queued ∨ (putTray i t s).trays[j].stoppable = true) →
      (putTray i t s).trays[j].cfg.rank = s.trays[j].cfg.rank := by
    intro j
    rw [putTray_get]
    split
    · next e => subst e; exact hk.rank
    · exact fun _ => rfl
  have hplace : ∀ j : TrayId, placeLaw (putTray i t s) j := by
    intro j
    by_cases hj : j = i
    · subst hj; exact placeLaw_putTray_self (htray j).2.2 hk
    · exact placeLaw_putTray_other hj (htray j).2.2
  refine ⟨⟨fun j => ?_, ?_⟩, ?_, ?_⟩
  · have hrecord : recordLaw (putTray i t s).trays[j] := by
      rw [putTray_get]
      split
      · next e => subst e; exact hk.record ⟨(htray i).1, (htray i).2.1⟩
      · exact ⟨(htray j).1, (htray j).2.1⟩
    exact ⟨hrecord.1, hrecord.2, hplace j⟩
  · exact queueLaw_of_sublist hqueue (syncRun_startQueue_sublist i t s.run) (syncRun_stopQueue_sublist i t s.run) rfl rfl
  · refine (hstart.sublist (syncRun_startQueue_sublist i t s.run)).imp_of_mem fun {a b} ha hb hab => ?_
    have ra := hrank a (Or.inl ((hplace a).1.mp ha))
    have rb := hrank b (Or.inl ((hplace b).1.mp hb))
    simpa only [StartsFirst, ra, rb] using hab
  · refine (hstop.sublist (syncRun_stopQueue_sublist i t s.run)).imp_of_mem fun {a b} ha hb hab => ?_
    obtain ⟨-, -, hsa, -⟩ := hplace a
    obtain ⟨-, -, hsb, -⟩ := hplace b
    have ra := hrank a (Or.inr (hsa ha))
    have rb := hrank b (Or.inr (hsb hb))
    simpa only [StopsFirst, ra, rb] using hab

end Sys2Proof.Machine
end

section
/-! PROOFS. The moves of the rack: what the Tray Controller, the budget and the sequencer can do in one command, and what
every sequence of such moves keeps. -/
namespace Sys2Proof.Machine

/-! ### Moves of one record -/

/-- A change of a tray's record by another block than the leak monitor and the start rule: it keeps LEAK as it is, and
lets no tray into INRUSH. -/
structure TrayMove (old t : Tray) : Prop where
  kept : TrayKept old t
  leak : t.locks.leak = old.locks.leak
  inrush : t.state = .inrush → old.state = .inrush
  present : t.present = old.present

theorem trayMove_enterOff (t : Tray) : TrayMove t (enterOff t) :=
  ⟨trayKept_enterOff t, rfl, (fun h => by cases h), rfl⟩

theorem stopTray_locks (t : Tray) : (stopTray t).locks = t.locks := by
  unfold stopTray
  split <;> rfl

theorem stopTray_present (t : Tray) : (stopTray t).present = t.present := by
  unfold stopTray
  split <;> rfl

theorem stopTray_not_inrush (t : Tray) : (stopTray t).state ≠ .inrush := by
  rcases stopTray_cases t with ⟨-, e⟩ | ⟨-, e⟩ | ⟨h, e⟩ <;> rw [e]
  · simp [enterOff]
  · simp [enterStopping]
  · rcases h with h | h | h <;> simp [h]

theorem trayMove_stopTray (t : Tray) : TrayMove t (stopTray t) :=
  ⟨trayKept_stopTray t t.locks, congrArg Lockouts.leak (stopTray_locks t), fun h => absurd h (stopTray_not_inrush t),
    stopTray_present t⟩

theorem trayMove_shedTray (t : Tray) : TrayMove t (shedTray t) :=
  ⟨trayKept_stopTray t _, by rw [shedTray, stopTray_locks], fun h => absurd h (stopTray_not_inrush _), stopTray_present _⟩

theorem trayMove_enterOn (t : Tray) (h : t.state = .inrush) : TrayMove t (enterOn t) :=
  ⟨TrayKept.of_powered (fun hr => recordLaw_enterOn t hr h) (Or.inr rfl) rfl, rfl, (fun e => by cases e), rfl⟩

theorem trayMove_enterFailed (t : Tray) (c : FailureCause) (h : t.state ≠ .off) : TrayMove t (enterFailed c t) :=
  ⟨TrayKept.of_out (fun hr => recordLaw_enterFailed t c hr h) (Or.inr (Or.inr rfl)), rfl, (fun e => by cases e), rfl⟩

theorem trayMove_inrushTimer (t : Tray) (tm : TrayTimer) (h : t.state = .inrush) (hf : timerFits .inrush tm = true) :
    TrayMove t { t with timer := tm } :=
  ⟨TrayKept.of_powered (fun hr => recordLaw_inrushTimer t tm hr h hf) (Or.inl h) rfl, rfl, fun _ => h, rfl⟩

/-! ### Moves of the rack -/

/-- A run record with the same queues in the same direction, or with its stop queue emptied. It becomes IDLE only with
empty queues, and loses its members only with an empty start queue (R108, R114, R117, R122). -/
structure RunKept (a b : RunRecord) : Prop where
  direction : b.direction = a.direction
  startQueue : b.startQueue = a.startQueue
  stopQueue : b.stopQueue = a.stopQueue ∨ b.stopQueue = []
  members : b.members = a.members ∨ (b.members = [] ∧ a.startQueue = [])
  idle : b.state = .idle → a.state = .idle ∨
    (a.direction = .up ∧ a.startQueue = []) ∨ (a.direction = .down ∧ b.stopQueue = [])

/-- The notices that budget and sequencer post (R8, R10, R13, R86 to R88, R114, R117). -/
def rackNotice : NoticeKind → Bool
  | .trayOn => true
  | .trayFailed => true
  | .trayUnexpectedPg => true
  | .shedTray => true
  | .runDone => true
  | .capacityDeficit => true
  | .deficitUnresolved => true
  | _ => false

/-- What the Tray Controller, the budget and the sequencer do one after another within a command: notices, grants,
deficit flags, run fields, a change of one tray, and the start of a tray of the start queue, in NORMAL only. -/
inductive RackMove : State → State → Prop
  | refl (s : State) : RackMove s s
  | trans {s t u : State} : RackMove s t → RackMove t u → RackMove s u
  | note (k : NoticeKind) (x v : Option Nat) (s : State) (h : rackNotice k = true) : RackMove s (post k x v s)
  | grants (s : State) : RackMove s (recomputeGrants s)
  | deficit (a u : Bool) (s : State) : RackMove s (setDeficit a u s)
  | run (r : RunRecord) (s : State) (h : RunKept s.run r) : RackMove s { s with run := r }
  | tray (i : TrayId) (t : Tray) (s : State) (h : TrayMove s.trays[i] t) : RackMove s (putTray i t s)
  | start (i : TrayId) (s : State) (hn : s.ilc.state = .normal) (hq : i ∈ s.run.startQueue) :
    RackMove s (putTray i (enterInrush s.trays[i]) s)

theorem reachOn_move (i : TrayId) (s : State) (h : s.trays[i].state = .inrush) : RackMove s (reachOn i s) := by
  unfold reachOn
  exact (RackMove.tray i _ s (trayMove_enterOn _ h)).trans (.note .trayOn _ _ _ rfl)

theorem failTray_move (i : TrayId) (c : FailureCause) (s : State) (h : s.trays[i].state ≠ .off) :
    RackMove s (failTray i c s) := by
  have hmove := RackMove.tray i _ s (trayMove_enterFailed s.trays[i] c h)
  unfold failTray
  dsimp only
  split
  · exact hmove
  · exact hmove.trans (.note .trayFailed _ _ _ rfl)

theorem trayPgRise_move (i : TrayId) (s : State) : RackMove s (trayPgRise i s) := by
  unfold trayPgRise
  dsimp only
  split
  · next hs =>
    split
    · split
      · exact reachOn_move i s hs
      · exact .tray i _ s (trayMove_inrushTimer _ _ hs rfl)
    · exact .refl s
  · exact .note .trayUnexpectedPg _ _ s rfl
  · exact .note .trayUnexpectedPg _ _ s rfl
  · split
    · exact .refl s
    · exact .note .trayUnexpectedPg _ _ s rfl
  · exact .refl s
  · exact .refl s

theorem trayPgFall_move (i : TrayId) (s : State) : RackMove s (trayPgFall i s) := by
  unfold trayPgFall
  dsimp only
  split
  · next hs =>
    split
    · exact .tray i _ s (trayMove_inrushTimer _ _ hs rfl)
    · exact .refl s
  · next hs => exact failTray_move i .pgLost s fun h => by cases hs.symm.trans h
  · split
    · exact .tray i _ s (trayMove_enterOff _)
    · exact .refl s
  · exact .refl s
  · exact .refl s
  · exact .refl s

/-! ### The budget -/

theorem deficitShedOne_move (i : TrayId) (s : State) : RackMove s (deficitShedOne i s) := by
  unfold deficitShedOne
  exact (RackMove.tray i _ s (trayMove_shedTray _)).trans (.note .shedTray _ _ _ rfl)

theorem deficitShed_move (l : List TrayId) (s : State) : RackMove s (deficitShed l s) := by
  induction l generalizing s with
  | nil => exact .refl s
  | cons i l ih =>
    unfold deficitShed
    split
    · exact .refl s
    · exact (deficitShedOne_move i s).trans (ih _)

theorem deficitStart_move (s : State) : RackMove s (deficitStart s) := by
  unfold deficitStart
  split
  · exact .refl s
  · exact (RackMove.deficit _ _ s).trans (.note .capacityDeficit _ _ _ rfl)

theorem deficitFinish_move (s : State) : RackMove s (deficitFinish s) := by
  unfold deficitFinish
  repeat' split
  · exact .deficit _ _ s
  · exact .refl s
  · exact (RackMove.deficit _ _ s).trans (.note .deficitUnresolved _ _ _ rfl)

theorem evalDeficit_move (s : State) : RackMove s (evalDeficit s) := by
  unfold evalDeficit
  dsimp only
  repeat' split
  · exact .refl s
  · exact .deficit _ _ s
  · exact (((deficitStart_move s).trans (deficitShed_move _ _)).trans (deficitFinish_move _)).trans (.grants _)

theorem afterBudget_move (s0 s : State) : RackMove s (afterBudget s0 s) := by
  have hgrants : RackMove s (if s.kT = s0.kT then s else recomputeGrants s) := by
    split
    · exact .refl s
    · exact .grants s
  unfold afterBudget
  dsimp only
  split
  · exact hgrants
  · exact hgrants.trans (evalDeficit_move _)

/-! ### Runs -/

/-- An UP run that is complete has an empty start queue (R114). -/
theorem upComplete_queue {s : State} (h : upComplete s = true) : s.run.direction = .up ∧ s.run.startQueue = [] := by
  simp only [upComplete, Bool.and_eq_true, beq_iff_eq, List.isEmpty_iff] at h
  obtain ⟨⟨⟨hdir, -⟩, hqueue⟩, -⟩ := h
  exact ⟨hdir, hqueue⟩

/-- A DOWN run that is complete has an empty stop queue (R117). -/
theorem downComplete_queue {s : State} (h : downComplete s = true) : s.run.direction = .down ∧ s.run.stopQueue = [] := by
  simp only [downComplete, Bool.and_eq_true, beq_iff_eq, List.isEmpty_iff] at h
  obtain ⟨⟨hdir, -⟩, hqueue⟩ := h
  exact ⟨hdir, hqueue⟩

theorem testUpDone_move (s : State) : RackMove s (testUpDone s) := by
  unfold testUpDone
  dsimp only
  split
  · next h =>
    obtain ⟨hdir, hqueue⟩ := upComplete_queue h
    refine (RackMove.note .runDone _ _ s rfl).trans (.run _ _ ⟨rfl, rfl, Or.inl rfl, Or.inr ⟨rfl, ?_⟩, fun _ => ?_⟩)
    · rw [post_run, hqueue]
    · rw [post_run]; exact Or.inr (Or.inl ⟨hdir, hqueue⟩)
  · exact .refl s

theorem testDownDone_move (s : State) : RackMove s (testDownDone s) := by
  unfold testDownDone
  dsimp only
  split
  · next h =>
    obtain ⟨hdir, hqueue⟩ := downComplete_queue h
    refine (RackMove.note .runDone _ _ s rfl).trans (.run _ _ ⟨rfl, rfl, Or.inl rfl, Or.inl rfl, fun _ => ?_⟩)
    exact Or.inr (Or.inr ⟨by rw [post_run, hdir], by rw [post_run, hqueue]⟩)
  · exact .refl s

/-- Run fields other than queues, members and state. -/
theorem RunKept.of_fields {a b : RunRecord} (hd : b.direction = a.direction) (hs : b.startQueue = a.startQueue)
    (hp : b.stopQueue = a.stopQueue) (hm : b.members = a.members) (hst : b.state = a.state) : RunKept a b :=
  ⟨hd, hs, Or.inl hp, Or.inl hm, fun h => Or.inl (hst ▸ h)⟩

theorem entryPg_move (h : TrayId) (s : State) : RackMove s (entryPg h s) := by
  unfold entryPg
  split
  · exact (trayPgRise_move h s).trans (afterBudget_move _ _)
  · exact .refl s

theorem startTray_move (h : TrayId) (s : State) (hn : s.ilc.state = .normal) (hq : h ∈ s.run.startQueue) :
    RackMove s (startTray h s) := by
  have hspacing := RackMove.run { s.run with startSpacing := spacingStart s.params.startSpacing } s
    (RunKept.of_fields rfl rfl rfl rfl rfl)
  have hbegin := RackMove.start h { s with run := { s.run with startSpacing := spacingStart s.params.startSpacing } } hn hq
  unfold startTray beginInrush
  exact hspacing.trans ((hbegin.trans (afterBudget_move _ _)).trans (entryPg_move h _))

/-- A tray that the start rule starts has been admitted, so the shelf is NORMAL (R79, R111). -/
theorem startVerdict_start {s : State} {h : TrayId} (hv : startVerdict s h = .start) :
    s.ilc.state = .normal ∧ s.inrushCount < s.params.slots ∧ s.run.startSpacing = none ∧ rankGateOpen s h = true ∧
      admission s s.trays[h] = .start := by
  unfold startVerdict at hv
  split at hv
  · cases hv
  · next hslots =>
    split at hv
    · cases hv
    · next hspacing =>
      split at hv
      · cases hv
      · next hgate =>
        refine ⟨?_, Nat.lt_of_not_le hslots, by simpa using hspacing, by simpa using hgate, hv⟩
        unfold admission at hv
        split at hv
        · cases hv
        · next hn => exact Decidable.not_not.mp hn

theorem startLoop_move (n : Nat) (s : State) : RackMove s (startLoop n s) := by
  induction n generalizing s with
  | zero => exact .refl s
  | succ n ih =>
    unfold startLoop
    split
    · exact .run _ s (RunKept.of_fields rfl rfl rfl rfl rfl)
    · next h rest hqueue =>
      split
      · exact .refl s
      · exact .run _ s (RunKept.of_fields rfl rfl rfl rfl rfl)
      · next hv =>
        have hmem : h ∈ s.run.startQueue := by rw [hqueue]; exact List.mem_cons_self
        exact (startTray_move h s (startVerdict_start hv).1 hmem).trans (ih _)

theorem evalStart_move (s : State) : RackMove s (evalStart s) := by
  unfold evalStart
  split
  · exact (startLoop_move _ s).trans (testUpDone_move _)
  · exact .refl s

theorem tell_move (s : State) : RackMove s (tell s) := evalStart_move s

theorem stopHead_move (h : TrayId) (s : State) : RackMove s (stopHead h s) := by
  have hstop := (RackMove.tray h _ s (trayMove_stopTray _)).trans (afterBudget_move s _)
  unfold stopHead
  generalize afterBudget s (putTray h (stopTray s.trays[h]) s) = s1 at hstop
  exact hstop.trans (.run _ s1 (RunKept.of_fields rfl rfl rfl rfl rfl))

theorem stopLoop_move (n : Nat) (s : State) : RackMove s (stopLoop n s) := by
  induction n generalizing s with
  | zero => exact .refl s
  | succ n ih =>
    unfold stopLoop
    repeat' split
    · exact .refl s
    · exact .refl s
    · exact (stopHead_move _ s).trans (ih _)

theorem evalStop_move (s : State) : RackMove s (evalStop s) := by
  unfold evalStop
  split
  · exact (stopLoop_move _ s).trans (testDownDone_move _)
  · exact .refl s

theorem seqAfter_move (s0 s : State) : RackMove s (seqAfter s0 s) := by
  unfold seqAfter
  repeat' split
  · exact testDownDone_move s
  · exact (evalStart_move s).trans (testUpDone_move _)
  · exact testUpDone_move s

/-- All that follows a change of trays is moves of the rack (R75, R76, R82, R112, R114, R117). -/
theorem propagate_move (s0 s : State) : RackMove s (propagate s0 s) := by
  unfold propagate
  exact (afterBudget_move s0 s).trans (seqAfter_move s0 _)

/-- Several records stored, each by a move of its own. -/
theorem putTrays_move (l : List TrayId) (f : Tray → Tray) (hf : ∀ t, TrayMove t (f t)) (s : State) :
    RackMove s (putTrays l f s) := by
  unfold putTrays
  induction l generalizing s with
  | nil => exact .refl s
  | cons i l ih => exact (RackMove.tray i _ s (hf _)).trans (ih _)

theorem shedSet_move (l : List TrayId) (s : State) : RackMove s (shedSet l s) := by
  unfold shedSet
  exact (putTrays_move l _ trayMove_shedTray s).trans (propagate_move _ _)

/-! ### What the moves keep -/

theorem RackMove.side {s t : State} (h : RackMove s t) : TraySideOnly s t := by
  induction h with
  | refl s => exact .refl s
  | trans _ _ h k => exact h.trans k
  | note k x v s => exact post_side k x v s
  | grants s => exact recomputeGrants_side s
  | deficit a u s => exact setDeficit_side a u s
  | run r s => exact run_side s r
  | tray i t s => exact putTray_side i t s
  | start i s => exact putTray_side i _ s

theorem RackMove.noticeLaw {s t : State} (h : RackMove s t) (hs : NoticeLaw s) : NoticeLaw t := by
  induction h with
  | refl s => exact hs
  | trans _ _ h k => exact k (h hs)
  | note k x v s => exact post_noticeLaw k x v s hs
  | grants s => exact hs
  | deficit a u s => exact hs
  | run r s => exact hs
  | tray i t s => exact hs
  | start i s => exact hs

/-- What no change of a tray's record and no entry to INRUSH touches stays in every tray. -/
theorem RackMove.tray_field {α : Type} {g : Tray → α} (hmove : ∀ old t, TrayMove old t → g t = g old)
    (hinrush : ∀ t, g (enterInrush t) = g t) {s t : State} (h : RackMove s t) (i : TrayId) : g t.trays[i] = g s.trays[i] := by
  have hput : ∀ (j : TrayId) (t : Tray) (s : State), g t = g s.trays[j] → g (putTray j t s).trays[i] = g s.trays[i] := by
    intro j t s ht
    rw [putTray_get]
    split
    · next e => subst e; exact ht
    · rfl
  induction h with
  | refl s => rfl
  | trans _ _ h k => exact k.trans h
  | note k x v s => rw [post_trays]
  | grants s => rfl
  | deficit a u s => rfl
  | run r s => rfl
  | tray j t s h => exact hput j t s (hmove _ _ h)
  | start j s => exact hput j _ s (hinrush _)

/-- No move of the rack changes a LEAK lockout (R17). -/
theorem RackMove.leak {s t : State} (h : RackMove s t) (i : TrayId) : t.trays[i].locks.leak = s.trays[i].locks.leak :=
  h.tray_field (g := fun t => t.locks.leak) (fun _ _ h => h.leak) (fun _ => rfl) i

theorem RackMove.present {s t : State} (h : RackMove s t) (i : TrayId) : t.trays[i].present = s.trays[i].present :=
  h.tray_field (g := fun t => t.present) (fun _ _ h => h.present) (fun _ => rfl) i

/-- A tray enters INRUSH in NORMAL only (R7, R79). -/
theorem RackMove.inrush {s t : State} (h : RackMove s t) (i : TrayId) (ht : t.trays[i].state = .inrush) :
    s.trays[i].state = .inrush ∨ s.ilc.state = .normal := by
  induction h with
  | refl s => exact Or.inl ht
  | trans h _ ih k =>
    rcases k ht with h1 | h1
    · exact ih h1
    · exact Or.inr (h.side.ilc ▸ h1)
  | note k x v s => exact Or.inl (by simpa using ht)
  | grants s => exact Or.inl ht
  | deficit a u s => exact Or.inl ht
  | run r s => exact Or.inl ht
  | tray j t s h =>
    rw [putTray_get] at ht
    split at ht
    · next e => subst e; exact Or.inl (h.inrush ht)
    · exact Or.inl ht
  | start j s hn => exact Or.inr hn

/-- A run record that keeps its queues keeps the laws of trays, run and queues. -/
theorem rackLaw_of_runKept {s : State} {r : RunRecord} (h : RackLaw s) (hr : RunKept s.run r) :
    RackLaw { s with run := r } := by
  obtain ⟨⟨htray, hsn, hpn, hsd, hpd⟩, horder⟩ := h
  obtain ⟨hd, hs, hp, hm, hidle⟩ := hr
  have hpmem : ∀ i, i ∈ r.stopQueue → i ∈ s.run.stopQueue := fun i hi => by
    rcases hp with hp | hp
    · exact hp ▸ hi
    · rw [hp] at hi; cases hi
  have hpsub : r.stopQueue.Sublist s.run.stopQueue := by
    rcases hp with hp | hp
    · rw [hp]
    · rw [hp]; exact List.nil_sublist _
  have hpne : r.stopQueue ≠ [] → s.run.stopQueue ≠ [] := fun hne e => hne (List.sublist_nil.mp (e ▸ hpsub))
  refine ⟨⟨fun i => ?_, ?_, hpn.sublist hpsub, fun hne => ?_, fun hne => ?_⟩, ?_, ?_⟩
  · obtain ⟨hlock, htimer, hqueue, hmember, hstop, hin, hwait⟩ := htray i
    refine ⟨hlock, htimer, ?_, fun hi => ?_, fun hi => hstop (hpmem i hi), fun hi => ?_, hwait⟩
    · simpa only [hs] using hqueue
    · rcases hm with hm | ⟨-, he⟩
      · rw [hm]; exact hmember (hs ▸ hi)
      · rw [hs, he] at hi; cases hi
    · rcases hm with hm | ⟨he, -⟩
      · exact hin (hm ▸ hi)
      · rw [he] at hi; cases hi
  · simpa only [hs] using hsn
  · rw [hs] at hne
    refine ⟨hd.trans (hsd hne).1, fun e => ?_⟩
    rcases hidle e with h | ⟨-, h⟩ | ⟨hdown, -⟩
    · exact (hsd hne).2 h
    · exact hne h
    · exact absurd (hdown.symm.trans (hsd hne).1) (by decide)
  · obtain ⟨hdown, hst⟩ := hpd (hpne hne)
    refine ⟨hd.trans hdown, fun e => ?_⟩
    rcases hidle e with h | ⟨hup, -⟩ | ⟨-, h⟩
    · exact hst h
    · exact absurd (hup.symm.trans hdown) (by decide)
    · exact hne h
  · simpa only [hs] using horder.1
  · exact horder.2.sublist hpsub

theorem Lockouts.isEmpty_eq {l : Lockouts} (h : l.isEmpty = true) : l = noLockouts := by
  obtain ⟨a, b, c⟩ := l
  cases a <;> cases b <;> cases c <;> simp_all [Lockouts.isEmpty, noLockouts]

/-- A QUEUED tray can enter INRUSH: nothing locks it out and it is present (R7). -/
theorem trayKept_enterInrush {s : State} {i : TrayId} (h : TrayLaw s) (hq : i ∈ s.run.startQueue) :
    TrayKept s.trays[i] (enterInrush s.trays[i]) := by
  obtain ⟨⟨hlock, -⟩, ⟨-, hcause, -⟩, hqueue, -, -, -, hwait⟩ := h.1 i
  have hstate := hqueue.mp hq
  have hlocks := Lockouts.isEmpty_eq (hlock hstate)
  have hnone : s.trays[i].cause = none := by
    cases hc : s.trays[i].cause with
    | none => rfl
    | some c =>
      have hfailed := hcause.mp (by rw [hc]; rfl)
      rw [hstate] at hfailed
      cases hfailed
  refine TrayKept.of_powered (fun _ => recordLaw_enterInrush _ ?_ hnone (hwait hstate).1) (Or.inl rfl) rfl
  rw [hlocks]
  exact ⟨rfl, rfl⟩

/-- The laws of trays, run and queues speak of these two records only. -/
theorem rackLaw_congr {s t : State} (htrays : t.trays = s.trays) (hrun : t.run = s.run) (h : RackLaw s) : RackLaw t := by
  have hstarts : StartsFirst t = StartsFirst s := by
    funext a b
    simp only [StartsFirst, htrays]
  have hstops : StopsFirst t = StopsFirst s := by
    funext a b
    simp only [StopsFirst, htrays]
  simpa only [RackLaw, TrayLaw, OrderLaw, placeLaw, htrays, hrun, hstarts, hstops] using h

/-- Moves of the rack keep the laws of trays, run and queues. -/
theorem RackMove.rackLaw {s t : State} (h : RackMove s t) (hs : RackLaw s) : RackLaw t := by
  induction h with
  | refl s => exact hs
  | trans _ _ h k => exact k (h hs)
  | note k x v s => exact rackLaw_congr (post_trays k x v s) (post_run k x v s) hs
  | grants s => exact hs
  | deficit a u s => exact hs
  | run r s h => exact rackLaw_of_runKept hs h
  | tray i t s h => exact putTray_rackLaw hs h.kept
  | start i s _ hq => exact putTray_rackLaw hs (trayKept_enterInrush hs.1 hq)

end Sys2Proof.Machine
end

section
/-! PROOFS. Ordered lists, and a tray that joins the start queue: the laws of trays, run and queues are kept (R109, R110,
R116). -/
namespace Sys2Proof.Machine

/-! ### Ordered lists -/

theorem mem_insertOrdered {α : Type} (before : α → α → Bool) (x y : α) (l : List α) :
    y ∈ insertOrdered before x l ↔ y = x ∨ y ∈ l := by
  induction l with
  | nil => simp [insertOrdered]
  | cons z l ih =>
    unfold insertOrdered
    split
    · exact List.mem_cons
    · rw [List.mem_cons, ih, List.mem_cons]
      exact or_left_comm

theorem mem_ordered {α : Type} (before : α → α → Bool) (y : α) (l : List α) : y ∈ ordered before l ↔ y ∈ l := by
  unfold ordered
  induction l with
  | nil => exact Iff.rfl
  | cons x l ih => rw [List.foldr_cons, mem_insertOrdered, ih, List.mem_cons]

/-- A strict order in which two different members always stand one before the other. -/
structure StrictBefore {α : Type} (before : α → α → Bool) (r : α → α → Prop) : Prop where
  iff : ∀ a b, before a b = true ↔ r a b
  trans : ∀ a b c, r a b → r b c → r a c
  connex : ∀ a b, a ≠ b → r a b ∨ r b a

theorem pairwise_insertOrdered {α : Type} {before : α → α → Bool} {r : α → α → Prop} (h : StrictBefore before r)
    {x : α} {l : List α} (hx : x ∉ l) (hl : l.Pairwise r) : (insertOrdered before x l).Pairwise r := by
  induction l with
  | nil => exact List.pairwise_singleton r x
  | cons y l ih =>
    obtain ⟨hy, hl⟩ := List.pairwise_cons.mp hl
    obtain ⟨hxy, hxl⟩ := not_or.mp fun h => hx (List.mem_cons.mpr h)
    unfold insertOrdered
    split
    · next hb =>
      have hxy' := (h.iff x y).mp hb
      refine List.pairwise_cons.mpr ⟨fun z hz => ?_, List.pairwise_cons.mpr ⟨hy, hl⟩⟩
      rcases List.mem_cons.mp hz with hz | hz
      · exact hz ▸ hxy'
      · exact h.trans x y z hxy' (hy z hz)
    · next hb =>
      refine List.pairwise_cons.mpr ⟨fun z hz => ?_, ih hxl hl⟩
      rcases (mem_insertOrdered before x z l).mp hz with hz | hz
      · rcases h.connex x y hxy with hr | hr
        · exact absurd ((h.iff x y).mpr hr) hb
        · exact hz ▸ hr
      · exact hy z hz

theorem nodup_insertOrdered {α : Type} (before : α → α → Bool) {x : α} {l : List α} (hx : x ∉ l) (hl : l.Nodup) :
    (insertOrdered before x l).Nodup := by
  induction l with
  | nil => exact List.nodup_singleton x
  | cons y l ih =>
    obtain ⟨hy, hl'⟩ := List.nodup_cons.mp hl
    obtain ⟨hxy, hxl⟩ := not_or.mp fun h => hx (List.mem_cons.mpr h)
    unfold insertOrdered
    split
    · exact List.nodup_cons.mpr ⟨hx, hl⟩
    · refine List.nodup_cons.mpr ⟨fun hm => ?_, ih hxl hl'⟩
      rcases (mem_insertOrdered before x y l).mp hm with hm | hm
      · exact hxy hm.symm
      · exact hy hm

theorem pairwise_ordered {α : Type} {before : α → α → Bool} {r : α → α → Prop} (h : StrictBefore before r)
    {l : List α} (hl : l.Nodup) : (ordered before l).Pairwise r := by
  induction l with
  | nil => exact List.Pairwise.nil
  | cons x l ih =>
    obtain ⟨hx, hl⟩ := List.nodup_cons.mp hl
    exact pairwise_insertOrdered h (fun hm => hx ((mem_ordered before x l).mp hm)) (ih hl)

theorem nodup_ordered {α : Type} (before : α → α → Bool) {l : List α} (hl : l.Nodup) : (ordered before l).Nodup := by
  induction l with
  | nil => exact List.nodup_nil
  | cons x l ih =>
    obtain ⟨hx, hl⟩ := List.nodup_cons.mp hl
    exact nodup_insertOrdered before (fun hm => hx ((mem_ordered before x l).mp hm)) (ih hl)

/-- A list merged member by member into an ordered one. -/
theorem pairwise_merge {α : Type} {before : α → α → Bool} {r : α → α → Prop} (h : StrictBefore before r)
    {l q : List α} (hl : l.Nodup) (hd : ∀ x ∈ l, x ∉ q) (hq : q.Pairwise r) :
    (l.foldr (insertOrdered before) q).Pairwise r ∧ ∀ y, y ∈ l.foldr (insertOrdered before) q ↔ y ∈ l ∨ y ∈ q := by
  induction l with
  | nil => exact ⟨hq, fun y => by simp⟩
  | cons x l ih =>
    obtain ⟨hx, hl⟩ := List.nodup_cons.mp hl
    obtain ⟨hp, hm⟩ := ih hl fun y hy => hd y (List.mem_cons_of_mem x hy)
    have hnot : x ∉ l.foldr (insertOrdered before) q := fun hmem =>
      ((hm x).mp hmem).elim hx (hd x List.mem_cons_self)
    refine ⟨pairwise_insertOrdered h hnot hp, fun y => ?_⟩
    rw [List.foldr_cons, mem_insertOrdered, hm, List.mem_cons, or_assoc]

theorem startsBefore_strict (s : State) : StrictBefore (startsBefore s.trays) (StartsFirst s) where
  iff := startsBefore_iff s
  trans := fun a b c hab hbc => by simp only [StartsFirst, Fin.lt_def] at *; omega
  connex := fun a b hab => by
    have hne : a.val ≠ b.val := fun h => hab (Fin.ext h)
    simp only [StartsFirst, Fin.lt_def]
    omega

theorem stopsBefore_strict (s : State) : StrictBefore (stopsBefore s.trays) (StopsFirst s) where
  iff := stopsBefore_iff s
  trans := fun a b c hab hbc => by simp only [StopsFirst, Fin.lt_def] at *; omega
  connex := fun a b hab => by
    have hne : a.val ≠ b.val := fun h => hab (Fin.ext h)
    simp only [StopsFirst, Fin.lt_def]
    omega

theorem allTrays_nodup : allTrays.Nodup := List.nodup_finRange 24

theorem mem_allTrays (i : TrayId) : i ∈ allTrays := List.mem_finRange i

/-! ### A tray joins -/

/-- A tray that is eligible for a run: present, OFF, AUTO, and nothing locks it out (R6). -/
theorem Tray.eligible_iff (t : Tray) :
    t.eligible = true ↔ t.present = true ∧ t.state = .off ∧ t.owner = .auto ∧ t.locks = noLockouts := by
  simp only [Tray.eligible, Bool.and_eq_true, beq_iff_eq, and_assoc]
  refine and_congr Iff.rfl (and_congr Iff.rfl (and_congr Iff.rfl ⟨Lockouts.isEmpty_eq, fun h => ?_⟩))
  rw [h]
  rfl

/-- An OFF tray has no place in the run (R109, R110, R116). -/
theorem placeLaw_off {s : State} {i : TrayId} (h : placeLaw s i) (hoff : s.trays[i].state = .off) :
    i ∉ s.run.startQueue ∧ i ∉ s.run.stopQueue ∧ i ∉ s.run.members := by
  obtain ⟨hqueue, -, hstop, hin, -⟩ := h
  refine ⟨fun hi => ?_, fun hi => ?_, fun hi => (hin hi).1 hoff⟩
  · cases hoff.symm.trans (hqueue.mp hi)
  · exact Bool.false_ne_true ((Tray.stoppable_of_off _ hoff).symm.trans (hstop hi))

/-- What a join makes of the part: the tray QUEUED, at its place in the queue, and a member (R6, R109, R110). -/
theorem joinQueue_eq {s : State} {i : TrayId} (h : placeLaw s i) (he : s.trays[i].eligible = true) :
    joinQueue i s =
      { s with
        trays := s.trays.set i { s.trays[i] with state := .queued }
        run := { s.run with
          startQueue :=
            insertOrdered (startsBefore (s.trays.set i { s.trays[i] with state := .queued })) i s.run.startQueue
          members := allTrays.filter fun j => j == i || s.run.members.contains j } } := by
  obtain ⟨-, hoff, howner, -⟩ := (Tray.eligible_iff _).mp he
  obtain ⟨hstart, hstop, hmember⟩ := placeLaw_off h hoff
  have hrun : syncRun i { s.trays[i] with state := .queued } s.run = s.run := by
    refine syncRun_eq_self i _ _ (fun hne => absurd rfl hne) (fun _ => hstop) fun hor => ?_
    rcases hor with hor | hor
    · cases hor
    · exact absurd (howner.symm.trans hor) (by decide)
  have hwithout : without i s.run.startQueue = s.run.startQueue :=
    List.filter_eq_self.mpr fun j hj => bne_iff_ne.mpr fun hji => hstart (hji ▸ hj)
  simp only [joinQueue, putTray, hrun, hwithout]

theorem joinQueue_get (i j : TrayId) (s : State) :
    (joinQueue i s).trays[j] = if i = j then { s.trays[i] with state := .queued } else s.trays[j] :=
  putTray_get i j { s.trays[i] with state := .queued } s

/-- A tray that enters the start queue of an UP run with a lawful QUEUED record keeps the laws of trays, run and queues
(R6, R109, R110). -/
theorem enqueue_rackLaw {s t : State} {i : TrayId} {r : Tray} (h : RackLaw s) (hr : recordLaw r)
    (hq : r.state = .queued) (hwait : r.present = true ∧ r.owner = .auto) (hnotStart : i ∉ s.run.startQueue)
    (hnotStop : i ∉ s.run.stopQueue) (hrun : s.run.direction = .up ∧ s.run.state ≠ .idle)
    (htrays : t.trays = s.trays.set i r)
    (hrunEq : t.run = { s.run with
      startQueue := insertOrdered (startsBefore t.trays) i s.run.startQueue
      members := allTrays.filter fun j => j == i || s.run.members.contains j }) : RackLaw t := by
  obtain ⟨⟨htray, hsn, hpn, hsd, hpd⟩, hstart, hstop⟩ := h
  have hself : t.trays[i] = r := by rw [htrays, vector_set_get, if_pos rfl]
  have hother : ∀ j : TrayId, j ≠ i → t.trays[j] = s.trays[j] := fun j hj => by
    rw [htrays, vector_set_get, if_neg (Ne.symm hj)]
  have hmem : ∀ j, j ∈ t.run.startQueue ↔ j = i ∨ j ∈ s.run.startQueue := fun j => by
    rw [hrunEq]; exact mem_insertOrdered _ i j _
  have hmembers : ∀ j, j ∈ t.run.members ↔ j = i ∨ j ∈ s.run.members := fun j => by
    simp [hrunEq, mem_allTrays]
  have hstopEq : t.run.stopQueue = s.run.stopQueue := by rw [hrunEq]
  have hdir : t.run.direction = s.run.direction := by rw [hrunEq]
  have hst : t.run.state = s.run.state := by rw [hrunEq]
  refine ⟨⟨fun j => ?_, ?_, ?_, fun _ => ?_, fun hne => ?_⟩, ?_, ?_⟩
  · by_cases hj : j = i
    · subst hj
      rw [hself]
      refine ⟨hr.1, hr.2, ?_, fun _ => ?_, fun hi => ?_, fun _ => ?_, fun _ => ?_⟩
      · rw [hself]; exact iff_of_true ((hmem j).mpr (Or.inl rfl)) hq
      · exact (hmembers j).mpr (Or.inl rfl)
      · rw [hstopEq] at hi; exact absurd hi hnotStop
      · rw [hself, hq]; exact ⟨by simp, hwait.2⟩
      · rw [hself]; exact hwait
    · have hmemj : j ∈ t.run.startQueue ↔ j ∈ s.run.startQueue := by rw [hmem]; simp [hj]
      have hmembersj : j ∈ t.run.members ↔ j ∈ s.run.members := by rw [hmembers]; simp [hj]
      simpa only [placeLaw, hother j hj, hmemj, hmembersj, hstopEq] using htray j
  · rw [hrunEq]; exact nodup_insertOrdered _ hnotStart hsn
  · rw [hstopEq]; exact hpn
  · rw [hdir, hst]; exact hrun
  · rw [hstopEq] at hne; rw [hdir, hst]; exact hpd hne
  · rw [hrunEq]
    refine pairwise_insertOrdered (startsBefore_strict t) hnotStart (hstart.imp_of_mem fun {a b} ha hb hab => ?_)
    have ha' : a ≠ i := fun e => hnotStart (e ▸ ha)
    have hb' : b ≠ i := fun e => hnotStart (e ▸ hb)
    simpa only [StartsFirst, hother a ha', hother b hb'] using hab
  · rw [hstopEq]
    refine hstop.imp_of_mem fun {a b} ha hb hab => ?_
    have ha' : a ≠ i := fun e => hnotStop (e ▸ ha)
    have hb' : b ≠ i := fun e => hnotStop (e ▸ hb)
    simpa only [StopsFirst, hother a ha', hother b hb'] using hab

/-- A QUEUED record needs no lockout, no cause of failure and no timer (R5, R2). -/
theorem recordLaw_queued (t : Tray) (hq : t.state = .queued) (hl : t.locks = noLockouts) (hc : t.cause = none)
    (ht : t.timer = .idle) (hp : t.present = true) : recordLaw t := by
  simp [recordLaw, lockLaw, timerLaw, hq, hl, hc, ht, hp, timerFits, noLockouts, Lockouts.isEmpty, Tray.enable]

/-- What an OFF tray's record holds (R2, R18). -/
theorem recordLaw_off {t : Tray} (h : recordLaw t) (hoff : t.state = .off) : t.cause = none ∧ t.timer = .idle := by
  obtain ⟨-, htimer, hcause, -⟩ := h
  constructor
  · cases hc : t.cause with
    | none => rfl
    | some c => cases hoff.symm.trans (hcause.mp (by rw [hc]; rfl))
  · rw [hoff] at htimer
    revert htimer
    cases t.timer <;> simp [timerFits]

/-- A tray that joins an UP run keeps the laws of trays, run and queues (R6, R109, R110). -/
theorem joinQueue_rackLaw {s : State} {i : TrayId} (h : RackLaw s) (he : s.trays[i].eligible = true)
    (hrun : s.run.direction = .up ∧ s.run.state ≠ .idle) : RackLaw (joinQueue i s) := by
  obtain ⟨hpresent, hoff, howner, hlocks⟩ := (Tray.eligible_iff _).mp he
  obtain ⟨hlock, htimer, hplace⟩ := h.1.1 i
  obtain ⟨hcause, hidle⟩ := recordLaw_off ⟨hlock, htimer⟩ hoff
  obtain ⟨hnotStart, hnotStop, -⟩ := placeLaw_off hplace hoff
  have hr := recordLaw_queued { s.trays[i] with state := .queued } rfl hlocks hcause hidle hpresent
  exact enqueue_rackLaw h hr rfl ⟨hpresent, howner⟩ hnotStart hnotStop hrun rfl (by rw [joinQueue_eq hplace he])

/-- A FAILED tray has no place in a queue. -/
theorem placeLaw_failed {s : State} {i : TrayId} (h : placeLaw s i) (hf : s.trays[i].state = .failed) :
    i ∉ s.run.startQueue ∧ i ∉ s.run.stopQueue := by
  obtain ⟨hqueue, -, hstop, -, -⟩ := h
  refine ⟨fun hi => ?_, fun hi => ?_⟩
  · cases hf.symm.trans (hqueue.mp hi)
  · exact Bool.false_ne_true ((Tray.stoppable_of_state _ (by rw [hf]; decide) (by rw [hf]; decide)).symm.trans (hstop hi))

/-- The record of a FAILED tray that is retried (R11). -/
def retried (t : Tray) : Tray :=
  { t with state := .queued, retriesUsed := t.retriesUsed + 1, cause := none, timer := .idle }

theorem without_eq_self {i : TrayId} {l : List TrayId} (h : i ∉ l) : without i l = l :=
  List.filter_eq_self.mpr fun _ hj => bne_iff_ne.mpr fun hji => h (hji ▸ hj)

/-- What a retry makes of the part: the tray QUEUED at its place, and a member (R11). -/
theorem retryTray_eq {s : State} {i : TrayId} (h : placeLaw s i) (hf : s.trays[i].state = .failed)
    (ho : s.trays[i].owner = .auto) :
    retryTray i s =
      { s with
        trays := s.trays.set i (retried s.trays[i])
        run := { s.run with
          startQueue := insertOrdered (startsBefore (s.trays.set i (retried s.trays[i]))) i s.run.startQueue
          members := allTrays.filter fun j => j == i || s.run.members.contains j } } := by
  obtain ⟨hnotStart, hnotStop⟩ := placeLaw_failed h hf
  have hrun : syncRun i (retried s.trays[i]) s.run = s.run := by
    refine syncRun_eq_self i _ _ (fun hne => absurd rfl hne) (fun _ => hnotStop) fun hor => ?_
    rcases hor with hor | hor
    · cases hor
    · exact absurd (ho.symm.trans hor) (by decide)
  have hput : putTray i (retried s.trays[i]) s = { s with trays := s.trays.set i (retried s.trays[i]) } := by
    simp only [putTray, hrun]
  have hget : (s.trays.set i (retried s.trays[i]))[i] = retried s.trays[i] := by rw [vector_set_get, if_pos rfl]
  have hagain : ({ (s.trays.set i (retried s.trays[i]))[i] with state := .queued } : Tray) = retried s.trays[i] := by
    rw [hget]; rfl
  have hset : (s.trays.set i (retried s.trays[i])).set i (retried s.trays[i]) = s.trays.set i (retried s.trays[i]) :=
    Vector.set_set ..
  have hretry : retryTray i s = joinQueue i (putTray i (retried s.trays[i]) s) := rfl
  rw [hretry, hput]
  simp only [joinQueue, putTray, hagain, hset, hrun, without_eq_self hnotStart]

theorem retryTray_rackLaw {s : State} {i : TrayId} (h : RackLaw s) (hf : s.trays[i].state = .failed)
    (ho : s.trays[i].owner = .auto) (hl : s.trays[i].locks = noLockouts)
    (hrun : s.run.direction = .up ∧ s.run.state ≠ .idle) : RackLaw (retryTray i s) := by
  obtain ⟨-, ⟨-, -, -, hpresent⟩, hplace⟩ := h.1.1 i
  obtain ⟨hnotStart, hnotStop⟩ := placeLaw_failed hplace hf
  have hp : s.trays[i].present = true := by
    cases hp : s.trays[i].present
    · cases hf.symm.trans (hpresent hp)
    · rfl
  have hr := recordLaw_queued (retried s.trays[i]) rfl hl rfl rfl hp
  exact enqueue_rackLaw h hr rfl ⟨hp, ho⟩ hnotStart hnotStop hrun (by rw [retryTray_eq hplace hf ho])
    (by rw [retryTray_eq hplace hf ho])

end Sys2Proof.Machine
end

section
/-! PROOFS. The moves of the blocks: what the Input Loss Controller, the Rectifier Roster, the Reserve Integrator, the Battery
Test Sequencer, the recovery rule and new runs can do in one command beside the moves of the rack, and what every sequence of
such moves keeps. -/
namespace Sys2Proof.Machine

/-- What the work of these blocks leaves alone: the pins, the module bus, the leak monitor, the link, the parameters, and
of the profile store all but the auto-start mark. -/
structure BlockSide (s t : State) : Prop where
  time : t.time = s.time
  pins : t.pins = s.pins
  mbc : t.mbc = s.mbc
  channels : t.channels = s.channels
  loops : t.loops = s.loops
  stagedScan : t.stagedScan = s.stagedScan
  nextScan : t.nextScan = s.nextScan
  hli : t.hli = s.hli
  store : t.store = { s.store with autoPending := t.store.autoPending }
  params : t.params = s.params
  held : t.held = s.held
  freeCount : t.freeCount = s.freeCount
  pending : t.pending = s.pending

theorem BlockSide.refl (s : State) : BlockSide s s := by constructor <;> rfl

theorem BlockSide.trans {s t u : State} (h : BlockSide s t) (k : BlockSide t u) : BlockSide s u where
  time := k.time.trans h.time
  pins := k.pins.trans h.pins
  mbc := k.mbc.trans h.mbc
  channels := k.channels.trans h.channels
  loops := k.loops.trans h.loops
  stagedScan := k.stagedScan.trans h.stagedScan
  nextScan := k.nextScan.trans h.nextScan
  hli := k.hli.trans h.hli
  store := by rw [k.store, h.store]
  params := k.params.trans h.params
  held := k.held.trans h.held
  freeCount := k.freeCount.trans h.freeCount
  pending := k.pending.trans h.pending

theorem TraySideOnly.block {s t : State} (h : TraySideOnly s t) : BlockSide s t where
  time := h.time
  pins := h.pins
  mbc := h.mbc
  channels := h.channels
  loops := h.loops
  stagedScan := h.stagedScan
  nextScan := h.nextScan
  hli := h.hli
  store := by rw [h.store]
  params := h.params
  held := h.held
  freeCount := h.freeCount
  pending := h.pending

/-- What the blocks do one after another within a command: moves of the rack, notices, changes of the rectifier, battery,
budget, input loss and test records that do not bring the shelf to NORMAL, SHED cleared, the auto-start mark taken, trays that
join an UP run, new runs, and a new stop queue of a DOWN run. -/
inductive RawMove : State → State → Prop
  | refl (s : State) : RawMove s s
  | trans {s t u : State} : RawMove s t → RawMove t u → RawMove s u
  | rack {s t : State} (h : RackMove s t) : RawMove s t
  | note (k : NoticeKind) (x v : Option Nat) (s : State) : RawMove s (post k x v s)
  | records (rects : Vector RectSlot 6) (bbus : Vector Bbu 6) (budget : Budget) (ilc : InputLoss) (test : TestRecord)
      (s : State) (h : ilc.state = s.ilc.state ∨ ilc.state ≠ .normal) :
    RawMove s { s with rects := rects, bbus := bbus, budget := budget, ilc := ilc, test := test }
  | clearShed (s : State) : RawMove s (clearShed s)
  | join (i : TrayId) (s : State) (he : s.trays[i].eligible = true)
      (hrun : s.run.direction = .up ∧ s.run.state ≠ .idle) : RawMove s (joinQueue i s)
  | newUp (scope : Scope) (s : State) (h : s.run.state = .idle) :
    RawMove s
      { s with run := { s.run with direction := .up, state := .running, scope := scope, startQueue := [],
                                   stopQueue := [], members := [], blocked := none }
               store := { s.store with autoPending := false } }
  | newDown (scope : Scope) (s : State) (h : s.run.startQueue = []) :
    RawMove s
      { s with run := { s.run with direction := .down, state := .running, scope := scope, startQueue := [],
                                   stopQueue := stoppableIn s scope, members := [], stoppedCount := 0,
                                   blocked := none }
               store := { s.store with autoPending := false } }
  | stops (q : List TrayId) (s : State) (hrun : s.run.direction = .down ∧ s.run.state ≠ .idle) (hn : q.Nodup)
      (hp : ∀ i ∈ q, s.trays[i].stoppable = true) (ho : q.Pairwise (StopsFirst s)) :
    RawMove s { s with run := { s.run with stopQueue := q } }

/-! ### What the moves keep -/

theorem joinQueue_notices (i : TrayId) (s : State) : (joinQueue i s).notices = s.notices := rfl

theorem RawMove.side {s t : State} (h : RawMove s t) : BlockSide s t := by
  induction h with
  | refl s => exact .refl s
  | trans _ _ h k => exact h.trans k
  | rack h => exact h.side.block
  | note k x v s => exact (post_side k x v s).block
  | records => constructor <;> rfl
  | clearShed s => exact (clearShed_side s).block
  | join i s => exact (joinQueue_side i s).block
  | newUp => constructor <;> rfl
  | newDown => constructor <;> rfl
  | stops => constructor <;> rfl

theorem RawMove.noticeLaw {s t : State} (h : RawMove s t) (hs : NoticeLaw s) : NoticeLaw t := by
  induction h with
  | refl s => exact hs
  | trans _ _ h k => exact k (h hs)
  | rack h => exact h.noticeLaw hs
  | note k x v s => exact post_noticeLaw k x v s hs
  | records => exact hs
  | clearShed s => simpa only [NoticeLaw, clearShed_notices] using hs
  | join i s => simpa only [NoticeLaw, joinQueue_notices] using hs
  | newUp => exact hs
  | newDown => exact hs
  | stops => exact hs

/-- What no move of the rack, no clearing of SHED and no joining of the start queue touches stays in every tray. -/
theorem RawMove.tray_field {α : Type} {g : Tray → α} (hrack : ∀ {s t : State}, RackMove s t → ∀ i : TrayId, g t.trays[i] = g s.trays[i])
    (hfree : ∀ t, g (freeShed t) = g t) (hjoin : ∀ t : Tray, g { t with state := .queued } = g t) {s t : State} (h : RawMove s t)
    (i : TrayId) : g t.trays[i] = g s.trays[i] := by
  induction h with
  | refl s => rfl
  | trans _ _ h k => exact k.trans h
  | rack h => exact hrack h i
  | note k x v s => rw [post_trays]
  | records => rfl
  | clearShed s => rw [clearShed_get]; exact hfree _
  | join j s =>
    rw [joinQueue_get]
    split
    · next e => subst e; exact hjoin _
    · rfl
  | newUp => rfl
  | newDown => rfl
  | stops => rfl

theorem RawMove.leak {s t : State} (h : RawMove s t) (i : TrayId) : t.trays[i].locks.leak = s.trays[i].locks.leak :=
  h.tray_field (g := fun t => t.locks.leak) RackMove.leak (fun _ => rfl) (fun _ => rfl) i

theorem RawMove.present {s t : State} (h : RawMove s t) (i : TrayId) : t.trays[i].present = s.trays[i].present :=
  h.tray_field (g := fun t => t.present) RackMove.present (fun _ => rfl) (fun _ => rfl) i

/-- None of these moves brings the shelf to NORMAL. -/
theorem RawMove.normal {s t : State} (h : RawMove s t) (ht : t.ilc.state = .normal) : s.ilc.state = .normal := by
  induction h with
  | refl s => exact ht
  | trans _ _ h k => exact h (k ht)
  | rack h => exact h.side.ilc ▸ ht
  | note k x v s => exact post_ilc k x v s ▸ ht
  | records rects bbus budget ilc test s h => exact h.elim (fun e => e.symm.trans ht) fun e => absurd ht e
  | clearShed s => exact clearShed_ilc s ▸ ht
  | join i s => exact (joinQueue_side i s).ilc ▸ ht
  | newUp => exact ht
  | newDown => exact ht
  | stops => exact ht

theorem RawMove.inrush {s t : State} (h : RawMove s t) (i : TrayId) (ht : t.trays[i].state = .inrush) :
    s.trays[i].state = .inrush ∨ s.ilc.state = .normal := by
  induction h with
  | refl s => exact Or.inl ht
  | trans h _ ih k => exact (k ht).elim ih fun hn => Or.inr (h.normal hn)
  | rack h => exact h.inrush i ht
  | note k x v s => exact Or.inl (post_trays k x v s ▸ ht)
  | records => exact Or.inl ht
  | clearShed s => rw [clearShed_get] at ht; exact Or.inl ht
  | join j s =>
    rw [joinQueue_get] at ht
    split at ht
    · cases ht
    · exact Or.inl ht
  | newUp => exact Or.inl ht
  | newDown => exact Or.inl ht
  | stops => exact Or.inl ht

theorem trayKept_freeShed (t : Tray) : TrayKept t (freeShed t) := by
  refine TrayKept.of_same (fun hr => ?_) rfl rfl id id
  obtain ⟨⟨hq, hen⟩, htimer⟩ := hr
  refine ⟨⟨fun hs => ?_, fun he => ⟨(hen he).1, rfl⟩⟩, htimer⟩
  have hlocks : t.locks = noLockouts := Lockouts.isEmpty_eq (hq hs)
  simp only [freeShed, hlocks]
  rfl

/-- Records of all trays changed at once, each keeping its state, owner, presence and configuration, with the run as it
is. -/
theorem rackLaw_of_trays {s t : State} (h : RackLaw s) (hrun : t.run = s.run)
    (hr : ∀ i : TrayId, recordLaw s.trays[i] → recordLaw t.trays[i])
    (hs : ∀ i : TrayId, t.trays[i].state = s.trays[i].state)
    (ho : ∀ i : TrayId, s.trays[i].owner = .auto → t.trays[i].owner = .auto)
    (hp : ∀ i : TrayId, t.trays[i].present = s.trays[i].present)
    (hc : ∀ i : TrayId, t.trays[i].cfg = s.trays[i].cfg) : RackLaw t := by
  obtain ⟨⟨htray, hqueue⟩, hstart, hstop⟩ := h
  have hstops : ∀ i : TrayId, s.trays[i].stoppable = true → t.trays[i].stoppable = true := fun i hst => by
    have hauto : s.trays[i].owner = .auto := by
      simp only [Tray.stoppable, Bool.and_eq_true, beq_iff_eq] at hst
      exact hst.1.2
    simpa only [Tray.stoppable, Tray.enable, hs, hc, ho i hauto, hauto] using hst
  refine ⟨⟨fun i => ?_, hrun ▸ hqueue⟩, ?_, ?_⟩
  · obtain ⟨hlock, htimer, hq, hm, hst, hin, hw⟩ := htray i
    have hrec := hr i ⟨hlock, htimer⟩
    refine ⟨hrec.1, hrec.2, ?_⟩
    simp only [placeLaw, hrun, hs, hp]
    exact ⟨hq, hm, fun hi => hstops i (hst hi), fun hi => ⟨(hin hi).1, ho i (hin hi).2⟩,
      fun hqueued => ⟨(hw hqueued).1, ho i (hw hqueued).2⟩⟩
  · rw [hrun]
    refine hstart.imp fun {a b} hab => ?_
    simpa only [StartsFirst, hc] using hab
  · rw [hrun]
    refine hstop.imp fun {a b} hab => ?_
    simpa only [StopsFirst, hc] using hab

theorem freeShed_fields (t : Tray) :
    (freeShed t).state = t.state ∧ (freeShed t).owner = t.owner ∧ (freeShed t).present = t.present ∧
      (freeShed t).cfg = t.cfg := ⟨rfl, rfl, rfl, rfl⟩

theorem clearShed_rackLaw {s : State} (h : RackLaw s) : RackLaw (clearShed s) := by
  refine rackLaw_of_trays h (clearShed_run s) (fun i hr => ?_) (fun i => ?_) (fun i hr => ?_) (fun i => ?_) fun i => ?_
  all_goals rw [clearShed_get]
  · exact (trayKept_freeShed _).record hr
  · exact (freeShed_fields _).1
  · exact (freeShed_fields _).2.1.trans hr
  · exact (freeShed_fields _).2.2.1
  · exact (freeShed_fields _).2.2.2

/-- With empty start queues and no members, the laws ask of a run its direction and its stop queue only. -/
theorem rackLaw_of_newRun {s : State} {r : RunRecord} (h : RackLaw s) (hs : s.run.startQueue = [])
    (hq : r.startQueue = []) (hm : r.members = []) (hn : r.stopQueue.Nodup)
    (hd : r.stopQueue ≠ [] → r.direction = .down ∧ r.state ≠ .idle)
    (hp : ∀ i ∈ r.stopQueue, s.trays[i].stoppable = true) (ho : r.stopQueue.Pairwise (StopsFirst s)) :
    RackLaw { s with run := r } := by
  obtain ⟨⟨htray, -⟩, -⟩ := h
  refine ⟨⟨fun i => ?_, ?_, hn, fun hne => absurd hq hne, hd⟩, ?_, ho⟩
  · obtain ⟨hlock, htimer, hqueue, -, -, -, hwait⟩ := htray i
    refine ⟨hlock, htimer, ?_, fun hi => ?_, hp i, fun hi => ?_, hwait⟩
    · simpa only [hq, hs] using hqueue
    · rw [hq] at hi; cases hi
    · rw [hm] at hi; cases hi
  · rw [hq]; exact List.nodup_nil
  · change r.startQueue.Pairwise _
    rw [hq]
    exact List.Pairwise.nil

/-- In IDLE both queues are empty (R108). -/
theorem queues_of_idle {r : RunRecord} (h : queueLaw r) (hi : r.state = .idle) : r.startQueue = [] ∧ r.stopQueue = [] := by
  obtain ⟨-, -, hs, hp⟩ := h
  exact ⟨Decidable.byContradiction fun hne => (hs hne).2 hi, Decidable.byContradiction fun hne => (hp hne).2 hi⟩

theorem stoppableIn_mem {s : State} {scope : Scope} {i : TrayId} (h : i ∈ stoppableIn s scope) :
    inScope s.trays scope i = true ∧ s.trays[i].stoppable = true := by
  simpa [stoppableIn, mem_ordered, mem_allTrays, -Fin.getElem_fin] using h

theorem stoppableIn_nodup (s : State) (scope : Scope) : (stoppableIn s scope).Nodup :=
  nodup_ordered _ (allTrays_nodup.filter _)

theorem stoppableIn_order (s : State) (scope : Scope) : (stoppableIn s scope).Pairwise (StopsFirst s) :=
  pairwise_ordered (stopsBefore_strict s) (allTrays_nodup.filter _)

/-- Moves of the blocks keep the laws of trays, run and queues. -/
theorem RawMove.rackLaw {s t : State} (h : RawMove s t) (hs : RackLaw s) : RackLaw t := by
  induction h with
  | refl s => exact hs
  | trans _ _ h k => exact k (h hs)
  | rack h => exact h.rackLaw hs
  | note k x v s => exact rackLaw_congr (post_trays k x v s) (post_run k x v s) hs
  | records => exact rackLaw_congr rfl rfl hs
  | clearShed s => exact clearShed_rackLaw hs
  | join i s he hrun => exact joinQueue_rackLaw hs he hrun
  | newUp scope s h =>
    refine rackLaw_congr rfl rfl (rackLaw_of_newRun (r := { s.run with direction := .up, state := .running, scope := scope, startQueue := [], stopQueue := [], members := [], blocked := none }) hs (queues_of_idle hs.1.2 h).1 rfl rfl List.nodup_nil (fun hne => absurd rfl hne) ?_ List.Pairwise.nil)
    intro i hi
    cases hi
  | newDown scope s h =>
    exact rackLaw_congr rfl rfl (rackLaw_of_newRun (r := { s.run with direction := .down, state := .running, scope := scope, startQueue := [], stopQueue := stoppableIn s scope, members := [], stoppedCount := 0, blocked := none }) hs h rfl rfl (stoppableIn_nodup s scope) (fun _ => ⟨rfl, by simp⟩) (fun i hi => (stoppableIn_mem hi).2) (stoppableIn_order s scope))
  | stops q s hrun hn hp ho =>
    obtain ⟨⟨htray, hsn, -, hsd, -⟩, hstart, -⟩ := hs
    refine ⟨⟨fun i => ?_, hsn, hn, hsd, fun _ => hrun⟩, hstart, ho⟩
    obtain ⟨hlock, htimer, hqueue, hmember, -, hin, hwait⟩ := htray i
    exact ⟨hlock, htimer, hqueue, hmember, hp i, hin, hwait⟩

/-! ### The laws of shelf and test -/

/-- The input has failed for longer than a sag, and the shelf is not back in NORMAL (R92). -/
abbrev riding (st : ShelfState) : Prop := st = .rideThrough ∨ st = .restoreHold ∨ st = .exhausted

/-- What happens to the input loss and test records keeps their laws; and a shelf that is riding an input loss through
stays there, with no lower stage (R92, R97, R147). -/
structure PowerMove (s t : State) : Prop where
  law : ShelfLaw s ∧ TestLaw s → ShelfLaw t ∧ TestLaw t
  stage : riding s.ilc.state → riding t.ilc.state ∧ s.ilc.stage ≤ t.ilc.stage

theorem PowerMove.trans {s t u : State} (h : PowerMove s t) (k : PowerMove t u) : PowerMove s u :=
  ⟨k.law ∘ h.law, fun hs => ⟨(k.stage (h.stage hs).1).1, (h.stage hs).2.trans (k.stage (h.stage hs).1).2⟩⟩

/-- Both laws speak of the two records only. -/
theorem powerLaw_congr {s t : State} (hi : t.ilc = s.ilc) (ht : t.test = s.test) (h : ShelfLaw s ∧ TestLaw s) :
    ShelfLaw t ∧ TestLaw t := by
  simpa only [ShelfLaw, TestLaw, State.testActive, hi, ht] using h

theorem PowerMove.of_eq {s t : State} (hi : t.ilc = s.ilc) (ht : t.test = s.test) : PowerMove s t :=
  ⟨powerLaw_congr hi ht, fun h => by rw [hi]; exact ⟨h, Nat.le_refl _⟩⟩

theorem PowerMove.refl (s : State) : PowerMove s s := .of_eq rfl rfl

theorem TraySideOnly.power {s t : State} (h : TraySideOnly s t) : PowerMove s t := .of_eq h.ilc h.test

/-! ### The moves of the blocks -/

/-- Raw moves that keep the laws of shelf and test: what the shared operations do as wholes. -/
structure BlockMove (s t : State) : Prop where
  raw : RawMove s t
  power : PowerMove s t

namespace BlockMove

theorem refl (s : State) : BlockMove s s := ⟨.refl s, .refl s⟩

theorem trans {s t u : State} (h : BlockMove s t) (k : BlockMove t u) : BlockMove s u :=
  ⟨h.raw.trans k.raw, h.power.trans k.power⟩

theorem rack {s t : State} (h : RackMove s t) : BlockMove s t := ⟨.rack h, h.side.power⟩

theorem note (k : NoticeKind) (x v : Option Nat) (s : State) : BlockMove s (post k x v s) :=
  ⟨.note k x v s, (post_side k x v s).power⟩

theorem clearShed (s : State) : BlockMove s (clearShed s) := ⟨.clearShed s, (clearShed_side s).power⟩

theorem join (i : TrayId) (s : State) (he : s.trays[i].eligible = true)
    (hrun : s.run.direction = .up ∧ s.run.state ≠ .idle) : BlockMove s (joinQueue i s) :=
  ⟨.join i s he hrun, (joinQueue_side i s).power⟩

theorem side {s t : State} (h : BlockMove s t) : BlockSide s t := h.raw.side

theorem noticeLaw {s t : State} (h : BlockMove s t) (hs : NoticeLaw s) : NoticeLaw t := h.raw.noticeLaw hs

theorem leak {s t : State} (h : BlockMove s t) (i : TrayId) : t.trays[i].locks.leak = s.trays[i].locks.leak := h.raw.leak i

theorem present {s t : State} (h : BlockMove s t) (i : TrayId) : t.trays[i].present = s.trays[i].present := h.raw.present i

theorem normal {s t : State} (h : BlockMove s t) (ht : t.ilc.state = .normal) : s.ilc.state = .normal := h.raw.normal ht

theorem inrush {s t : State} (h : BlockMove s t) (i : TrayId) (ht : t.trays[i].state = .inrush) :
    s.trays[i].state = .inrush ∨ s.ilc.state = .normal := h.raw.inrush i ht

theorem rackLaw {s t : State} (h : BlockMove s t) (hs : RackLaw s) : RackLaw t := h.raw.rackLaw hs

/-- A move made only if something holds. -/
theorem ite {p : Prop} [Decidable p] {s t u : State} (ht : p → BlockMove s t) (hu : ¬ p → BlockMove s u) :
    BlockMove s (if p then t else u) := by
  split
  · next h => exact ht h
  · next h => exact hu h

end BlockMove

end Sys2Proof.Machine
end

section
/-! PROOFS. Every shared operation of the blocks is made of their moves. -/
namespace Sys2Proof.Machine

/-! ### One record -/

/-- A change of rectifier, battery and budget records. -/
theorem records_move (rects : Vector RectSlot 6) (bbus : Vector Bbu 6) (budget : Budget) (s : State) :
    BlockMove s { s with rects := rects, bbus := bbus, budget := budget } :=
  ⟨.records rects bbus budget s.ilc s.test s (Or.inl rfl), .of_eq rfl rfl⟩

theorem budget_move (b : Budget) (s : State) : BlockMove s { s with budget := b } := records_move s.rects s.bbus b s

theorem putRect_move (r : RectId) (x : RectSlot) (s : State) : BlockMove s (putRect r x s) :=
  records_move (s.rects.set r x) s.bbus s.budget s

theorem putBbu_move (b : BbuId) (u : Bbu) (s : State) : BlockMove s (putBbu b u s) :=
  records_move s.rects (s.bbus.set b u) s.budget s

theorem test_raw (r : TestRecord) (s : State) : RawMove s { s with test := r } :=
  .records s.rects s.bbus s.budget s.ilc r s (Or.inl rfl)

theorem ilc_raw (x : InputLoss) (s : State) (h : x.state = s.ilc.state ∨ x.state ≠ .normal) :
    RawMove s { s with ilc := x } := .records s.rects s.bbus s.budget x s.test s h

/-- A move that follows a change of the input loss record. -/
theorem RawMove.after_ilc {s t : State} {x : InputLoss} (k : RawMove { s with ilc := x } t)
    (h : x.state = s.ilc.state ∨ x.state ≠ .normal) : RawMove s t := (ilc_raw x s h).trans k

/-- A change of the input loss record that leaves alone what its law speaks of. -/
structure IlcStill (a b : InputLoss) : Prop where
  state : b.state = a.state
  ifail : b.ifail = a.ifail
  qualify : b.qualify.isSome = a.qualify.isSome
  restore : b.restore.isSome = a.restore.isSome
  stage : b.stage = a.stage

/-- A change of the test record that leaves alone what its law speaks of. -/
structure TestStill (a b : TestRecord) : Prop where
  phase : b.phase = a.phase
  target : b.target = a.target
  suspended : b.suspended = a.suspended
  outcome : b.outcome = a.outcome

theorem PowerMove.of_still {s t : State} (h : IlcStill s.ilc t.ilc) (ht : TestStill s.test t.test) : PowerMove s t := by
  obtain ⟨hstate, hifail, hqualify, hrestore, hstage⟩ := h
  obtain ⟨hphase, htarget, hsuspended, houtcome⟩ := ht
  refine ⟨fun hs => ?_, fun hr => ⟨hstate ▸ hr, hstage.ge⟩⟩
  simpa only [ShelfLaw, TestLaw, State.testActive, hphase, htarget, hsuspended, houtcome, hstate, hifail, hqualify,
    hrestore, hstage] using hs

theorem ilc_move (x : InputLoss) (s : State) (h : IlcStill s.ilc x) : BlockMove s { s with ilc := x } :=
  ⟨ilc_raw x s (Or.inl h.state), .of_still h ⟨rfl, rfl, rfl, rfl⟩⟩

/-- A change of the test record alone keeps the laws if it keeps that record's law. -/
theorem PowerMove.of_test {s t : State} (hi : t.ilc = s.ilc) (h : TestLaw s → TestLaw t) : PowerMove s t :=
  ⟨fun hs => ⟨by simpa only [ShelfLaw, hi] using hs.1, h hs.2⟩, fun hr => by rw [hi]; exact ⟨hr, Nat.le_refl _⟩⟩

theorem recomputeFloor_move (s : State) : BlockMove s (recomputeFloor s) := budget_move _ s

theorem recomputeGrants_move (s : State) : BlockMove s (recomputeGrants s) := .rack (.grants s)

/-! ### Runs -/

theorem newUp_move (scope : Scope) (s : State) (h : s.run.state = .idle) :
    BlockMove s
      { s with run := { s.run with direction := .up, state := .running, scope := scope, startQueue := [],
                                   stopQueue := [], members := [], blocked := none }
               store := { s.store with autoPending := false } } := ⟨.newUp scope s h, .of_eq rfl rfl⟩

theorem newDown_move (scope : Scope) (s : State) (h : s.run.startQueue = []) :
    BlockMove s
      { s with run := { s.run with direction := .down, state := .running, scope := scope, startQueue := [],
                                   stopQueue := stoppableIn s scope, members := [], stoppedCount := 0,
                                   blocked := none }
               store := { s.store with autoPending := false } } := ⟨.newDown scope s h, .of_eq rfl rfl⟩

/-- Trays that are eligible join one after another. -/
theorem joinAll_move (l : List TrayId) (s : State) (hl : l.Nodup) (he : ∀ i ∈ l, s.trays[i].eligible = true)
    (hrun : s.run.direction = .up ∧ s.run.state ≠ .idle) : BlockMove s (joinAll l s) := by
  unfold joinAll
  induction l generalizing s with
  | nil => exact .refl s
  | cons i l ih =>
    obtain ⟨hi, hl⟩ := List.nodup_cons.mp hl
    refine (BlockMove.join i s (he i List.mem_cons_self) hrun).trans (ih _ hl (fun j hj => ?_) hrun)
    have hne : i ≠ j := fun e => hi (e ▸ hj)
    rw [joinQueue_get, if_neg hne]
    exact he j (List.mem_cons_of_mem i hj)

theorem createUp_move (scope : Scope) (l : List TrayId) (s : State) (hl : l.Nodup)
    (he : ∀ i ∈ l, s.trays[i].eligible = true) (hidle : s.run.state = .idle) : BlockMove s (createUp scope l s) := by
  have hjoin := joinAll_move l
    { s with run := { s.run with direction := .up, state := .running, scope := scope, startQueue := [],
                                 stopQueue := [], members := [], blocked := none }
             store := { s.store with autoPending := false } } hl he ⟨rfl, by simp⟩
  unfold createUp
  exact ((newUp_move scope s hidle).trans hjoin).trans (.rack (evalStart_move _))

theorem createDown_move (scope : Scope) (s : State) (h : s.run.startQueue = []) : BlockMove s (createDown scope s) := by
  unfold createDown
  exact (newDown_move scope s h).trans (.rack (evalStop_move _))

theorem eligibleIn_mem {s : State} {scope : Scope} {i : TrayId} (h : i ∈ eligibleIn s scope) :
    inScope s.trays scope i = true ∧ s.trays[i].eligible = true := by
  simpa [eligibleIn, mem_allTrays, -Fin.getElem_fin] using h

theorem eligibleIn_nodup (s : State) (scope : Scope) : (eligibleIn s scope).Nodup := allTrays_nodup.filter _

theorem recovery_move (l : List TrayId) (s : State) (hl : l.Nodup) : BlockMove s (recovery l s) := by
  have hr : (l.filter fun i => s.trays[i].eligible).Nodup := hl.filter _
  have he : ∀ i ∈ l.filter fun i => s.trays[i].eligible, s.trays[i].eligible = true :=
    fun i hi => (List.mem_filter.mp hi).2
  unfold recovery
  dsimp only
  split
  · exact .refl s
  · split
    · next hidle => exact createUp_move _ _ s hr he hidle
    · exact .refl s
    · next hup hne =>
      exact (joinAll_move _ s hr he ⟨hup, hne⟩).trans (.rack (evalStart_move _))

theorem autoStartTest_move (s : State) : BlockMove s (autoStartTest s) := by
  unfold autoStartTest
  refine BlockMove.ite (fun h => ?_) fun _ => .refl s
  have hidle : s.run.state = .idle := by
    simp only [autoStartReady, Bool.and_eq_true, beq_iff_eq] at h
    exact h.2
  exact createUp_move _ _ s (eligibleIn_nodup s .all) (fun i hi => (eligibleIn_mem hi).2) hidle

/-- Of a start queue whose trays have all gone OFF nothing is left. -/
theorem putTrays_enterOff_startQueue (l : List TrayId) (s : State) (j : TrayId) :
    j ∈ (putTrays l enterOff s).run.startQueue ↔ j ∈ s.run.startQueue ∧ j ∉ l := by
  unfold putTrays
  induction l generalizing s with
  | nil => simp
  | cons i l ih =>
    rw [List.foldl_cons, ih]
    have hstart : (putTray i (enterOff s.trays[i]) s).run.startQueue = without i s.run.startQueue := rfl
    rw [hstart, mem_without, List.mem_cons, not_or, and_assoc]

theorem dissolveUp_move (s : State) : RackMove s (dissolveUp s) := by
  have hmove := putTrays_move s.run.startQueue enterOff trayMove_enterOff s
  have hempty : (putTrays s.run.startQueue enterOff s).run.startQueue = [] :=
    List.eq_nil_iff_forall_not_mem.mpr fun j hj => by
      obtain ⟨h1, h2⟩ := (putTrays_enterOff_startQueue _ s j).mp hj
      exact h2 h1
  unfold dissolveUp
  generalize putTrays s.run.startQueue enterOff s = s1 at hmove hempty
  exact hmove.trans (.run _ s1 ⟨rfl, hempty.symm, Or.inl rfl, Or.inr ⟨rfl, hempty⟩, Or.inl⟩)

/-! ### The shelf -/

theorem budgetHearsShelf_move (s : State) : RackMove s (budgetHearsShelf s) := by
  unfold budgetHearsShelf
  dsimp only
  split
  · exact (RackMove.grants s).trans (evalDeficit_move _)
  · exact (RackMove.grants s).trans (.deficit _ _ _)

theorem sequencerHearsShelf_move (s : State) : RackMove s (sequencerHearsShelf s) := by
  unfold sequencerHearsShelf
  split
  · split
    · exact (RackMove.run { s.run with state := .running } s ⟨rfl, rfl, Or.inl rfl, Or.inl rfl, fun h => by cases h⟩).trans
        (evalStart_move _)
    · exact tell_move s
  · split
    · exact (RackMove.run { s.run with state := .held, blocked := none } s
        ⟨rfl, rfl, Or.inl rfl, Or.inl rfl, fun h => by cases h⟩).trans (testUpDone_move _)
    · exact .refl s

/-- The hand-over of a new shelf power state is moves of the rack from the state in which it stands (R93). -/
theorem setShelf_rackMove (new : ShelfState) (s : State) :
    RackMove { s with ilc := { s.ilc with state := new } } (setShelf new s) := by
  unfold setShelf
  exact ((budgetHearsShelf_move _).trans (seqAfter_move _ _)).trans (sequencerHearsShelf_move _)

theorem setShelf_ilc (new : ShelfState) (s : State) : (setShelf new s).ilc = { s.ilc with state := new } :=
  (setShelf_rackMove new s).side.ilc

theorem setShelf_test (new : ShelfState) (s : State) : (setShelf new s).test = s.test :=
  (setShelf_rackMove new s).side.test

theorem setShelf_params (new : ShelfState) (s : State) : (setShelf new s).params = s.params :=
  (setShelf_rackMove new s).side.params

theorem setShelf_raw (new : ShelfState) (s : State) (h : new ≠ .normal) : RawMove s (setShelf new s) :=
  (ilc_raw _ s (Or.inr h)).trans (.rack (setShelf_rackMove new s))

/-- An operation on the input loss record that leaves the test record alone: what it has to keep. -/
theorem PowerMove.of_ilc {s t : State} {x : InputLoss} (hi : t.ilc = x) (ht : t.test = s.test)
    (hlaw : ShelfLaw s → ShelfLaw { s with ilc := x })
    (hactive : s.testActive = true → s.ilc.state = .normal ∨ s.ilc.state = .sagQualify → x.state = .normal ∨ x.state = .sagQualify)
    (hstage : riding s.ilc.state → riding x.state ∧ s.ilc.stage ≤ x.stage) : PowerMove s t := by
  refine ⟨fun ⟨hshelf, htest⟩ => ⟨?_, ?_⟩, fun hr => hi ▸ hstage hr⟩
  · simpa only [ShelfLaw, hi] using hlaw hshelf
  · obtain ⟨hpower, hrest⟩ := htest
    simp only [TestLaw, State.testActive, ht, hi] at hpower hrest hactive ⊢
    exact ⟨fun ha => ⟨hactive ha (hpower ha).1, (hpower ha).2⟩, hrest⟩

theorem enterRestoreHold_raw (s : State) : RawMove s (enterRestoreHold s) := by
  unfold enterRestoreHold
  exact (setShelf_raw .restoreHold _ (by decide)).after_ilc (Or.inl rfl)

theorem enterRestoreHold_ilc (s : State) :
    (enterRestoreHold s).ilc = { s.ilc with restore := some (s.params.restoreHold * 1000), state := .restoreHold } :=
  setShelf_ilc _ _

theorem enterRestoreHold_test (s : State) : (enterRestoreHold s).test = s.test := setShelf_test _ _

/-- The part in EXHAUSTED, its exhaustion set shed (R99). -/
def exhaustedPart (s : State) : State :=
  let s1 := setShelf .exhausted { s with ilc := { s.ilc with restore := none } }
  post .reserveExhausted none (some (exhaustionSet s1).length) (shedSet (exhaustionSet s1) s1)

theorem enterExhausted_eq (s : State) :
    enterExhausted s = if (exhaustedPart s).ilc.ifail then exhaustedPart s else enterRestoreHold (exhaustedPart s) := by
  unfold enterExhausted exhaustedPart
  dsimp only

theorem exhaustedPart_raw (s : State) : RawMove s (exhaustedPart s) := by
  have hset : RawMove s (setShelf .exhausted { s with ilc := { s.ilc with restore := none } }) :=
    (setShelf_raw .exhausted _ (by decide)).after_ilc (Or.inl rfl)
  unfold exhaustedPart
  dsimp only
  generalize setShelf .exhausted { s with ilc := { s.ilc with restore := none } } = s1 at hset
  exact (hset.trans (.rack (shedSet_move _ s1))).trans (.note _ _ _ _)

theorem exhaustedPart_ilc (s : State) : (exhaustedPart s).ilc = { s.ilc with restore := none, state := .exhausted } := by
  unfold exhaustedPart
  dsimp only
  rw [post_ilc, (shedSet_side _ _).ilc, setShelf_ilc]

theorem exhaustedPart_test (s : State) : (exhaustedPart s).test = s.test := by
  unfold exhaustedPart
  dsimp only
  rw [post_test, (shedSet_side _ _).test, setShelf_test]

/-- EXHAUSTED is entered from RIDE-THROUGH, or from RESTORE-HOLD, whose released IFAIL brings RESTORE-HOLD back at once
(R99). -/
theorem enterExhausted_move (s : State) (h : s.ilc.state = .rideThrough ∨ s.ilc.state = .restoreHold) :
    BlockMove s (enterExhausted s) := by
  have hraw := exhaustedPart_raw s
  have hilc := exhaustedPart_ilc s
  have htest := exhaustedPart_test s
  rw [enterExhausted_eq]
  generalize exhaustedPart s = u at hraw hilc htest ⊢
  have hifail : u.ilc.ifail = s.ilc.ifail := by rw [hilc]
  split
  · next hf =>
    rw [hifail] at hf
    refine ⟨hraw, .of_ilc hilc htest (fun hs => ?_) (fun _ hn => ?_) fun _ => ⟨Or.inr (Or.inr rfl), Nat.le_refl _⟩⟩
    · rcases h with h | h <;> simp_all [ShelfLaw, expectedIfail]
    · rcases h with h | h <;> simp_all
  · next hf =>
    rw [hifail] at hf
    refine ⟨hraw.trans (enterRestoreHold_raw u),
      .of_ilc (enterRestoreHold_ilc u) ((enterRestoreHold_test u).trans htest) (fun hs => ?_) (fun _ hn => ?_) fun _ =>
        ⟨Or.inr (Or.inl rfl), by rw [hilc]⟩⟩
    · rcases h with h | h <;> simp_all [ShelfLaw, expectedIfail]
    · rcases h with h | h <;> simp_all

theorem raiseStage_raw (k : Nat) (s : State) : RawMove s (raiseStage k s) := by
  unfold raiseStage
  exact ((RawMove.rack (shedSet_move _ _)).trans (.note _ _ _ _)).after_ilc (Or.inl rfl)

theorem raiseStage_ilc (k : Nat) (s : State) : (raiseStage k s).ilc = { s.ilc with stage := k } := by
  unfold raiseStage
  dsimp only
  rw [post_ilc, (shedSet_side _ _).ilc]

theorem raiseStage_test (k : Nat) (s : State) : (raiseStage k s).test = s.test := by
  unfold raiseStage
  dsimp only
  rw [post_test, (shedSet_side _ _).test]

theorem reachedStage_le (p : Params) (t : Nat) : reachedStage p t ≤ 3 := by
  unfold reachedStage
  repeat' split
  all_goals decide

/-- The stage rises in RIDE-THROUGH, to 3 at most (R97). -/
theorem evalStage_move (s : State) (h : s.ilc.state = .rideThrough) : BlockMove s (evalStage s) := by
  unfold evalStage
  refine BlockMove.ite (fun hk => ?_) fun _ => .refl s
  have htop := reachedStage_le s.params s.ilc.lastTEst
  refine ⟨raiseStage_raw _ s, .of_ilc (raiseStage_ilc _ s) (raiseStage_test _ s) (fun hs => ?_) (fun _ hn => hn)
    fun hr => ⟨hr, Nat.le_of_lt hk⟩⟩
  simp_all [ShelfLaw]

theorem evalRide_move (s : State) (h : s.ilc.state = .rideThrough) : BlockMove s (evalRide s) := by
  unfold evalRide
  exact BlockMove.ite (fun _ => enterExhausted_move s (Or.inl h)) fun _ => evalStage_move s h

theorem tEstArrival_move (s : State) : BlockMove s (tEstArrival s) := by
  have hstore := ilc_move { s.ilc with lastR := s.reserve, lastTEst := s.tEst } s ⟨rfl, rfl, rfl, rfl, rfl⟩
  unfold tEstArrival
  dsimp only
  split
  · next h => exact hstore.trans (evalRide_move _ h)
  · next h => exact BlockMove.ite (fun _ => hstore.trans (enterExhausted_move _ (Or.inr h))) fun _ => hstore
  · exact hstore
  · exact hstore
  · exact hstore

theorem reserveChanged_move (s : State) : BlockMove s (reserveChanged s) := by
  unfold reserveChanged
  exact BlockMove.ite (fun _ => tEstArrival_move s) fun _ => (tEstArrival_move s).trans (.rack (tell_move _))

/-! ### The battery test -/

theorem setTestPower_move (b : BbuId) (w : Nat) (s : State) : BlockMove s (setTestPower b w s) := putBbu_move b _ s

theorem clearTestPower_move (s : State) : BlockMove s (clearTestPower s) := by
  unfold clearTestPower
  split
  · exact setTestPower_move _ _ s
  · exact .refl s

theorem clearTestPower_ilc (s : State) : (clearTestPower s).ilc = s.ilc := by
  unfold clearTestPower
  split <;> rfl

theorem clearTestPower_test (s : State) : (clearTestPower s).test = s.test := by
  unfold clearTestPower
  split <;> rfl

/-- The test record after a test has ended early (R156). -/
def testAborted (why : AbortReason) (t : TestRecord) : TestRecord :=
  { t with phase := .done, prepare := .stopped, suspended := false, outcome := some (.aborted why) }

/-- What an abort does to an active test, the notice left out (R156). -/
def abortActive (why : AbortReason) (s : State) : State :=
  let s2 := { clearTestPower s with test := testAborted why (clearTestPower s).test }
  if s.test.phase = .discharge then recomputeGrants s2 else s2

theorem abortTest_eq (why : AbortReason) (s : State) :
    abortTest why s = if s.testActive then
      post .testDone s.targetSlot (some (testOutcomeCode (.aborted why))) (abortActive why s) else s := rfl

theorem abortActive_raw (why : AbortReason) (s : State) : RawMove s (abortActive why s) := by
  have hclear := (clearTestPower_move s).raw
  unfold abortActive
  generalize clearTestPower s = s1 at hclear
  have htest := hclear.trans (test_raw (testAborted why s1.test) s1)
  dsimp only
  split
  · exact htest.trans (.rack (.grants _))
  · exact htest

theorem abortActive_ilc (why : AbortReason) (s : State) : (abortActive why s).ilc = s.ilc := by
  unfold abortActive
  dsimp only
  split
  · rw [(recomputeGrants_side _).ilc, clearTestPower_ilc]
  · rw [clearTestPower_ilc]

theorem abortActive_test (why : AbortReason) (s : State) : (abortActive why s).test = testAborted why s.test := by
  unfold abortActive
  dsimp only
  split
  · rw [(recomputeGrants_side _).test, clearTestPower_test]
  · rw [clearTestPower_test]

theorem abortTest_ilc (why : AbortReason) (s : State) : (abortTest why s).ilc = s.ilc := by
  rw [abortTest_eq]
  split
  · rw [post_ilc, abortActive_ilc]
  · rfl

theorem abortTest_test (why : AbortReason) (s : State) :
    (abortTest why s).test = if s.testActive then testAborted why s.test else s.test := by
  rw [abortTest_eq]
  split
  · rw [post_test, abortActive_test]
  · rfl

theorem abortTest_raw (why : AbortReason) (s : State) : RawMove s (abortTest why s) := by
  rw [abortTest_eq]
  split
  · exact (abortActive_raw why s).trans (.note _ _ _ _)
  · exact .refl s

theorem testAborted_law {s t : State} (why : AbortReason) (h : t.test = testAborted why s.test) : TestLaw t := by
  simp [TestLaw, State.testActive, h, testAborted]

theorem abortTest_move (why : AbortReason) (s : State) : BlockMove s (abortTest why s) := by
  refine ⟨abortTest_raw why s, .of_test (abortTest_ilc why s) fun hs => ?_⟩
  have hi := abortTest_ilc why s
  have ht := abortTest_test why s
  generalize abortTest why s = t at hi ht ⊢
  split at ht
  · exact testAborted_law why ht
  · simpa only [TestLaw, State.testActive, hi, ht] using hs

theorem enterDischarge_raw (b : BbuId) (s : State) : RawMove s (enterDischarge b s) := by
  unfold enterDischarge
  exact ((test_raw _ s).trans (setTestPower_move _ _ _).raw).trans (.rack (.grants _))

theorem enterDischarge_ilc (b : BbuId) (s : State) : (enterDischarge b s).ilc = s.ilc := (recomputeGrants_side _).ilc

theorem enterDischarge_test (b : BbuId) (s : State) :
    (enterDischarge b s).test = { s.test with phase := .discharge, prepare := .stopped, eMeas := 0 } :=
  (recomputeGrants_side _).test

/-- A test in PREPARE goes on to DISCHARGE (R150). -/
theorem prepareCheck_move (b : BbuId) (s : State) (h : s.test.phase = .prepare) : BlockMove s (prepareCheck b s) := by
  unfold prepareCheck
  refine BlockMove.ite (fun _ => ?_) fun _ => .refl s
  have hi := enterDischarge_ilc b s
  have ht := enterDischarge_test b s
  refine ⟨enterDischarge_raw b s, .of_test hi fun hs => ?_⟩
  generalize enterDischarge b s = t at hi ht ⊢
  simp_all [TestLaw, State.testActive]

theorem learnCapacity_raw (b : BbuId) (s : State) : RawMove s (learnCapacity b s) := by
  have hput := fun u => (putBbu_move b u s).raw
  unfold learnCapacity
  dsimp only
  refine RawMove.trans ?_ (.rack (.grants _))
  refine RawMove.trans ?_ (test_raw _ _)
  split
  · exact ((hput _).trans (test_raw _ _)).trans (.note _ _ _ _)
  · exact (hput _).trans (test_raw _ _)

theorem learnCapacity_records (b : BbuId) (s : State) :
    (learnCapacity b s).ilc = s.ilc ∧ (learnCapacity b s).test.phase = .recharge ∧
      (learnCapacity b s).test.suspended = false ∧ (learnCapacity b s).test.target = s.test.target ∧
      (learnCapacity b s).test.outcome = s.test.outcome := by
  unfold learnCapacity
  dsimp only
  rw [(recomputeGrants_side _).ilc, (recomputeGrants_side _).test]
  split
  · simp only [post_ilc, post_test, putBbu_ilc, putBbu_test, and_self]
  · simp only [putBbu_ilc, putBbu_test, and_self]

/-- A test in DISCHARGE goes on to RECHARGE (R152). -/
theorem learnCapacity_move (b : BbuId) (s : State) (h : s.test.phase = .discharge) : BlockMove s (learnCapacity b s) := by
  obtain ⟨hi, hp, hsus, htarget, hout⟩ := learnCapacity_records b s
  refine ⟨learnCapacity_raw b s, .of_test hi fun hs => ?_⟩
  generalize learnCapacity b s = t at hi hp hsus htarget hout ⊢
  simp_all [TestLaw, State.testActive]

/-- A test in RECHARGE is done (R153). -/
theorem completeTest_move (b : BbuId) (s : State) (h : s.test.phase = .recharge) : BlockMove s (completeTest b s) := by
  unfold completeTest
  refine BlockMove.trans ?_ (.note _ _ _ _)
  refine ⟨test_raw _ s, .of_test rfl fun hs => ?_⟩
  simp_all [TestLaw, State.testActive]

/-- The test record's measured energy changes. -/
theorem measure_move (n : Nat) (s : State) : BlockMove s { s with test := { s.test with eMeas := n } } :=
  ⟨test_raw _ s, .of_test rfl fun hs => hs⟩

theorem testArrival_move (b : BbuId) (delta : Nat) (s : State) : BlockMove s (testArrival b delta s) := by
  unfold testArrival
  dsimp only
  refine BlockMove.ite (fun _ => ?_) fun _ => .refl s
  split
  · next h => exact BlockMove.ite (fun _ => abortTest_move _ s) fun _ => prepareCheck_move b s h
  · next h =>
    have htest := measure_move (min eMeasTop (s.test.eMeas + delta)) s
    refine BlockMove.ite (fun _ => htest.trans (abortTest_move _ _)) fun _ => ?_
    exact BlockMove.ite (fun _ => htest.trans (learnCapacity_move b _ h)) fun _ => htest
  · next h =>
    refine BlockMove.ite (fun _ => abortTest_move _ s) fun _ => ?_
    exact BlockMove.ite (fun _ => completeTest_move b s h) fun _ => .refl s
  · exact .refl s
  · exact .refl s

theorem testHearsState_move (b : BbuId) (s : State) : BlockMove s (testHearsState b s) := by
  unfold testHearsState
  exact BlockMove.ite (fun _ => abortTest_move _ s) fun _ => .refl s

/-! ### Capacity and modules -/

theorem shedTrays_nodup (s : State) : (shedTrays s).Nodup := allTrays_nodup.filter _

theorem clearShedOnRise_move (s : State) : BlockMove s (clearShedOnRise s) := by
  unfold clearShedOnRise
  exact (BlockMove.clearShed s).trans (recovery_move _ _ (shedTrays_nodup s))

theorem capacityChanged_move (c : Nat) (s : State) : BlockMove s (capacityChanged c s) := by
  have h1 : BlockMove s (recomputeGrants { s with budget := { s.budget with c := c } }) :=
    (budget_move _ s).trans (recomputeGrants_move _)
  unfold capacityChanged
  dsimp only
  generalize recomputeGrants { s with budget := { s.budget with c := c } } = s1 at h1
  have h2 : BlockMove s (if s1.ilc.state = .normal then seqAfter s1 (evalDeficit s1) else s1) :=
    BlockMove.ite (fun _ => h1.trans (.rack ((evalDeficit_move s1).trans (seqAfter_move _ _)))) fun _ => h1
  generalize (if s1.ilc.state = .normal then seqAfter s1 (evalDeficit s1) else s1) = s2 at h2
  have h3 : BlockMove s (if s2.ilc.state = .normal ∧ decide (s.budget.c < c) = true then clearShedOnRise s2 else s2) :=
    BlockMove.ite (fun _ => h2.trans (clearShedOnRise_move s2)) fun _ => h2
  exact BlockMove.ite (fun _ => h3.trans (.rack (tell_move _))) fun _ => h3

theorem rosterRecompute_move (s0 s : State) : BlockMove s (rosterRecompute s0 s) := by
  have hc : BlockMove s (if capacityOf s.params.policy s.rects = s.budget.c then s
      else capacityChanged (capacityOf s.params.policy s.rects) s) :=
    BlockMove.ite (fun _ => .refl s) fun _ => capacityChanged_move _ s
  unfold rosterRecompute
  exact BlockMove.ite (fun _ => hc) fun _ => hc.trans (.rack (tell_move _))

theorem rectArrival_move (r : RectId) (p : List Byte) (b : Bool) (s : State) : BlockMove s (rectArrival r p b s) := by
  unfold rectArrival
  dsimp only
  refine BlockMove.trans ?_ (rosterRecompute_move s _)
  exact BlockMove.ite (fun _ => (putRect_move _ _ s).trans (.note _ _ _ _)) fun _ => putRect_move _ _ s

theorem rectStateChange_move (r : RectId) (x : RectSlot) (s : State) : BlockMove s (rectStateChange r x s) := by
  unfold rectStateChange
  exact (putRect_move r x s).trans (rosterRecompute_move s _)

theorem accountArrival_move (b : BbuId) (t : BbuTelemetry) (s : State) : BlockMove s (accountArrival b t s) := by
  unfold accountArrival
  dsimp only
  refine BlockMove.ite (fun _ => ?_) fun _ => putBbu_move _ _ s
  exact BlockMove.ite (fun _ => (putBbu_move _ _ s).trans (.note _ _ _ _)) fun _ => putBbu_move _ _ s

theorem reportBbuState_move (b : BbuId) (s : State) : BlockMove s (reportBbuState b s) := by
  have h1 : BlockMove s (recomputeGrants (recomputeFloor s)) := (recomputeFloor_move s).trans (recomputeGrants_move _)
  unfold reportBbuState
  refine BlockMove.trans ?_ (testHearsState_move b _)
  exact BlockMove.ite (fun _ => h1.trans (.rack (tell_move _))) fun _ => h1

theorem reportArrival_move (b : BbuId) (old : Bbu) (s : State) : BlockMove s (reportArrival b old s) := by
  rcases reportArrival_cases b old s with h | h | h <;> rw [h]
  · exact reportBbuState_move b s
  · exact recomputeGrants_move s
  · exact .refl s

theorem bbuArrival_move (b : BbuId) (p : List Byte) (inn : Bool) (s : State) : BlockMove s (bbuArrival b p inn s) := by
  unfold bbuArrival
  dsimp only
  refine BlockMove.trans ?_ (reportArrival_move b _ _)
  refine BlockMove.trans ?_ (reserveChanged_move _)
  refine BlockMove.trans ?_ (testArrival_move b _ _)
  refine BlockMove.trans ?_ (putBbu_move _ _ _)
  refine BlockMove.trans ?_ (accountArrival_move b _ _)
  exact BlockMove.ite (fun _ => (putBbu_move _ _ s).trans (.note _ _ _ _)) fun _ => putBbu_move _ _ s

theorem bbuStateChange_move (b : BbuId) (u : Bbu) (s : State) : BlockMove s (bbuStateChange b u s) := by
  have h1 := (putBbu_move b u s).trans (reserveChanged_move _)
  unfold bbuStateChange
  exact BlockMove.ite (fun _ => h1) fun _ => h1.trans (reportBbuState_move b _)

theorem ownerArrival_move (k : SlotId) (p : List Byte) (b : Bool) (s : State) : BlockMove s (ownerArrival k p b s) := by
  unfold ownerArrival
  split
  · exact rectArrival_move _ p b s
  · exact bbuArrival_move _ p b s

theorem ownerSilenced_move (k : SlotId) (s : State) : BlockMove s (ownerSilenced k s) := by
  unfold ownerSilenced
  split
  · exact rectStateChange_move _ _ s
  · unfold bbuSilenced
    exact BlockMove.ite (fun _ => .refl s) fun _ => bbuStateChange_move _ _ s

theorem ownerEmptied_move (k : SlotId) (s : State) : BlockMove s (ownerEmptied k s) := by
  unfold ownerEmptied
  split
  · exact rectStateChange_move _ _ s
  · exact bbuStateChange_move _ _ s

theorem ownerFitted_move (k : SlotId) (s : State) : BlockMove s (ownerFitted k s) := by
  unfold ownerFitted
  split
  · exact rectStateChange_move _ _ s
  · exact bbuStateChange_move _ _ s

theorem afterRoster_move (s0 s : State) : BlockMove s (afterRoster s0 s) := by
  unfold afterRoster
  exact BlockMove.ite (fun _ => autoStartTest_move s) fun _ => .refl s

/-! ### Entry to NORMAL -/

/-- The part in NORMAL with the rest of its records as they are. -/
def inNormal (s : State) : State := { s with ilc := { s.ilc with state := .normal } }

/-- An operation that brings the shelf to NORMAL: moves of the blocks up to the entry, and moves of the blocks from there
that keep the shelf there. -/
structure EntersNormal (s t : State) : Prop where
  moves : ∃ s1, RawMove s s1 ∧ RawMove (inNormal s1) t
  normal : t.ilc.state = .normal
  law : ShelfLaw s ∧ TestLaw s → ShelfLaw t ∧ TestLaw t

theorem createUp_ilc (scope : Scope) (l : List TrayId) (s : State) : (createUp scope l s).ilc = s.ilc := by
  unfold createUp
  exact ((joinAll_side l _).trans (evalStart_side _)).ilc

theorem autoStartTest_ilc (s : State) : (autoStartTest s).ilc = s.ilc := by
  unfold autoStartTest
  split
  · exact createUp_ilc _ _ s
  · rfl

theorem recovery_ilc (l : List TrayId) (s : State) : (recovery l s).ilc = s.ilc := by
  unfold recovery
  dsimp only
  split
  · rfl
  · split
    · exact createUp_ilc _ _ s
    · rfl
    · exact ((joinAll_side _ s).trans (evalStart_side _)).ilc

/-- The hand-over of NORMAL, and moves of the blocks that keep the shelf there. The input loss record becomes `x`, then
NORMAL. -/
theorem EntersNormal.of_setShelf {s s1 t : State} {x : InputLoss} (h : RawMove s s1) (hx : s1.ilc = x)
    (ht : s1.test = s.test) (hlaw : ShelfLaw s → ShelfLaw { s with ilc := { x with state := .normal } })
    (k : BlockMove (setShelf .normal s1) t) (hi : t.ilc = (setShelf .normal s1).ilc) : EntersNormal s t := by
  refine ⟨⟨s1, h, (RawMove.rack (setShelf_rackMove .normal s1)).trans k.raw⟩, by rw [hi, setShelf_ilc], fun hs => ?_⟩
  refine k.power.law ⟨?_, ?_⟩
  · simpa only [ShelfLaw, setShelf_ilc, hx] using hlaw hs.1
  · obtain ⟨-, hpower, hrest⟩ := hs
    simp only [TestLaw, State.testActive, setShelf_test, setShelf_ilc, ht] at hpower hrest ⊢
    exact ⟨fun ha => ⟨Or.inl trivial, (hpower ha).2⟩, hrest⟩

/-- The input loss record when a sag is over, still in SAG-QUALIFY (R95). -/
def sagOver (s : State) : InputLoss :=
  { s.ilc with
    ifail := false, qualify := none, lastSag := sagWidth s, longestSag := max s.ilc.longestSag (sagWidth s),
    sagCount := countUp 65535 s.ilc.sagCount, sagStart := none }

theorem sagRidden_eq (s : State) :
    sagRidden s = autoStartTest (post .sagRidden none (some (sagWidth s)) (setShelf .normal { s with ilc := sagOver s })) :=
  rfl

/-- A sag that is over brings NORMAL (R95). -/
theorem sagRidden_enters (s : State) (h : s.ilc.state = .sagQualify) : EntersNormal s (sagRidden s) := by
  have hraw : RawMove s { s with ilc := sagOver s } := ilc_raw (sagOver s) s (Or.inl rfl)
  rw [sagRidden_eq]
  refine EntersNormal.of_setShelf (x := sagOver s) hraw rfl rfl (fun hs => ?_)
    ((BlockMove.note _ _ _ _).trans (autoStartTest_move _)) (by rw [autoStartTest_ilc, post_ilc])
  simp_all [ShelfLaw, expectedIfail, sagOver]

/-- The end of the restore hold brings NORMAL (R103). -/
theorem restoreNormal_enters (s : State) (h : s.ilc.state = .restoreHold) : EntersNormal s (restoreNormal s) := by
  unfold restoreNormal
  dsimp only
  refine EntersNormal.of_setShelf (((RawMove.clearShed _).trans (.note _ _ _ _)).after_ilc (Or.inl ?_))
    (by rw [post_ilc, clearShed_ilc]) (by rw [post_test, clearShed_test]) (fun hs => ?_)
    ((recovery_move _ _ (shedTrays_nodup s)).trans (autoStartTest_move _)) ?_
  · rfl
  · simp_all [ShelfLaw, expectedIfail]
  · rw [autoStartTest_ilc, recovery_ilc]

theorem inNormal_rackLaw {s : State} (h : RackLaw s) : RackLaw (inNormal s) := rackLaw_congr rfl rfl h

theorem EntersNormal.rackLaw {s t : State} (h : EntersNormal s t) (hs : RackLaw s) : RackLaw t := by
  obtain ⟨s1, h1, h2⟩ := h.moves
  exact h2.rackLaw (inNormal_rackLaw (h1.rackLaw hs))

theorem EntersNormal.noticeLaw {s t : State} (h : EntersNormal s t) (hs : NoticeLaw s) : NoticeLaw t := by
  obtain ⟨s1, h1, h2⟩ := h.moves
  exact h2.noticeLaw (h1.noticeLaw hs)

theorem EntersNormal.leak {s t : State} (h : EntersNormal s t) (i : TrayId) :
    t.trays[i].locks.leak = s.trays[i].locks.leak := by
  obtain ⟨s1, h1, h2⟩ := h.moves
  exact (h2.leak i).trans (h1.leak i)

theorem EntersNormal.side {s t : State} (h : EntersNormal s t) : BlockSide s t := by
  obtain ⟨s1, h1, h2⟩ := h.moves
  have hn : BlockSide s1 (inNormal s1) := by constructor <;> rfl
  exact (h1.side.trans hn).trans h2.side

/-! ### IFAIL -/

/-- IFAIL released in RIDE-THROUGH or EXHAUSTED (R100). -/
theorem releaseRide_move (s : State) (h : s.ilc.state = .rideThrough ∨ s.ilc.state = .exhausted) :
    BlockMove s (enterRestoreHold { s with ilc := { s.ilc with ifail := false } }) := by
  refine ⟨(enterRestoreHold_raw _).after_ilc (Or.inl rfl),
    .of_ilc (enterRestoreHold_ilc _) (enterRestoreHold_test _) (fun hs => ?_) (fun _ hn => ?_) fun _ =>
      ⟨Or.inr (Or.inl rfl), Nat.le_refl _⟩⟩
  · rcases h with h | h <;> simp_all [ShelfLaw, expectedIfail]
  · rcases h with h | h <;> simp_all

/-- IFAIL released: the end of a sag brings NORMAL, anything else does not (R95, R100). -/
theorem ifailReleased_cases (s : State) :
    (s.ilc.state = .sagQualify ∧ EntersNormal s (ifailReleased s)) ∨ BlockMove s (ifailReleased s) := by
  unfold ifailReleased
  split
  · next h => exact Or.inl ⟨h, sagRidden_enters s h⟩
  · next h => exact Or.inr (releaseRide_move s (Or.inl h))
  · next h => exact Or.inr (releaseRide_move s (Or.inr h))
  · exact Or.inr (.refl s)
  · exact Or.inr (.refl s)

/-- IFAIL asserted in RESTORE-HOLD (R102). -/
theorem inputFlicker_move (s : State) (h : s.ilc.state = .restoreHold) : BlockMove s (inputFlicker s) := by
  unfold inputFlicker
  refine BlockMove.trans ?_ (evalRide_move _ (by rw [setShelf_ilc]))
  refine ⟨(setShelf_raw .rideThrough _ (by decide)).after_ilc (Or.inl rfl),
    .of_ilc (setShelf_ilc _ _) (setShelf_test _ _) (fun hs => ?_) (fun _ hn => ?_) fun _ => ⟨Or.inl rfl, Nat.le_refl _⟩⟩
  · simp_all [ShelfLaw, expectedIfail]
  · simp_all

/-- IFAIL asserted in NORMAL (R94). -/
theorem enterSagQualify_move (s : State) (h : s.ilc.state = .normal) : BlockMove s (enterSagQualify s) := by
  unfold enterSagQualify
  refine ⟨(setShelf_raw .sagQualify _ (by decide)).after_ilc (Or.inl rfl),
    .of_ilc (setShelf_ilc _ _) (setShelf_test _ _) (fun hs => ?_) (fun _ _ => Or.inr rfl) fun hr => ?_⟩
  · simp_all [ShelfLaw, expectedIfail]
  · rcases hr with hr | hr | hr <;> cases h.symm.trans hr

theorem ifailAsserted_move (s : State) : BlockMove s (ifailAsserted s) := by
  unfold ifailAsserted
  split
  · next h => exact enterSagQualify_move s h
  · next h => exact inputFlicker_move s h
  · exact .refl s
  · exact .refl s
  · exact .refl s

/-- A sag that has qualified: the shelf is in RIDE-THROUGH and an active test has been aborted (R96). -/
theorem qualifyFailure_move (s : State) (h : s.ilc.state = .sagQualify) : BlockMove s (qualifyFailure s) := by
  have hset : RawMove s
      (setShelf .rideThrough { s with ilc := { s.ilc with sagStart := none, stage := 0, qualify := none } }) :=
    (setShelf_raw .rideThrough _ (by decide)).after_ilc (Or.inl rfl)
  have hilc := setShelf_ilc .rideThrough { s with ilc := { s.ilc with sagStart := none, stage := 0, qualify := none } }
  have htest := setShelf_test .rideThrough { s with ilc := { s.ilc with sagStart := none, stage := 0, qualify := none } }
  unfold qualifyFailure
  dsimp only
  generalize setShelf .rideThrough { s with ilc := { s.ilc with sagStart := none, stage := 0, qualify := none } } = u
    at hset hilc htest ⊢
  have hpilc := post_ilc .inputLost none (some u.ilc.lastR) u
  have hptest := post_test .inputLost none (some u.ilc.lastR) u
  have hpost := hset.trans (.note .inputLost none (some u.ilc.lastR) u)
  generalize post .inputLost none (some u.ilc.lastR) u = v at hpilc hptest hpost ⊢
  have hvilc : (abortTest .inputLost v).ilc = u.ilc := (abortTest_ilc _ _).trans hpilc
  refine BlockMove.trans ⟨hpost.trans (abortTest_raw _ v), ⟨fun hs => ⟨?_, ?_⟩, fun hr => ?_⟩⟩
    (evalRide_move _ (by rw [hvilc, hilc]))
  · simp_all [ShelfLaw, expectedIfail]
  · have hvtest := abortTest_test .inputLost v
    generalize abortTest .inputLost v = w at hvtest hvilc ⊢
    split at hvtest
    · exact testAborted_law .inputLost hvtest
    · simp_all [TestLaw, State.testActive]
  · rcases hr with hr | hr | hr <;> cases h.symm.trans hr

end Sys2Proof.Machine
end

section
/-! PROOFS. The moves of a command: those of the blocks, the changes of one tray's record by a request or an event, and what
every sequence of them keeps. A move can be quiet towards the leak monitor, whose laws then speak of what they spoke of before,
and towards the link, whose requests then stay where they are. -/
namespace Sys2Proof.Machine

/-! ### Changes that leave trays and run where they are -/

/-- The link counters are in their ranges (R167). -/
abbrev CounterLaw (h : HostLink) : Prop :=
  h.headerErrors ≤ 65535 ∧ h.payloadErrors ≤ 65535 ∧ h.byteErrors ≤ 65535 ∧ h.timeouts ≤ 65535 ∧ h.overruns ≤ 65535

/-- A change of the link's record that moves no request: queue and reply stand, counters stay in their ranges. -/
structure LinkLoose (a b : HostLink) : Prop where
  queue : b.queue = a.queue
  reply : b.reply = a.reply
  counters : CounterLaw a → CounterLaw b

/-- And one that leaves the receiver, the station and the arm target alone too. -/
structure LinkStill (a b : HostLink) : Prop extends LinkLoose a b where
  framer : b.framer = a.framer
  inBreak : b.inBreak = a.inBreak
  station : b.station = a.station
  arm : b.arm = a.arm

theorem LinkStill.refl (a : HostLink) : LinkStill a a := ⟨⟨rfl, rfl, id⟩, rfl, rfl, rfl, rfl⟩

theorem LinkStill.trans {a b c : HostLink} (h : LinkStill a b) (k : LinkStill b c) : LinkStill a c :=
  ⟨⟨k.queue.trans h.queue, k.reply.trans h.reply, k.counters ∘ h.counters⟩, k.framer.trans h.framer, k.inBreak.trans h.inBreak,
    k.station.trans h.station, k.arm.trans h.arm⟩

/-- What the laws of the leak monitor speak of is as it was: channels, valves, drives, escalations. -/
structure LeakStill (s t : State) : Prop where
  channels : t.channels = s.channels
  valve : ∀ l : LoopId, t.loops[l].valve = s.loops[l].valve
  drive : ∀ l : LoopId, t.loops[l].drive = s.loops[l].drive
  escalated : ∀ l : LoopId, t.loops[l].escalated = s.loops[l].escalated

theorem LeakStill.refl (s : State) : LeakStill s s := ⟨rfl, fun _ => rfl, fun _ => rfl, fun _ => rfl⟩

theorem LeakStill.of_eq {s t : State} (hc : t.channels = s.channels) (hl : t.loops = s.loops) : LeakStill s t :=
  ⟨hc, fun _ => by rw [hl], fun _ => by rw [hl], fun _ => by rw [hl]⟩

theorem LeakStill.trans {s t u : State} (h : LeakStill s t) (k : LeakStill t u) : LeakStill s u :=
  ⟨k.channels.trans h.channels, fun l => (k.valve l).trans (h.valve l), fun l => (k.drive l).trans (h.drive l),
    fun l => (k.escalated l).trans (h.escalated l)⟩

/-- What a tray's record keeps when all records change at once: what its place and its lockout laws rest on. -/
structure TrayStill (old t : Tray) : Prop where
  record : recordLaw old → recordLaw t
  state : t.state = old.state
  owner : old.owner = .auto → t.owner = .auto
  present : t.present = old.present
  cfg : t.cfg = old.cfg
  leak : t.locks.leak = old.locks.leak

theorem TrayStill.refl (t : Tray) : TrayStill t t := ⟨id, rfl, id, rfl, rfl, rfl⟩

/-- A change that leaves every tray and the run where they are, and the shelf in its power state. -/
structure Still (s t : State) : Prop where
  trays : ∀ i : TrayId, TrayStill s.trays[i] t.trays[i]
  run : RunKept s.run t.run
  shelf : t.ilc.state = s.ilc.state
  power : PowerMove s t
  notices : NoticeLaw s → NoticeLaw t
  bus : BusLaw s → BusLaw t
  pending : t.pending = s.pending

/-- A change of other records than trays, run, input loss and test. -/
theorem Still.of_eq {s t : State} (htrays : t.trays = s.trays) (hrun : t.run = s.run) (hpower : t.ilc = s.ilc ∧ t.test = s.test)
    (hnotices : NoticeLaw s → NoticeLaw t) (hbus : BusLaw s → BusLaw t) (hpending : t.pending = s.pending) : Still s t :=
  ⟨fun i => by rw [htrays]; exact .refl _, by rw [hrun]; exact RunKept.of_fields rfl rfl rfl rfl rfl, by rw [hpower.1],
    .of_eq hpower.1 hpower.2, hnotices, hbus, hpending⟩

theorem Still.rackLaw {s t : State} (h : Still s t) (hs : RackLaw s) : RackLaw t :=
  rackLaw_of_trays (s := { s with run := t.run }) (rackLaw_of_runKept hs h.run) rfl (fun i => (h.trays i).record)
    (fun i => (h.trays i).state) (fun i => (h.trays i).owner) (fun i => (h.trays i).present) fun i => (h.trays i).cfg

/-! ### The moves of a command -/

/-- What a move leaves alone: what the laws of the leak monitor speak of, and the requests of the link. -/
structure Quiet where
  leak : Prop
  link : Prop

/-- A move quiet towards both. -/
def Quiet.all : Quiet := ⟨True, True⟩
/-- A move quiet towards the leak monitor. -/
def Quiet.leaks : Quiet := ⟨True, False⟩
/-- A move quiet towards the link. -/
def Quiet.links : Quiet := ⟨False, True⟩
/-- Any move. -/
def Quiet.none : Quiet := ⟨False, False⟩

/-- What a command does, beside the entry of NORMAL: moves of the blocks, changes that leave trays and run where they are, a
change of one tray's record, and a retry. -/
inductive CoreMove (quiet : Quiet) : State → State → Prop
  | refl (s : State) : CoreMove quiet s s
  | trans {s t u : State} : CoreMove quiet s t → CoreMove quiet t u → CoreMove quiet s u
  | block {s t : State} (h : BlockMove s t) : CoreMove quiet s t
  | still {s t : State} (h : Still s t) (hl : quiet.leak → LeakStill s t) (hk : quiet.link → LinkStill s.hli t.hli) : CoreMove quiet s t
  | tray (i : TrayId) (t : Tray) (s : State) (h : TrayKept s.trays[i] t)
      (hin : t.state = .inrush → s.trays[i].state = .inrush ∨ s.ilc.state = .normal)
      (hl : quiet.leak → t.locks.leak = s.trays[i].locks.leak) : CoreMove quiet s (putTray i t s)
  | retry (i : TrayId) (s : State) (hf : s.trays[i].state = .failed) (ho : s.trays[i].owner = .auto)
      (hl : s.trays[i].locks = noLockouts) (hrun : s.run.direction = .up ∧ s.run.state ≠ .idle) :
      CoreMove quiet s (retryTray i s)

theorem CoreMove.rack {q : Quiet} {s t : State} (h : RackMove s t) : CoreMove q s t := .block (.rack h)

theorem CoreMove.note {q : Quiet} (k : NoticeKind) (x v : Option Nat) (s : State) : CoreMove q s (post k x v s) :=
  .block (.note k x v s)

theorem CoreMove.ite {q : Quiet} {p : Prop} [Decidable p] {s t u : State} (ht : p → CoreMove q s t) (hu : ¬ p → CoreMove q s u) :
    CoreMove q s (if p then t else u) := by
  split
  · next h => exact ht h
  · next h => exact hu h

/-- A move repeated over a list. -/
theorem CoreMove.foldl {q : Quiet} {α : Type} (f : State → α → State) (hf : ∀ s a, CoreMove q s (f s a)) (l : List α)
    (s : State) : CoreMove q s (l.foldl f s) := by
  induction l generalizing s with
  | nil => exact .refl s
  | cons a l ih => exact (hf s a).trans (ih (f s a))

/-- A change of one tray by another block than leak monitor and start rule. -/
theorem CoreMove.of_trayMove {q : Quiet} (i : TrayId) (t : Tray) (s : State) (h : TrayMove s.trays[i] t) :
    CoreMove q s (putTray i t s) := .rack (.tray i t s h)

/-! ### What the moves keep -/

theorem retryTray_get (i j : TrayId) (s : State) :
    (retryTray i s).trays[j] = if i = j then retried s.trays[i] else s.trays[j] := by
  unfold retryTray
  dsimp only
  rw [joinQueue_get, putTray_get]
  split
  · next e => subst e; rw [if_pos rfl]; rfl
  · next e => rw [putTray_get, if_neg e]

theorem retryTray_side (i : TrayId) (s : State) : TraySideOnly s (retryTray i s) := by
  unfold retryTray
  exact (putTray_side _ _ _).trans (joinQueue_side _ _)

theorem retryTray_notices (i : TrayId) (s : State) : (retryTray i s).notices = s.notices := rfl

theorem CoreMove.rackLaw {q : Quiet} {s t : State} (h : CoreMove q s t) (hs : RackLaw s) : RackLaw t := by
  induction h with
  | refl s => exact hs
  | trans _ _ h k => exact k (h hs)
  | block h => exact h.rackLaw hs
  | still h => exact h.rackLaw hs
  | tray i t s h => exact putTray_rackLaw hs h
  | retry i s hf ho hl hrun => exact retryTray_rackLaw hs hf ho hl hrun

theorem CoreMove.noticeLaw {q : Quiet} {s t : State} (h : CoreMove q s t) (hs : NoticeLaw s) : NoticeLaw t := by
  induction h with
  | refl s => exact hs
  | trans _ _ h k => exact k (h hs)
  | block h => exact h.noticeLaw hs
  | still h => exact h.notices hs
  | tray i t s h => exact hs
  | retry i s => exact hs

theorem CoreMove.link {q : Quiet} {s t : State} (h : CoreMove q s t) (hq : q.link) : LinkStill s.hli t.hli := by
  induction h with
  | refl s => exact .refl _
  | trans _ _ h k => exact h.trans k
  | block h => rw [h.side.hli]; exact .refl _
  | still _ _ hk => exact hk hq
  | tray i t s h => exact .refl _
  | retry i s => rw [(retryTray_side i s).hli]; exact .refl _

theorem busLaw_congr {s t : State} (h : t.mbc = s.mbc) (hs : BusLaw s) : BusLaw t := by
  simpa only [BusLaw, h] using hs

theorem CoreMove.busLaw {q : Quiet} {s t : State} (h : CoreMove q s t) (hs : BusLaw s) : BusLaw t := by
  induction h with
  | refl s => exact hs
  | trans _ _ h k => exact k (h hs)
  | block h => exact busLaw_congr h.side.mbc hs
  | still h => exact h.bus hs
  | tray i t s h => exact hs
  | retry i s => exact busLaw_congr (retryTray_side i s).mbc hs

theorem CoreMove.pending {q : Quiet} {s t : State} (h : CoreMove q s t) : t.pending = s.pending := by
  induction h with
  | refl s => rfl
  | trans _ _ h k => exact k.trans h
  | block h => exact h.side.pending
  | still h => exact h.pending
  | tray i t s h => rfl
  | retry i s => exact (retryTray_side i s).pending

/-- None of these moves brings the shelf to NORMAL. -/
theorem CoreMove.normal {q : Quiet} {s t : State} (h : CoreMove q s t) (ht : t.ilc.state = .normal) :
    s.ilc.state = .normal := by
  induction h with
  | refl s => exact ht
  | trans _ _ h k => exact h (k ht)
  | block h => exact h.normal ht
  | still h => exact h.shelf ▸ ht
  | tray i t s h => exact ht
  | retry i s => rw [(retryTray_side i s).ilc] at ht; exact ht

theorem CoreMove.power {q : Quiet} {s t : State} (h : CoreMove q s t) : PowerMove s t := by
  induction h with
  | refl s => exact .refl s
  | trans _ _ h k => exact h.trans k
  | block h => exact h.power
  | still h => exact h.power
  | tray i t s => exact .of_eq rfl rfl
  | retry i s => exact (retryTray_side i s).power

/-- A tray enters INRUSH in NORMAL only (R7). -/
theorem CoreMove.inrush {q : Quiet} {s t : State} (h : CoreMove q s t) (i : TrayId) (ht : t.trays[i].state = .inrush) :
    s.trays[i].state = .inrush ∨ s.ilc.state = .normal := by
  induction h with
  | refl s => exact Or.inl ht
  | trans h _ ih k => exact (k ht).elim ih fun hn => Or.inr (h.normal hn)
  | block h => exact h.inrush i ht
  | still h => exact Or.inl ((h.trays i).state ▸ ht)
  | tray j t s h hin =>
    rw [putTray_get] at ht
    split at ht
    · next e => subst e; exact hin ht
    · exact Or.inl ht
  | retry j s =>
    rw [retryTray_get] at ht
    split at ht
    · cases ht
    · exact Or.inl ht

theorem CoreMove.leakStill {q : Quiet} {s t : State} (h : CoreMove q s t) (hq : q.leak) : LeakStill s t := by
  induction h with
  | refl s => exact .refl s
  | trans _ _ h k => exact h.trans k
  | block h => exact .of_eq h.side.channels h.side.loops
  | still _ hl => exact hl hq
  | tray i t s h => exact .of_eq rfl rfl
  | retry i s => exact .of_eq (retryTray_side i s).channels (retryTray_side i s).loops

/-- A quiet move keeps the LEAK lockout of every tray. -/
theorem CoreMove.leak {q : Quiet} {s t : State} (h : CoreMove q s t) (hq : q.leak) (i : TrayId) :
    t.trays[i].locks.leak = s.trays[i].locks.leak := by
  induction h with
  | refl s => rfl
  | trans _ _ h k => exact k.trans h
  | block h => exact h.leak i
  | still h => exact (h.trays i).leak
  | tray j t s h hin hl =>
    rw [putTray_get]
    split
    · next e => subst e; exact hl hq
    · rfl
  | retry j s =>
    rw [retryTray_get]
    split
    · next e => subst e; rfl
    · rfl

/-- A move quiet towards more is a move quiet towards less. -/
theorem CoreMove.mono {q r : Quiet} {s t : State} (h : CoreMove q s t) (hl : r.leak → q.leak) (hk : r.link → q.link) :
    CoreMove r s t := by
  induction h with
  | refl s => exact .refl s
  | trans _ _ h k => exact h.trans k
  | block h => exact .block h
  | still h hls hks => exact .still h (fun hr => hls (hl hr)) fun hr => hks (hk hr)
  | tray i t s h hin hlt => exact .tray i t s h hin fun hr => hlt (hl hr)
  | retry i s hf ho hl hrun => exact .retry i s hf ho hl hrun

theorem CoreMove.any {s t : State} (h : CoreMove .all s t) (q : Quiet) : CoreMove q s t :=
  h.mono (fun _ => trivial) fun _ => trivial

end Sys2Proof.Machine
end

section
/-! PROOFS. What each request does to the part, as moves of a command (R19 to R27, R48, R49, R70, R118 to R122, R149 to R157,
R165 to R183). -/
namespace Sys2Proof.Machine

/-! ### Changes of one tray's record by a request or an event -/

theorem enterOff_state (t : Tray) : (enterOff t).state = .off := rfl

theorem recordLaw_unhold (t : Tray) (h : recordLaw t) :
    recordLaw { t with locks := { t.locks with hold := false } } := by
  obtain ⟨⟨hqueued, hpowered⟩, htimer⟩ := h
  refine ⟨⟨fun hs => ?_, hpowered⟩, htimer⟩
  have hlocks := Lockouts.isEmpty_eq (hqueued hs)
  simp only [hlocks]
  rfl

theorem trayKept_unhold (t : Tray) : TrayKept t { t with locks := { t.locks with hold := false } } :=
  TrayKept.of_same (recordLaw_unhold t) rfl rfl id id

theorem recordLaw_hold (t : Tray) (h : recordLaw t) (hs : t.state ≠ .queued) :
    recordLaw { t with locks := { t.locks with hold := true } } := by
  obtain ⟨⟨-, hpowered⟩, htimer⟩ := h
  exact ⟨⟨fun hq => absurd hq hs, hpowered⟩, htimer⟩

theorem trayKept_holdTray (t : Tray) : TrayKept t (holdTray t) := by
  unfold holdTray
  dsimp only
  split
  · exact TrayKept.of_out (fun _ => recordLaw_enterOff _) (Or.inl rfl)
  · next hs => exact TrayKept.of_same (fun h => recordLaw_hold t h hs) rfl rfl id id

theorem holdTray_leak (t : Tray) : (holdTray t).locks.leak = t.locks.leak := by
  unfold holdTray
  dsimp only
  split <;> rfl

theorem holdTray_inrush (t : Tray) (h : (holdTray t).state = .inrush) : t.state = .inrush := by
  unfold holdTray at h
  dsimp only at h
  split at h
  · cases h
  · exact h

theorem trayKept_setPinned (p : Bool) (t : Tray) : TrayKept t (setPinned p t) := by
  refine TrayKept.of_same (fun h => ?_) rfl rfl id id
  obtain ⟨hlock, hfits, hcause, hstaged, hpresent⟩ := h
  refine ⟨hlock, hfits, hcause, fun hoff => ?_, hpresent⟩
  simp only [setPinned, hstaged hoff, Option.map_none]

theorem trayKept_owner (o : Owner) (t : Tray) (h : o = .auto ∨ t.state ≠ .queued) : TrayKept t { t with owner := o } := by
  refine ⟨id, id, fun _ => id, fun hq ho => ?_, fun _ => rfl⟩
  rcases h with h | h
  · exact h
  · exact absurd hq h

theorem trayKept_makeManual (t : Tray) : TrayKept t (makeManual t) := by
  unfold makeManual
  dsimp only
  split
  · exact TrayKept.of_out (fun _ => recordLaw_enterOff _) (Or.inl rfl)
  · next hs => exact trayKept_owner .manual t (Or.inr hs)

theorem makeManual_leak (t : Tray) : (makeManual t).locks.leak = t.locks.leak := by
  unfold makeManual
  dsimp only
  split <;> rfl

theorem makeManual_inrush (t : Tray) (h : (makeManual t).state = .inrush) : t.state = .inrush := by
  unfold makeManual at h
  dsimp only at h
  split at h
  · cases h
  · exact h

theorem recordLaw_configOff (c : TrayConfig) (t : Tray) (h : recordLaw t) : recordLaw { t with cfg := c, staged := none } :=
  ⟨h.1, h.2.1, h.2.2.1, fun _ => rfl, h.2.2.2.2⟩

theorem trayKept_configOff (c : TrayConfig) (t : Tray) (hs : t.state = .off) :
    TrayKept t { t with cfg := c, staged := none } :=
  TrayKept.of_out (recordLaw_configOff c t) (Or.inl hs)

theorem trayKept_staged (c : Option TrayConfig) (t : Tray) (hs : t.state ≠ .off) : TrayKept t { t with staged := c } := by
  refine TrayKept.of_same (fun h => ?_) rfl rfl id id
  obtain ⟨hlock, hfits, hcause, -, hpresent⟩ := h
  exact ⟨hlock, hfits, hcause, fun hoff => absurd hoff hs, hpresent⟩

theorem recordLaw_freeLeak (t : Tray) (h : recordLaw t) : recordLaw (freeLeak t) := by
  obtain ⟨⟨hqueued, hpowered⟩, htimer⟩ := h
  refine ⟨⟨fun hs => ?_, fun he => ⟨rfl, (hpowered he).2⟩⟩, htimer⟩
  have hlocks := Lockouts.isEmpty_eq (hqueued hs)
  simp only [freeLeak, hlocks]
  rfl

theorem trayKept_freeLeak (t : Tray) : TrayKept t (freeLeak t) :=
  TrayKept.of_same (recordLaw_freeLeak t) rfl rfl id id

/-- A tray that nothing locks out can be started from OFF (R7, R22). -/
theorem trayKept_startFromOff (t : Tray) (hoff : t.state = .off) (hp : t.present = true) (hl : t.locks = noLockouts) :
    TrayKept t (enterInrush t) := by
  refine TrayKept.of_powered (fun h => recordLaw_enterInrush t ?_ ?_ hp) (Or.inl rfl) rfl
  · rw [hl]; exact ⟨rfl, rfl⟩
  · exact (recordLaw_off h hoff).1

/-! ### Moves of the link, the store, the parameters and the notices -/

theorem hli_move (h : HostLink) (s : State) (hl : LinkStill s.hli h) : CoreMove .all s { s with hli := h } :=
  .still (.of_eq rfl rfl ⟨rfl, rfl⟩ id id rfl) (fun _ => .of_eq rfl rfl) fun _ => hl

theorem store_move (p : ProfileStore) (s : State) : CoreMove .all s { s with store := p } :=
  .still (.of_eq rfl rfl ⟨rfl, rfl⟩ id id rfl) (fun _ => .of_eq rfl rfl) fun _ => .refl _

theorem setParams_move (p : Params) (s : State) : CoreMove .all s (setParams p s) :=
  .still (.of_eq rfl rfl ⟨rfl, rfl⟩ id id rfl) (fun _ => .of_eq rfl rfl) fun _ => .refl _

theorem notices_move (n : NoticeQueue) (s : State) (hn : NoticeLaw s → n.records.length ≤ 32 ∧ n.lost ≤ 255) :
    CoreMove .all s { s with notices := n } :=
  .still (.of_eq rfl rfl ⟨rfl, rfl⟩ hn id rfl) (fun _ => .of_eq rfl rfl) fun _ => .refl _

theorem freeCount_move (n : Nat) (s : State) : CoreMove .all s { s with freeCount := n } :=
  .still (.of_eq rfl rfl ⟨rfl, rfl⟩ id id rfl) (fun _ => .of_eq rfl rfl) fun _ => .refl _

theorem stagedScan_move (n : Option Nat) (s : State) : CoreMove .all s { s with stagedScan := n } :=
  .still (.of_eq rfl rfl ⟨rfl, rfl⟩ id id rfl) (fun _ => .of_eq rfl rfl) fun _ => .refl _

theorem setBus_move (m : ModuleBus) (s : State) (hb : BusLaw s → BusLaw (setBus m s)) : CoreMove .all s (setBus m s) :=
  .still (.of_eq rfl rfl ⟨rfl, rfl⟩ id hb rfl) (fun _ => .of_eq rfl rfl) fun _ => .refl _

theorem restartSilence_move (s : State) : CoreMove .all s (restartSilence s) :=
  hli_move _ s ⟨⟨rfl, rfl, id⟩, rfl, rfl, rfl, rfl⟩

theorem clearLinkCounters_move (s : State) : CoreMove .all s (clearLinkCounters s) :=
  hli_move _ s ⟨⟨rfl, rfl, fun _ => by simp [CounterLaw]⟩, rfl, rfl, rfl, rfl⟩

theorem answerGetLinkStatus_move (clear : Nat) (armed : Option ArmTarget) (s : State) :
    CoreMove .all s (answerGetLinkStatus clear armed s).2 := by
  unfold answerGetLinkStatus answerData
  exact CoreMove.ite (fun _ => clearLinkCounters_move s) fun _ => .refl s

/-- ARM changes the arm target at most (R165). -/
theorem answerArm_link (target channel : Nat) (s : State) :
    ∃ x, (answerArm target channel s).2 = { s with hli := { s.hli with arm := x } } := by
  unfold answerArm
  split
  · exact ⟨_, rfl⟩
  · split
    · exact ⟨_, rfl⟩
    · exact ⟨s.hli.arm, rfl⟩

theorem answerRestart_move (armed : Option ArmTarget) (s : State) : CoreMove .all s (answerRestart armed s).2 := by
  unfold answerRestart
  repeat' split
  · exact .refl s
  · exact .refl s
  · exact store_move _ s

theorem answerTakeNotices_move (count : Nat) (s : State) : CoreMove .all s (answerTakeNotices count s).2 := by
  unfold answerTakeNotices answerData
  refine notices_move _ s fun h => ⟨?_, Nat.zero_le _⟩
  have hdrop : (untaken count s).length ≤ s.notices.records.length := by
    simp only [untaken, List.length_drop, Nat.sub_le]
  exact hdrop.trans h.1

theorem answerSaveProfile_move (s : State) : CoreMove .all s (answerSaveProfile s).2 := by
  unfold answerSaveProfile
  split
  · exact .refl s
  · exact store_move _ s

/-! ### Parameters and configurations -/

theorem applyParam_move (ident value : Nat) (s : State) : CoreMove .all s (applyParam ident value s) := by
  have hp := setParams_move (paramPut s.params ident value) s
  unfold applyParam
  dsimp only
  split
  · exact setBus_move _ s id
  · exact hp.trans (.block (rosterRecompute_move s _))
  · refine CoreMove.ite (fun _ => ?_) fun _ => ?_
    · exact (hp.trans (.rack (.grants _))).trans (.rack (tell_move _))
    · exact hp.trans (.rack (.grants _))
  · refine CoreMove.ite (fun _ => ?_) fun _ => ?_
    · exact (hp.trans (.block (recomputeFloor_move _))).trans (.rack (tell_move _))
    · exact hp.trans (.block (recomputeFloor_move _))
  · exact CoreMove.ite (fun _ => hp.trans (.rack (tell_move _))) fun _ => hp
  · exact hp.trans (.block (reserveChanged_move _))
  · exact CoreMove.ite (fun h => hp.trans (.block (evalStage_move _ h))) fun _ => hp
  · exact CoreMove.ite (fun h => hp.trans (.block (evalStage_move _ h))) fun _ => hp
  · exact CoreMove.ite (fun h => hp.trans (.block (evalStage_move _ h))) fun _ => hp
  · exact CoreMove.ite (fun _ => hp.trans (.rack (tell_move _))) fun _ => hp
  · exact stagedScan_move _ s
  · exact hp.trans (restartSilence_move _)
  · exact hp

theorem answerSetShelfParam_move (ident value : Nat) (s : State) :
    CoreMove .all s (answerSetShelfParam ident value s).2 := by
  unfold answerSetShelfParam
  repeat' split
  · exact .refl s
  · exact .refl s
  · exact applyParam_move _ _ s

theorem applyTrayConfig_move (i : TrayId) (c : TrayConfig) (s : State) : CoreMove .all s (applyTrayConfig i c s) := by
  unfold applyTrayConfig
  dsimp only
  split
  · next hs => exact .tray i _ s (trayKept_configOff c _ hs) Or.inl fun _ => rfl
  · next hs => exact .tray i _ s (trayKept_staged _ _ hs) Or.inl fun _ => rfl

/-- A request that is refused when `p` holds, and otherwise answered. -/
theorem move_unless {q : Quiet} {p : Prop} [Decidable p] {s : State} {code : RefusalCode} {x : Answer × State}
    (h : ¬ p → CoreMove q s x.2) : CoreMove q s (if p then refuse code s else x).2 := by
  split
  · exact .refl s
  · next hp => exact h hp

theorem ack_move {q : Quiet} {s t : State} (h : CoreMove q s t) : CoreMove q s (ack t).2 := h

theorem answerData_move {q : Quiet} (p : List Byte) {s t : State} (h : CoreMove q s t) : CoreMove q s (answerData p t).2 := h

theorem onTray_move {q : Quiet} (n : Nat) (f : TrayId → State → Answer × State) (s : State)
    (h : ∀ i : TrayId, CoreMove q s (f i s).2) : CoreMove q s (onTray n f s).2 := by
  unfold onTray
  split
  · exact h _
  · exact .refl s

theorem onBbu_move {q : Quiet} (n : Nat) (f : BbuId → State → Answer × State) (s : State)
    (h : ∀ b : BbuId, CoreMove q s (f b s).2) : CoreMove q s (onBbu n f s).2 := by
  unfold onBbu
  split
  · exact h _
  · exact .refl s

theorem onChannel_move {q : Quiet} (n : Nat) (f : ChannelId → State → Answer × State) (s : State)
    (h : ∀ c : ChannelId, CoreMove q s (f c s).2) : CoreMove q s (onChannel n f s).2 := by
  unfold onChannel
  split
  · exact h _
  · exact .refl s

theorem answerSetTrayConfig_move (tray : Nat) (cfg : RawTrayConfig) (s : State) :
    CoreMove .all s (answerSetTrayConfig tray cfg s).2 := by
  exact onTray_move _ _ s fun i => move_unless fun _ => applyTrayConfig_move i _ s

theorem applyBbuConfig_move (b : BbuId) (eRated maxCharge eFull : Nat) (s : State) :
    CoreMove .all s (applyBbuConfig b eRated maxCharge eFull s) := by
  unfold applyBbuConfig
  exact .block (((putBbu_move _ _ _).trans (reserveChanged_move _)).trans (recomputeGrants_move _))

theorem answerSetBbuConfig_move (bbu eRated maxCharge eFull : Nat) (s : State) :
    CoreMove .all s (answerSetBbuConfig bbu eRated maxCharge eFull s).2 := by
  exact onBbu_move _ _ s fun b => move_unless fun _ => move_unless fun _ => applyBbuConfig_move b _ _ _ s

/-! ### Tray control -/

theorem propagated_move {q : Quiet} {s t : State} (h : CoreMove q s t) : CoreMove q s (propagate s t) :=
  h.trans (.rack (propagate_move s t))

theorem manualStart_move (i : TrayId) (s : State) (hn : s.ilc.state = .normal) (hoff : s.trays[i].state = .off)
    (hp : s.trays[i].present = true) (hl : s.trays[i].locks = noLockouts) : CoreMove .all s (manualStart i s) := by
  have hstart : CoreMove .all s (afterBudget s (putTray i (enterInrush s.trays[i]) s)) :=
    (CoreMove.tray i _ s (trayKept_startFromOff _ hoff hp hl) (fun _ => Or.inr hn) fun _ => rfl).trans
      (.rack (afterBudget_move s _))
  unfold manualStart
  dsimp only
  generalize afterBudget s (putTray i (enterInrush s.trays[i]) s) = s1 at hstart ⊢
  exact CoreMove.ite (fun _ => (hstart.trans (.rack (trayPgRise_move i s1))).trans (.rack (propagate_move _ _)))
    fun _ => hstart

theorem trayOn_move (i : TrayId) (s : State) : CoreMove .all s (trayOn i s).2 := by
  unfold trayOn
  refine move_unless fun hn => move_unless fun hlock => move_unless fun hoff => move_unless fun _ => move_unless fun _ => ?_
  have hlocks : s.trays[i].locks.isEmpty = true := by
    cases he : s.trays[i].locks.isEmpty
    · exact absurd (by rw [he]; rfl) hlock
    · rfl
  have hstate : s.trays[i].state = .off := Decidable.not_not.mp fun h => hoff (Or.inl h)
  have hpresent : s.trays[i].present = true := by
    cases hp : s.trays[i].present
    · exact absurd (Or.inr (Or.inl hp)) hoff
    · rfl
  exact ack_move (manualStart_move i s (Decidable.not_not.mp hn) hstate hpresent (Lockouts.isEmpty_eq hlocks))

theorem trayOff_move (i : TrayId) (s : State) : CoreMove .all s (trayOff i s).2 := by
  unfold trayOff
  exact move_unless fun _ => move_unless fun _ => ack_move (propagated_move (.of_trayMove i _ s (trayMove_stopTray _)))

theorem trayHold_move (i : TrayId) (s : State) : CoreMove .all s (trayHold i s).2 :=
  ack_move (propagated_move (.tray i _ s (trayKept_holdTray _) (fun h => Or.inl (holdTray_inrush _ h)) fun _ => holdTray_leak _))

theorem trayUnhold_move (i : TrayId) (s : State) : CoreMove .all s (trayUnhold i s).2 :=
  ack_move (.tray i _ s (trayKept_unhold _) Or.inl fun _ => rfl)

theorem setPinned_move (p : Bool) (i : TrayId) (s : State) : CoreMove .all s (putTray i (setPinned p s.trays[i]) s) :=
  .tray i _ s (trayKept_setPinned p _) Or.inl fun _ => rfl

theorem trayPin_move (i : TrayId) (s : State) : CoreMove .all s (trayPin i s).2 :=
  move_unless fun _ => ack_move (propagated_move (setPinned_move true i s))

theorem trayUnpin_move (i : TrayId) (s : State) : CoreMove .all s (trayUnpin i s).2 :=
  move_unless fun _ => ack_move (setPinned_move false i s)

theorem trayOwnerAuto_move (i : TrayId) (s : State) : CoreMove .all s (trayOwnerAuto i s).2 :=
  ack_move (.tray i _ s (trayKept_owner .auto _ (Or.inl rfl)) Or.inl fun _ => rfl)

theorem trayOwnerManual_move (i : TrayId) (s : State) : CoreMove .all s (trayOwnerManual i s).2 :=
  ack_move (propagated_move
    (.tray i _ s (trayKept_makeManual _) (fun h => Or.inl (makeManual_inrush _ h)) fun _ => makeManual_leak _))

theorem answerTrayControl_move (tray action : Nat) (s : State) : CoreMove .all s (answerTrayControl tray action s).2 := by
  refine onTray_move _ _ s fun i => ?_
  split
  · exact trayOn_move i s
  · exact trayOff_move i s
  · exact trayHold_move i s
  · exact trayUnhold_move i s
  · exact trayPin_move i s
  · exact trayUnpin_move i s
  · exact trayOwnerAuto_move i s
  · exact trayOwnerManual_move i s
  · exact .refl s

theorem clearTray_move (i : TrayId) (s : State) : CoreMove .all s (clearTray i s) := by
  have hoff : CoreMove .all s (putTray i (enterOff s.trays[i]) s) := .of_trayMove i _ s (trayMove_enterOff _)
  unfold clearTray
  exact propagated_move (CoreMove.ite (fun _ => hoff.trans (.note _ _ _ _)) fun _ => hoff)

theorem answerClearFault_move (tray : Nat) (s : State) : CoreMove .all s (answerClearFault tray s).2 := by
  refine onTray_move _ _ s fun i => ?_
  split
  · exact ack_move (clearTray_move i s)
  · exact .refl s

/-! ### Modules -/

theorem serviceRect_move (r : RectId) (inn : Bool) (s : State) : CoreMove .all s (serviceRect r inn s).2 :=
  move_unless fun _ => ack_move (.block (putRect_move r _ s))

theorem serviceBbu_move (b : BbuId) (inn : Bool) (s : State) : CoreMove .all s (serviceBbu b inn s).2 := by
  unfold serviceBbu
  refine move_unless fun _ => ?_
  split
  · exact .refl s
  · split
    · exact ack_move (.block ((putBbu_move b _ s).trans (recomputeGrants_move _)))
    · have hout := (putBbu_move b { s.bbus[b] with inService := false, permit := false, grant := 0 } s).trans
        (recomputeGrants_move _)
      exact ack_move (.block (BlockMove.ite (fun _ => hout.trans (abortTest_move _ _)) fun _ => hout))

theorem answerModuleService_move (slot service : Nat) (s : State) :
    CoreMove .all s (answerModuleService slot service s).2 := by
  unfold answerModuleService
  split
  · exact .refl s
  · refine move_unless fun _ => ?_
    split
    · exact serviceRect_move _ _ s
    · exact serviceBbu_move _ _ s

/-! ### Runs -/

theorem runUpScope_move (scope : Scope) (s : State) : CoreMove .all s (runUpScope scope s).2 := by
  unfold runUpScope
  refine move_unless fun _ => move_unless fun hdown => move_unless fun _ => ?_
  split
  · next hidle => 
    exact answerData_move _
      (.block (createUp_move scope _ s (eligibleIn_nodup s scope) (fun i hi => (eligibleIn_mem hi).2) hidle))
  · next hidle =>
    have hup : s.run.direction = .up := by
      cases hd : s.run.direction
      · rfl
      · exact absurd ⟨hidle, hd⟩ hdown
    exact answerData_move _
      (.block ((joinAll_move _ s (eligibleIn_nodup s scope) (fun i hi => (eligibleIn_mem hi).2) ⟨hup, hidle⟩).trans
        (.rack (evalStart_move _))))

theorem StopsFirst.ne {s : State} {a b : TrayId} (h : StopsFirst s a b) : a ≠ b := by
  rintro rfl
  rcases h with h | ⟨-, h⟩ <;> exact lt_irrefl _ h

theorem mergeStops_nodup (s : State) (scope : Scope) : (mergeStops s scope).Nodup := (stoppableIn_nodup s scope).filter _

theorem mergeStops_mem {s : State} {scope : Scope} {i : TrayId} (h : i ∈ mergeStops s scope) :
    s.trays[i].stoppable = true ∧ i ∉ s.run.stopQueue := by
  obtain ⟨hi, hnot⟩ := List.mem_filter.mp h
  exact ⟨(stoppableIn_mem hi).2, by simpa using hnot⟩

/-- The stop queue of a merge keeps the laws of a stop queue (R116, R119). -/
theorem mergeDown_move {s : State} (scope : Scope) (h : RackLaw s) (hrun : s.run.direction = .down ∧ s.run.state ≠ .idle) :
    BlockMove s (mergeDown (mergeStops s scope) s) := by
  obtain ⟨⟨htray, -⟩, -, hstop⟩ := h
  obtain ⟨horder, hmem⟩ := pairwise_merge (stopsBefore_strict s) (mergeStops_nodup s scope)
    (fun i hi => (mergeStops_mem hi).2) hstop
  unfold mergeDown
  refine BlockMove.trans ⟨.stops _ s hrun (horder.imp StopsFirst.ne) (fun i hi => ?_) horder, .of_eq rfl rfl⟩
    (.rack (evalStop_move _))
  obtain ⟨-, -, -, -, hstoppable, -, -⟩ := htray i
  rcases (hmem i).mp hi with hi | hi
  · exact (mergeStops_mem hi).1
  · exact hstoppable hi

theorem dissolveUp_startQueue (s : State) : (dissolveUp s).run.startQueue = [] := rfl

theorem putTrays_run {α : Type} (g : RunRecord → α) (hg : ∀ i t r, g (syncRun i t r) = g r) (l : List TrayId) (f : Tray → Tray)
    (s : State) : g (putTrays l f s).run = g s.run := by
  unfold putTrays
  induction l generalizing s with
  | nil => rfl
  | cons i l ih => exact (ih _).trans (hg _ _ _)

theorem dissolveUp_direction (s : State) : (dissolveUp s).run.direction = s.run.direction :=
  putTrays_run RunRecord.direction (fun _ _ _ => rfl) s.run.startQueue enterOff s

theorem runDownScope_move (scope : Scope) (s : State) (h : RackLaw s) : CoreMove .all s (runDownScope scope s).2 := by
  unfold runDownScope
  refine move_unless fun _ => ?_
  split
  · next hrun =>
    refine answerData_move _ (.block (mergeDown_move scope h ⟨hrun.1, fun e => ?_⟩))
    cases hrun.2.symm.trans e
  · refine answerData_move _ ?_
    split
    · next hidle =>
      refine .block (createDown_move scope s ?_)
      obtain ⟨⟨-, -, -, hstart, -⟩, -⟩ := h
      exact Decidable.not_not.mp fun hne => (hstart hne).2 hidle
    · exact (CoreMove.rack (dissolveUp_move s)).trans (.block (createDown_move scope _ (dissolveUp_startQueue s)))

theorem answerRunUp_move (scope : List Byte) (s : State) : CoreMove .all s (answerRunUp scope s).2 := by
  unfold answerRunUp
  split
  · exact .refl s
  · exact runUpScope_move _ s

theorem answerRunDown_move (scope : List Byte) (s : State) (h : RackLaw s) : CoreMove .all s (answerRunDown scope s).2 := by
  unfold answerRunDown
  split
  · exact .refl s
  · exact runDownScope_move _ s h

theorem mergeDown_side (l : List TrayId) (s : State) : BlockSide s (mergeDown l s) := by
  unfold mergeDown
  exact BlockSide.trans (by constructor <;> rfl) (evalStop_move _).side.block

theorem createDown_side (scope : Scope) (s : State) : BlockSide s (createDown scope s) := by
  unfold createDown
  exact BlockSide.trans (by constructor <;> rfl) (evalStop_move _).side.block

/-- Whatever stands in the queues, RUN-DOWN touches the trays, the run and what hears of them only. -/
theorem answerRunDown_side (scope : List Byte) (s : State) : BlockSide s (answerRunDown scope s).2 := by
  have hsame : ∀ (a : Answer) (t : State), BlockSide s t → BlockSide s (a, t).2 := fun _ _ h => h
  unfold answerRunDown runDownScope
  split
  · exact hsame _ _ (.refl s)
  · split
    · exact hsame _ _ (.refl s)
    · split
      · exact hsame _ _ (mergeDown_side _ s)
      · refine hsame _ _ ?_
        split
        · exact createDown_side _ s
        · exact (dissolveUp_move s).side.block.trans (createDown_side _ _)

/-- A run that changes its state, but not to IDLE, keeps its queues. -/
theorem RunKept.of_state {a b : RunRecord} (hd : b.direction = a.direction) (hs : b.startQueue = a.startQueue)
    (hp : b.stopQueue = a.stopQueue) (hm : b.members = a.members) (hst : b.state ≠ .idle) : RunKept a b :=
  ⟨hd, hs, Or.inl hp, Or.inl hm, fun h => absurd h hst⟩

theorem answerRunSuspend_move (s : State) : CoreMove .all s (answerRunSuspend s).2 := by
  unfold answerRunSuspend
  split
  · exact ack_move (.rack (.run { s.run with state := .suspended, blocked := none } s
      (RunKept.of_state rfl rfl rfl rfl fun h => by cases h)))
  · exact .refl s

theorem resumeRun_move (s : State) : RackMove s (resumeRun s) := by
  unfold resumeRun
  split
  · exact (RackMove.run { s.run with state := .running } s (RunKept.of_state rfl rfl rfl rfl fun h => by cases h)).trans (evalStop_move _)
  · split
    · exact (RackMove.run { s.run with state := .running } s (RunKept.of_state rfl rfl rfl rfl fun h => by cases h)).trans (evalStart_move _)
    · exact (RackMove.run { s.run with state := .held } s (RunKept.of_state rfl rfl rfl rfl fun h => by cases h)).trans (testUpDone_move _)

theorem answerRunResume_move (s : State) : CoreMove .all s (answerRunResume s).2 := by
  unfold answerRunResume
  split
  · exact ack_move (.rack (resumeRun_move s))
  · exact .refl s

theorem cancelRun_move (s : State) : RackMove s (cancelRun s) := by
  unfold cancelRun
  split
  · exact .refl s
  · next hup _ =>
    refine (dissolveUp_move s).trans (.run _ _ ⟨rfl, rfl, Or.inl rfl, Or.inl rfl, fun _ => Or.inr (Or.inl ⟨?_, rfl⟩)⟩)
    exact (dissolveUp_direction s).trans hup
  · next hdown _ =>
    exact .run _ s ⟨rfl, rfl, Or.inr rfl, Or.inl rfl, fun _ => Or.inr (Or.inr ⟨hdown, rfl⟩)⟩

theorem answerRunCancel_move (s : State) : CoreMove .all s (answerRunCancel s).2 := ack_move (.rack (cancelRun_move s))

theorem answerGetRunStatus_move (s : State) : CoreMove .all s (answerGetRunStatus s).2 :=
  answerData_move _ (freeCount_move _ s)

theorem answerGetInputStatus_move (clear : Nat) (s : State) : CoreMove .all s (answerGetInputStatus clear s).2 :=
  answerData_move _ (CoreMove.ite (fun _ => .block (ilc_move _ s ⟨rfl, rfl, rfl, rfl, rfl⟩)) fun _ => .refl s)

/-! ### Battery test -/

/-- A change of the test record by a request. -/
theorem test_move (r : TestRecord) (s : State) (h : TestLaw s → TestLaw { s with test := r }) :
    BlockMove s { s with test := r } := ⟨test_raw r s, .of_test rfl h⟩

theorem beginTest_move (b : BbuId) (s : State) (hn : s.ilc.state = .normal) : BlockMove s (beginTest b s) := by
  unfold beginTest
  refine BlockMove.trans ?_ (prepareCheck_move b _ rfl)
  exact test_move _ s fun _ => by simp [TestLaw, State.testActive, hn]

theorem answerTestStart_move (bbu : Nat) (s : State) : CoreMove .all s (answerTestStart bbu s).2 :=
  onBbu_move _ _ s fun b => move_unless fun _ => move_unless fun hn => move_unless fun _ => move_unless fun _ =>
    ack_move (.block (beginTest_move b s (Decidable.not_not.mp hn)))

theorem answerTestSuspend_move (s : State) : CoreMove .all s (answerTestSuspend s).2 := by
  unfold answerTestSuspend
  split
  · next h =>
    refine ack_move (.block (BlockMove.trans ?_ (clearTestPower_move _)))
    exact test_move _ s fun hs => ⟨hs.1, fun _ => h.1, hs.2.2⟩
  · exact .refl s

/-- The test record of a suspended test that goes on (R155). -/
def resumedTest (t : TestRecord) : TestRecord := { t with suspended := false, prepare := unpausePrepare t.prepare }

theorem resumedTest_move (s : State) : BlockMove s { s with test := resumedTest s.test } :=
  test_move _ s fun hs => ⟨hs.1, fun h => absurd h Bool.false_ne_true, hs.2.2⟩

theorem resumeTest_move (s : State) : BlockMove s (resumeTest s) := by
  have h := resumedTest_move s
  unfold resumeTest
  dsimp only
  split
  · next hp => exact h.trans (prepareCheck_move _ _ hp)
  · exact h.trans (setTestPower_move _ _ _)
  · exact h

theorem answerTestResume_move (s : State) : CoreMove .all s (answerTestResume s).2 := by
  unfold answerTestResume
  split
  · exact ack_move (.block (resumeTest_move s))
  · exact .refl s

theorem answerTestAbort_move (s : State) : CoreMove .all s (answerTestAbort s).2 := by
  unfold answerTestAbort
  split
  · exact ack_move (.block (abortTest_move _ s))
  · exact .refl s

theorem answerBadCheck_move (s : State) : CoreMove .all s (answerBadCheck s).2 := by
  refine hli_move _ s ⟨⟨rfl, rfl, fun h => ?_⟩, rfl, rfl, rfl, rfl⟩
  obtain ⟨hheader, -, hbyte, htimeout, hoverrun⟩ := h
  exact ⟨hheader, Nat.min_le_left _ _, hbyte, htimeout, hoverrun⟩

end Sys2Proof.Machine
end

section
/-! PROOFS. What the leak monitor, the module bus, the profile store, the host link and the events do to the part, as moves
of a command (R8 to R14, R32 to R38, R129 to R146, R161 to R181). -/
namespace Sys2Proof.Machine

/-! ### The leak monitor -/

theorem putChannel_move (c : ChannelId) (x : Channel) (s : State) : CoreMove .links s (putChannel c x s) :=
  .still (.of_eq rfl rfl ⟨rfl, rfl⟩ id id rfl) (fun h => h.elim) fun _ => .refl _

theorem putLoop_move (l : LoopId) (x : Loop) (s : State) : CoreMove .links s (putLoop l x s) :=
  .still (.of_eq rfl rfl ⟨rfl, rfl⟩ id id rfl) (fun h => h.elim) fun _ => .refl _

theorem isolateTray_move (i : TrayId) (s : State) : CoreMove .links s (putTray i (isolateTray s.trays[i]) s) :=
  .tray i _ s (trayKept_stopTray _ _) (fun h => absurd h (stopTray_not_inrush _)) fun h => h.elim

theorem freeLeak_move (i : TrayId) (s : State) : CoreMove .links s (putTray i (freeLeak s.trays[i]) s) :=
  .tray i _ s (trayKept_freeLeak _) Or.inl fun h => h.elim

theorem leakRecompute_move (s : State) : CoreMove .links s (leakRecompute s) := by
  have hgain : CoreMove .links s (putTrays (leakGains s) isolateTray s) :=
    .foldl _ (fun s i => isolateTray_move i s) (leakGains s) s
  have hlose : ∀ u, CoreMove .links u (putTrays (leakLosses s) freeLeak u) :=
    fun u => .foldl _ (fun s i => freeLeak_move i s) (leakLosses s) u
  exact (hgain.trans (hlose _)).trans (.rack (propagate_move s _))

theorem valveReachesClosed_move (l : LoopId) (s : State) : CoreMove .links s (valveReachesClosed l s) :=
  (putLoop_move l _ s).trans (.note _ _ _ _)

theorem valveReachesOpen_move (l : LoopId) (s : State) : CoreMove .links s (valveReachesOpen l s) := putLoop_move l _ s

theorem startClosing_move (l : LoopId) (s : State) : CoreMove .links s (startClosing l s) := by
  unfold startClosing
  dsimp only
  exact CoreMove.ite (fun _ => (putLoop_move l _ s).trans (valveReachesClosed_move l _)) fun _ => putLoop_move l _ s

theorem startOpening_move (l : LoopId) (s : State) : CoreMove .links s (startOpening l s) := by
  unfold startOpening
  dsimp only
  exact CoreMove.ite (fun _ => (putLoop_move l _ s).trans (valveReachesOpen_move l _)) fun _ => putLoop_move l _ s

theorem closeCommand_move (l : LoopId) (s : State) : CoreMove .links s (closeCommand l s) := by
  unfold closeCommand
  split
  · exact startClosing_move l s
  · exact startClosing_move l s
  · exact startClosing_move l s
  · exact .refl s
  · exact .refl s

theorem openCommand_move (l : LoopId) (s : State) : CoreMove .links s (openCommand l s) := by
  unfold openCommand
  split
  · exact startOpening_move l s
  · exact startOpening_move l s
  · exact startOpening_move l s
  · exact .refl s
  · exact .refl s

theorem recordSwitch_move (l : LoopId) (sw : EndSwitch) (made : Bool) (s : State) :
    CoreMove .links s (recordSwitch l sw made s) := by
  unfold recordSwitch
  split
  · exact putLoop_move l _ s
  · exact putLoop_move l _ s

theorem switchEdge_move (l : LoopId) (sw : EndSwitch) (made : Bool) (s : State) :
    CoreMove .links s (switchEdge l sw made s) := by
  have h := recordSwitch_move l sw made s
  unfold switchEdge
  dsimp only
  split
  · split
    · exact CoreMove.ite (fun _ => h.trans (valveReachesClosed_move l _)) fun _ => h
    · exact CoreMove.ite (fun _ => h.trans (valveReachesOpen_move l _)) fun _ => h
  · exact h

theorem travelExpires_move (l : LoopId) (s : State) : CoreMove .links s (travelExpires l s) := by
  unfold travelExpires
  dsimp only
  split
  · exact (putLoop_move l _ s).trans (.note _ _ _ _)
  · exact (putLoop_move l _ s).trans (.note _ _ _ _)
  · exact .refl s
  · exact .refl s
  · exact .refl s

theorem evalEscalation_move (l : LoopId) (s : State) : CoreMove .links s (evalEscalation l s) := by
  unfold evalEscalation
  dsimp only
  split
  · exact CoreMove.ite (fun _ => putLoop_move l _ s) fun _ => .refl s
  · exact CoreMove.ite (fun _ => (putLoop_move l _ s).trans (.note _ _ _ _)) fun _ => .refl s

theorem raiseAlarm_move (c : ChannelId) (s : State) : CoreMove .links s (raiseAlarm c s) := by
  have h := ((CoreMove.note .leakAlarm (some c.val) (some s.channels[c].cfg.loop.val) s).trans
    (evalEscalation_move s.channels[c].cfg.loop _)).trans (leakRecompute_move _)
  unfold raiseAlarm
  exact CoreMove.ite (fun _ => h.trans (closeCommand_move _ _)) fun _ => h

theorem afterSample_move (c : ChannelId) (old new : Channel) (s : State) : CoreMove .links s (afterSample c old new s) := by
  unfold afterSample
  exact CoreMove.ite (fun _ => raiseAlarm_move c s) fun _ => CoreMove.ite (fun _ => .note _ _ _ s) fun _ =>
    CoreMove.ite (fun _ => .note _ _ _ s) fun _ => .refl s

theorem takeSample_move (readings : Vector CableReading 12) (c : ChannelId) (s : State) :
    CoreMove .links s (takeSample readings c s) := by
  unfold takeSample
  exact CoreMove.ite
    (fun _ => ((putChannel_move c _ s).trans (afterSample_move c _ _ _)).trans (.block (autoStartTest_move _)))
    fun _ => .refl s

theorem scan_move (readings : Vector CableReading 12) (s : State) : CoreMove .links s (scan readings s) := by
  have hdue : CoreMove .links s
      { s with params := { s.params with scanInterval := s.stagedScan.getD s.params.scanInterval }, stagedScan := none,
               nextScan := s.time + s.stagedScan.getD s.params.scanInterval } :=
    .still (.of_eq rfl rfl ⟨rfl, rfl⟩ id id rfl) (fun h => h.elim) fun _ => .refl _
  exact hdue.trans (.foldl _ (fun s c => takeSample_move readings c s) allChannels _)

theorem releaseChannel_move (c : ChannelId) (s : State) : CoreMove .links s (releaseChannel c s) :=
  (((putChannel_move c _ s).trans (evalEscalation_move s.channels[c].cfg.loop _)).trans (leakRecompute_move _)).trans
    (.note _ _ _ _)

/-! ### Requests to the leak monitor, and LOAD-PROFILE -/

theorem applyChannelConfig_move (c : ChannelId) (cfg : ChannelConfig) (s : State) :
    CoreMove .links s (applyChannelConfig c cfg s) := putChannel_move c _ s

/-- An answer with its part, whatever the answer. -/
theorem pair_move {q : Quiet} (a : Answer) {s t : State} (h : CoreMove q s t) : CoreMove q s (a, t).2 := h

theorem answerSetLeakChannel_move (r : RawChannelConfig) (s : State) :
    CoreMove .links s (answerSetLeakChannel r s).2 := by
  unfold answerSetLeakChannel
  refine move_unless fun _ => ?_
  split
  · exact move_unless fun _ => move_unless fun _ => move_unless fun _ => pair_move _
      (((applyChannelConfig_move _ _ s).trans (leakRecompute_move _)).trans (.block (autoStartTest_move _)))
  · exact .refl s

theorem answerLeakRelease_move (channel : Nat) (armed : Option ArmTarget) (s : State) :
    CoreMove .links s (answerLeakRelease channel armed s).2 :=
  onChannel_move _ _ s fun c => move_unless fun _ => move_unless fun _ => ack_move (releaseChannel_move c s)

theorem onLoop_move {q : Quiet} (n : Nat) (f : LoopId → State → Answer × State) (s : State)
    (h : ∀ l : LoopId, CoreMove q s (f l s).2) : CoreMove q s (onLoop n f s).2 := by
  unfold onLoop
  split
  · exact h _
  · exact .refl s

theorem answerValveOpen_move (loop : Nat) (s : State) : CoreMove .links s (answerValveOpen loop s).2 :=
  onLoop_move _ _ s fun l => move_unless fun _ => ack_move (openCommand_move l s)

theorem answerValveClose_move (loop : Nat) (s : State) : CoreMove .links s (answerValveClose loop s).2 :=
  onLoop_move _ _ s fun l => ack_move (closeCommand_move l s)

theorem loadConfig_move (w : WorkingConfig) (s : State) : CoreMove .links s (loadConfig w s) := by
  have htrays : ∀ u, CoreMove .links u
      (allTrays.foldl (fun s i => applyTrayConfig i (clampTrayConfig (rawOfTrayConfig w.trays[i])) s) u) :=
    CoreMove.foldl _ (fun s i => (applyTrayConfig_move i _ s).any _) allTrays
  have hbbus : ∀ u, CoreMove .links u (allBbus.foldl (fun s b =>
      applyBbuConfig b (clamp 10000 4000000 w.bbus[b].eRated) (clamp 0 3000 w.bbus[b].maxCharge)
        (clamp 1000 4000000 w.bbus[b].eFull) s) u) :=
    CoreMove.foldl _ (fun s b => (applyBbuConfig_move b _ _ _ s).any _) allBbus
  have hchannels : ∀ u, CoreMove .links u
      (allChannels.foldl (fun s c => applyChannelConfig c (clampChannelConfig w.channels[c]) s) u) :=
    CoreMove.foldl _ (fun s c => applyChannelConfig_move c _ s) allChannels
  have hparams : ∀ u, CoreMove .links u
      ((List.range 23).foldl (fun s k => applyParam k (paramClamp k (paramGet w.params k)) s) u) :=
    CoreMove.foldl _ (fun s k => (applyParam_move k _ s).any _) (List.range 23)
  unfold loadConfig
  exact (((((htrays s).trans (hbbus _)).trans (hchannels _)).trans (leakRecompute_move _)).trans (hparams _)).trans
    (.block (autoStartTest_move _))

theorem answerLoadProfile_move (s : State) : CoreMove .links s (answerLoadProfile s).2 := by
  unfold answerLoadProfile
  refine move_unless fun _ => move_unless fun _ => move_unless fun _ => move_unless fun _ => ?_
  split
  · split
    · exact loadConfig_move _ s
    · exact .refl s
  · exact .refl s

/-! ### Every request -/

/-- The requests that touch what the laws of the leak monitor speak of. -/
def RequestBody.ofLeaks : RequestBody → Bool
  | .setLeakChannel _ => true
  | .leakRelease _ => true
  | .valveOpen _ => true
  | .valveClose _ => true
  | .loadProfile => true
  | _ => false

/-- What the owning block of any other request does; RUN-DOWN relies on the laws of the queues, and ARM changes the link. -/
theorem answerBody_quiet (b : RequestBody) (armed : Option ArmTarget) (s : State) (hb : b.ofLeaks = false)
    (hd : ∀ scope, b ≠ .runDown scope) (ha : ∀ target channel, b ≠ .arm target channel) : CoreMove .all s (answerBody b armed s).2 := by
  cases b with
  | getLinkStatus clear => exact answerGetLinkStatus_move clear armed s
  | arm target channel => cases ha target channel rfl
  | restart => exact answerRestart_move armed s
  | takeNotices count => exact answerTakeNotices_move count s
  | saveProfile => exact answerSaveProfile_move s
  | setShelfParam ident value => exact answerSetShelfParam_move ident value s
  | setTrayConfig tray cfg => exact answerSetTrayConfig_move tray cfg s
  | trayControl tray action => exact answerTrayControl_move tray action s
  | clearFault tray => exact answerClearFault_move tray s
  | moduleService slot service => exact answerModuleService_move slot service s
  | setBbuConfig bbu eRated maxCharge eFull => exact answerSetBbuConfig_move bbu eRated maxCharge eFull s
  | runUp scope => exact answerRunUp_move scope s
  | runDown scope => cases hd scope rfl
  | runSuspend => exact answerRunSuspend_move s
  | runResume => exact answerRunResume_move s
  | runCancel => exact answerRunCancel_move s
  | getRunStatus => exact answerGetRunStatus_move s
  | getInputStatus clear => exact answerGetInputStatus_move clear s
  | testStart bbu => exact answerTestStart_move bbu s
  | testSuspend => exact answerTestSuspend_move s
  | testResume => exact answerTestResume_move s
  | testAbort => exact answerTestAbort_move s
  | badCheck => exact answerBadCheck_move s
  | getShelfParam ident => exact move_unless fun _ => .refl s
  | getTrays first count => exact move_unless fun _ => .refl s
  | getTrayConfig tray => exact onTray_move _ _ s fun _ => .refl s
  | getBbuConfig bbu => exact onBbu_move _ _ s fun _ => .refl s
  | getLeakChannel channel => exact onChannel_move _ _ s fun _ => .refl s
  | setLeakChannel | leakRelease | valveOpen | valveClose | loadProfile => cases hb
  | identify | getShelfStatus | getRoster | getBatteries | getLeak | getTest | unknownKind | badLength => exact .refl s

theorem answerBody_leaks_move (b : RequestBody) (armed : Option ArmTarget) (s : State) (hb : b.ofLeaks = true) :
    CoreMove .links s (answerBody b armed s).2 := by
  cases b with
  | setLeakChannel cfg => exact answerSetLeakChannel_move cfg s
  | leakRelease channel => exact answerLeakRelease_move channel armed s
  | valveOpen loop => exact answerValveOpen_move loop s
  | valveClose loop => exact answerValveClose_move loop s
  | loadProfile => exact answerLoadProfile_move s
  | _ => cases hb

/-- The owning block of any request but ARM leaves the link's requests, its receiver and the arm target alone. -/
theorem answerBody_linkStill (b : RequestBody) (armed : Option ArmTarget) (s : State) (ha : ∀ target channel, b ≠ .arm target channel) :
    LinkStill s.hli (answerBody b armed s).2.hli := by
  cases hb : b.ofLeaks with
  | true => exact (answerBody_leaks_move b armed s hb).link trivial
  | false =>
    by_cases hd : ∃ scope, b = .runDown scope
    · obtain ⟨scope, rfl⟩ := hd
      have hlink : (answerBody (.runDown scope) armed s).2.hli = s.hli := (answerRunDown_side scope s).hli
      rw [hlink]
      exact .refl _
    · exact (answerBody_quiet b armed s hb (fun scope e => hd ⟨scope, e⟩) ha).link trivial

/-- The owning block leaves the request queue alone. -/
theorem answerBody_queue (b : RequestBody) (armed : Option ArmTarget) (s : State) :
    (answerBody b armed s).2.hli.queue = s.hli.queue := by
  by_cases ha : ∃ target channel, b = .arm target channel
  · obtain ⟨target, channel, rfl⟩ := ha
    obtain ⟨x, hx⟩ := answerArm_link target channel s
    have hqueue := congrArg (fun t : State => t.hli.queue) hx
    exact hqueue
  · exact (answerBody_linkStill b armed s fun target channel e => ha ⟨target, channel, e⟩).queue

end Sys2Proof.Machine
end

section
/-! PROOFS. What the module bus, the profile store and the events do to the part, as moves of a command (R8 to R14, R32 to
R38, R177). -/
namespace Sys2Proof.Machine

/-! ### The module bus -/

theorem pins_move (p : Pins) (s : State) : CoreMove .all s { s with pins := p } :=
  .still (.of_eq rfl rfl ⟨rfl, rfl⟩ id id rfl) (fun _ => .of_eq rfl rfl) fun _ => .refl _

/-- A change of the bus record that leaves driver, poll and framer as they are. -/
theorem setBus_fields_move (m : ModuleBus) (s : State) (hd : m.driver = s.mbc.driver) (hp : m.poll = s.mbc.poll)
    (hf : m.framer = s.mbc.framer) : CoreMove .all s (setBus m s) :=
  setBus_move m s fun h => by simpa only [BusLaw, setBus, hd, hp, hf] using h

theorem nextPoll_move (s : State) : CoreMove .all s (nextPoll s) := by
  have h := setBus_move (nextPoll s).mbc s fun hs => nextPoll_eq s ▸ nextPoll_busLaw s hs.1
  rwa [← nextPoll_eq] at h

theorem startCycle_move (s : State) : CoreMove .all s (startCycle s) := by
  unfold startCycle
  refine CoreMove.trans ?_ (nextPoll_move _)
  refine CoreMove.trans ?_ (setBus_fields_move _ _ ?_ ?_ ?_)
  · exact setParams_move _ s
  all_goals rfl

theorem afterRoster_coreMove (s0 s : State) : CoreMove .all s (afterRoster s0 s) := .block (afterRoster_move s0 s)

theorem busCycle_move (s : State) : CoreMove .all s (busCycle s) :=
  CoreMove.ite (fun _ => .refl s) fun _ => (startCycle_move s).trans (afterRoster_coreMove s _)

theorem putSlot_move (k : SlotId) (x : ModuleSlot) (s : State) : CoreMove .all s (putSlot k x s) := setBus_move _ s id

theorem slotAnswers_move (k : SlotId) (p : List Byte) (inn : Bool) (s : State) : CoreMove .all s (slotAnswers k p inn s) := by
  have h := putSlot_move k { s.mbc.slots[k] with missCount := 0, announced := false } s
  unfold slotAnswers
  exact CoreMove.trans (CoreMove.ite (fun _ => h.trans (.note _ _ _ _)) fun _ => h) (.block (ownerArrival_move k p inn _))

theorem slotMisses_move (k : SlotId) (s : State) : CoreMove .all s (slotMisses k s) := by
  have h := putSlot_move k { s.mbc.slots[k] with missCount := 3, announced := true } s
  unfold slotMisses
  exact CoreMove.ite (fun _ => putSlot_move k _ s) fun _ => CoreMove.ite
    (fun _ => CoreMove.trans (CoreMove.ite (fun _ => h) fun _ => h.trans (.note _ _ _ _)) (.block (ownerSilenced_move k _)))
    fun _ => .refl s

theorem pollMissed_move (s : State) : CoreMove .all s (pollMissed s) := by
  unfold pollMissed
  split
  · exact .refl s
  · exact ((nextPoll_move s).trans (slotMisses_move _ _)).trans (afterRoster_coreMove s _)

theorem frameTaken_move (station kind tag : Byte) (payload : List Byte) (check : BitVec 16) (s : State) :
    CoreMove .all s (frameTaken station kind tag payload check s) := by
  unfold frameTaken
  split
  · exact .refl s
  · exact CoreMove.ite (fun _ => ((nextPoll_move s).trans (slotAnswers_move _ _ _ _)).trans (afterRoster_coreMove s _))
      fun _ => pollMissed_move s

/-- Within a poll the framer may hold a part of a frame (R35). -/
theorem setFramer_move (f : BusFramer) (s : State) (hp : s.mbc.poll ≠ none) : CoreMove .all s (setFramer f s) :=
  setBus_move _ s fun h => ⟨h.1, fun hnone => absurd hnone hp⟩

theorem judgeBusHeader_move (bytes : List Byte) (s : State) (hp : s.mbc.poll ≠ none) :
    CoreMove .all s (judgeBusHeader bytes s) := by
  unfold judgeBusHeader
  split
  · exact CoreMove.ite
      (fun _ => CoreMove.ite (fun _ => frameTaken_move _ _ _ _ _ s) fun _ => setFramer_move _ s hp)
      fun _ => pollMissed_move s
  · exact .refl s

theorem busByte_move (b : Byte) (s : State) (hp : s.mbc.poll ≠ none) : CoreMove .all s (busByte b s) := by
  unfold busByte
  split
  · exact CoreMove.ite (fun _ => setFramer_move _ s hp) fun _ => .refl s
  · exact CoreMove.ite (fun _ => setFramer_move _ s hp) fun _ => judgeBusHeader_move _ s hp
  · exact CoreMove.ite (fun _ => setFramer_move _ s hp) fun _ => frameTaken_move _ _ _ _ _ s

theorem busBroken_move (s : State) : CoreMove .all s (busBroken s) := by
  unfold busBroken
  split
  · exact .refl s
  · exact pollMissed_move s
  · exact pollMissed_move s

theorem busEvent_move (e : BusEvent) (s : State) : CoreMove .all s (busEvent e s) := by
  unfold busEvent
  refine CoreMove.ite (fun hp => ?_) fun _ => .refl s
  cases e with
  | byte b => exact busByte_move b s (Option.isSome_iff_ne_none.mp hp)
  | byteError _ => exact busBroken_move s
  | gap => exact busBroken_move s

theorem busReply_move (f : BusFrame) (s : State) : CoreMove .all s (busReply f s) := by
  cases f with
  | dropped => exact pollMissed_move s
  | complete station kind tag payload check => exact frameTaken_move station kind tag payload check s
  | heard events => exact .foldl _ (fun s e => busEvent_move e s) events s

theorem moduleReleased_move (k : SlotId) (s : State) : CoreMove .all s (moduleReleased k s) := by
  have h1 : CoreMove .all s (putSlot k { present := false, missCount := 0, announced := false }
      (setBus { s.mbc with schedule := s.mbc.schedule.filter fun j => j != k } s)) :=
    (setBus_move { s.mbc with schedule := s.mbc.schedule.filter fun j => j != k } s id).trans (putSlot_move k _ _)
  unfold moduleReleased
  dsimp only
  generalize putSlot k { present := false, missCount := 0, announced := false }
      (setBus { s.mbc with schedule := s.mbc.schedule.filter fun j => j != k } s) = s1 at h1 ⊢
  refine CoreMove.trans ?_ (afterRoster_coreMove s _)
  refine CoreMove.trans ?_ (.block (ownerEmptied_move k _))
  split
  · exact CoreMove.ite (fun _ => h1.trans (nextPoll_move s1)) fun _ => h1
  · exact h1

theorem moduleAsserted_move (k : SlotId) (s : State) : CoreMove .all s (moduleAsserted k s) :=
  CoreMove.ite (fun _ => .refl s) fun _ => (putSlot_move k _ s).trans (.block (ownerFitted_move k _))

/-! ### Trays -/

theorem pgRises_move (i : TrayId) (s : State) : CoreMove .all s (pgRises i s) := propagated_move (.rack (trayPgRise_move i s))

theorem pgFalls_move (i : TrayId) (s : State) : CoreMove .all s (pgFalls i s) := propagated_move (.rack (trayPgFall_move i s))

theorem trayKept_removeTray (t : Tray) : TrayKept t (removeTray t) :=
  TrayKept.of_out (fun _ => ⟨(recordLaw_enterOff t).1, (recordLaw_enterOff t).2.1, (recordLaw_enterOff t).2.2.1,
    (recordLaw_enterOff t).2.2.2.1, fun _ => rfl⟩) (Or.inl rfl)

theorem presenceLost_move (i : TrayId) (s : State) : CoreMove .all s (presenceLost i s) :=
  propagated_move ((CoreMove.tray i _ s (trayKept_removeTray _) (fun h => by cases h) fun _ => rfl).trans (.note _ _ _ _))

theorem trayKept_present (t : Tray) : TrayKept t { t with present := true } :=
  TrayKept.of_same (fun h => ⟨h.1, h.2.1, h.2.2.1, h.2.2.2.1, fun hp => by cases hp⟩) rfl rfl (fun _ => rfl) id

theorem presenceBack_move (i : TrayId) (s : State) : CoreMove .all s (presenceBack i s) :=
  .tray i _ s (trayKept_present _) Or.inl fun _ => rfl

theorem inrushWaitEnds_move (i : TrayId) (s : State) : CoreMove .all s (inrushWaitEnds i s) := by
  unfold inrushWaitEnds
  split
  · next hs _ => exact propagated_move (.rack (failTray_move i .noPg s (by rw [hs]; decide)))
  · exact .refl s

theorem settleEnds_move (i : TrayId) (s : State) : CoreMove .all s (settleEnds i s) := by
  unfold settleEnds
  split
  · next hs _ => exact propagated_move (.rack (reachOn_move i s hs))
  · exact .refl s

theorem stopEnds_move (i : TrayId) (s : State) : CoreMove .all s (stopEnds i s) := by
  unfold stopEnds
  split
  · next hs _ =>
    exact propagated_move (CoreMove.ite (fun _ => .rack (failTray_move i .stuckOn s (by rw [hs]; decide)))
      fun _ => .of_trayMove i _ s (trayMove_enterOff _))
  · exact .refl s

theorem trayKept_timerIdle (t : Tray) (hs : t.state = .failed) : TrayKept t { t with timer := .idle } := by
  refine TrayKept.of_out (fun h => ?_) (Or.inr (Or.inr hs))
  obtain ⟨hlock, -, hcause⟩ := h
  exact ⟨hlock, (congrArg (fun st => timerFits st .idle) hs).trans rfl, hcause⟩

theorem abandonRetry_move (i : TrayId) (s : State) (hs : s.trays[i].state = .failed) : CoreMove .all s (abandonRetry i s) :=
  (CoreMove.tray i _ s (trayKept_timerIdle _ hs) Or.inl fun _ => rfl).trans (.note _ _ _ _)

theorem dischargeEnds_move (i : TrayId) (s : State) : CoreMove .all s (dischargeEnds i s) := by
  unfold dischargeEnds
  split
  · next hs _ =>
    refine propagated_move (CoreMove.ite (fun hr => ?_) fun _ => abandonRetry_move i s hs)
    simp only [retryAllowed, upRunExists, Bool.and_eq_true, beq_iff_eq, bne_iff_ne] at hr
    obtain ⟨⟨howner, hlocks⟩, hrun⟩ := hr
    exact .retry i s hs howner (Lockouts.isEmpty_eq hlocks) hrun
  · exact .refl s

/-! ### Runs, tests, the profile, the host's silence -/

theorem qualifyEnds_move (s : State) : CoreMove .all s (qualifyEnds s) :=
  CoreMove.ite (fun h => .block (qualifyFailure_move s h.1)) fun _ => .refl s

theorem startSpacingEnds_move (s : State) : CoreMove .all s (startSpacingEnds s) :=
  CoreMove.ite
    (fun _ => .rack ((RackMove.run { s.run with startSpacing := none } s (RunKept.of_fields rfl rfl rfl rfl rfl)).trans
      (evalStart_move _)))
    fun _ => .refl s

theorem stopSpacingEnds_move (s : State) : CoreMove .all s (stopSpacingEnds s) :=
  CoreMove.ite
    (fun _ => .rack ((RackMove.run { s.run with stopSpacing := none } s (RunKept.of_fields rfl rfl rfl rfl rfl)).trans
      (evalStop_move _)))
    fun _ => .refl s

theorem prepareEnds_move (s : State) : CoreMove .all s (prepareEnds s) := by
  unfold prepareEnds
  split
  · exact .block (abortTest_move _ s)
  · exact .refl s

theorem endSave_move (how : SaveOutcome) (s : State) : CoreMove .all s (endSave how s) := by
  unfold endSave
  split
  · exact .refl s
  · cases how with
    | equal => exact (store_move _ s).trans (.note _ _ _ _)
    | different => exact (store_move _ s).trans (.note _ _ _ _)
    | writeFailure => exact (store_move _ s).trans (.note _ _ _ _)

theorem trayStill_auto (t : Tray) : TrayStill t { t with owner := .auto } := ⟨id, rfl, fun _ => rfl, rfl, rfl, rfl⟩

/-- The silence timer's expiry, the notice left out (R26). -/
def allAuto (s : State) : State :=
  { s with trays := Vector.ofFn fun i => { s.trays[i] with owner := .auto }
           hli := { s.hli with silence := none } }

theorem allAuto_get (s : State) (i : TrayId) : (allAuto s).trays[i] = { s.trays[i] with owner := .auto } := by
  simp [allAuto, Fin.getElem_fin]

theorem allAuto_move (s : State) : CoreMove .all s (allAuto s) := by
  have hget := allAuto_get s
  have htrays : ∀ i : TrayId, TrayStill s.trays[i] (allAuto s).trays[i] := fun i => by
    rw [hget]
    exact trayStill_auto _
  obtain ⟨t, ht⟩ : ∃ t, t = allAuto s := ⟨_, rfl⟩
  simp only [← ht] at htrays ⊢
  simp only [allAuto] at ht
  refine .still ⟨htrays, ?_, ?_, .of_eq ?_ ?_, ?_, ?_, ?_⟩ (fun _ => .of_eq ?_ ?_) fun _ => ⟨⟨?_, ?_, ?_⟩, ?_, ?_, ?_, ?_⟩
  all_goals simp only [ht, NoticeLaw, BusLaw, CounterLaw, imp_self]
  exact RunKept.of_fields rfl rfl rfl rfl rfl

theorem hostSilent_eq (s : State) :
    hostSilent s = if s.hli.silence.isSome then post .hostSilent none (some (manualCount s)) (allAuto s) else s := by
  unfold hostSilent
  cases s.hli.silence <;> rfl

theorem hostSilent_move (s : State) : CoreMove .all s (hostSilent s) := by
  rw [hostSilent_eq]
  exact CoreMove.ite (fun _ => (allAuto_move s).trans (.note _ _ _ _)) fun _ => .refl s

end Sys2Proof.Machine
end

section
/-! PROOFS. What the resets, the time base and the host link do to the part, and which properties every command keeps: those
that survive quiet moves, the operations of the link and of the leak monitor, the entry of NORMAL and a cold reset. -/
namespace Sys2Proof.Machine

/-! ### The time base -/

theorem recordLaw_timer (t : Tray) (tm : TrayTimer) (h : recordLaw t)
    (hf : timerFits t.state t.timer = true → timerFits t.state tm = true) : recordLaw { t with timer := tm } := by
  obtain ⟨hlock, hfits, hcause⟩ := h
  exact ⟨hlock, hf hfits, hcause⟩

theorem trayStill_timer (t : Tray) (tm : TrayTimer)
    (hf : timerFits t.state t.timer = true → timerFits t.state tm = true) : TrayStill t { t with timer := tm } :=
  ⟨fun h => recordLaw_timer t tm h hf, rfl, id, rfl, rfl, rfl⟩

theorem timerFits_tick (st : TrayState) (tm : TrayTimer) (h : timerFits st tm = true) :
    timerFits st (tickTrayTimer tm) = true := by
  cases tm <;> cases st <;> exact h

theorem time_move (n : Nat) (s : State) : CoreMove .all s { s with time := n } :=
  .still (.of_eq rfl rfl ⟨rfl, rfl⟩ id id rfl) (fun _ => .of_eq rfl rfl) fun _ => .refl _

theorem held_move (k : Option ResetKind) (s : State) : CoreMove .all s { s with held := k } :=
  .still (.of_eq rfl rfl ⟨rfl, rfl⟩ id id rfl) (fun _ => .of_eq rfl rfl) fun _ => .refl _

theorem countTimers_get (s : State) (i : TrayId) :
    (countTimers s).trays[i] = { s.trays[i] with timer := tickTrayTimer s.trays[i].timer } := by
  simp [countTimers, Fin.getElem_fin]

theorem countTimers_loop (s : State) (l : LoopId) :
    (countTimers s).loops[l] = { s.loops[l] with travel := countDownOpt s.loops[l].travel } := by
  simp [countTimers, Fin.getElem_fin]

theorem countTimers_move (s : State) : CoreMove .all s (countTimers s) := by
  have htrays : ∀ i : TrayId, TrayStill s.trays[i] (countTimers s).trays[i] := fun i => by
    rw [countTimers_get]
    exact trayStill_timer _ _ (timerFits_tick _ _)
  have hloops : ∀ l : LoopId, (countTimers s).loops[l] = { s.loops[l] with travel := countDownOpt s.loops[l].travel } :=
    countTimers_loop s
  obtain ⟨t, ht⟩ : ∃ t, t = countTimers s := ⟨_, rfl⟩
  simp only [← ht] at htrays hloops ⊢
  simp only [countTimers] at ht
  refine .still ⟨htrays, ?_, ?_, .of_still ⟨?_, ?_, ?_, ?_, ?_⟩ ⟨?_, ?_, ?_, ?_⟩, ?_, ?_, ?_⟩
    (fun _ => ⟨?_, fun l => by rw [hloops], fun l => by rw [hloops], fun l => by rw [hloops]⟩) fun _ => ⟨⟨?_, ?_, ?_⟩, ?_, ?_, ?_, ?_⟩
  all_goals simp only [ht, NoticeLaw, BusLaw, CounterLaw, imp_self, Option.map_eq_none_iff, countDownOpt, Option.isSome_map]
  exact RunKept.of_fields rfl rfl rfl rfl rfl

/-! ### The warm reset -/

theorem setLink_move (h : HostLink) (s : State) : CoreMove .leaks s (setLink h s) :=
  .still (.of_eq rfl rfl ⟨rfl, rfl⟩ id id rfl) (fun _ => .of_eq rfl rfl) fun h => h.elim

theorem warmNotices_move (kind : ResetKind) (s : State) : CoreMove .all s (warmNotices kind s) :=
  (notices_move _ s fun _ => ⟨Nat.zero_le _, Nat.zero_le _⟩).trans (.note _ _ _ _)

theorem warmRun_move (s : State) : RackMove s (warmRun s) := by
  refine .run _ s ⟨rfl, rfl, Or.inl rfl, Or.inl rfl, fun h => Or.inl ?_⟩
  dsimp only at h
  split at h
  · cases h
  · exact h

theorem timerFits_restart (t : Tray) (h : timerFits t.state t.timer = true) :
    timerFits t.state (restartTimer t).timer = true := by
  unfold restartTimer
  cases ht : t.timer <;> rw [ht] at h <;> cases hs : t.state <;> rw [hs] at h <;> first | exact h | (rw [ht]; exact h)

theorem restartTimer_eq (t : Tray) : restartTimer t = { t with timer := (restartTimer t).timer } := by
  unfold restartTimer
  split <;> rfl

theorem warmTimers_get (s : State) (i : TrayId) : (warmTimers s).trays[i] = restartTimer s.trays[i] := by
  simp [warmTimers, Fin.getElem_fin]

theorem warmTimers_loop (s : State) (l : LoopId) :
    (warmTimers s).loops[l] =
      { s.loops[l] with travel := s.loops[l].travel.map fun _ => s.params.valveTravel * 1000 } := by
  simp [warmTimers, Fin.getElem_fin]

theorem warmTimers_move (s : State) : CoreMove .all s (warmTimers s) := by
  have htrays : ∀ i : TrayId, TrayStill s.trays[i] (warmTimers s).trays[i] := fun i => by
    rw [warmTimers_get, restartTimer_eq]
    exact trayStill_timer _ _ (timerFits_restart _)
  have hloops := warmTimers_loop s
  obtain ⟨t, ht⟩ : ∃ t, t = warmTimers s := ⟨_, rfl⟩
  simp only [← ht] at htrays hloops ⊢
  simp only [warmTimers] at ht
  refine .still ⟨htrays, ?_, ?_, .of_still ⟨?_, ?_, ?_, ?_, ?_⟩ ⟨?_, ?_, ?_, ?_⟩, ?_, ?_, ?_⟩
    (fun _ => ⟨?_, fun l => by rw [hloops], fun l => by rw [hloops], fun l => by rw [hloops]⟩) fun _ => ⟨⟨?_, ?_, ?_⟩, ?_, ?_, ?_, ?_⟩
  all_goals simp only [ht, NoticeLaw, BusLaw, CounterLaw, imp_self, Option.isSome_map]
  exact RunKept.of_fields rfl rfl rfl rfl rfl

theorem warmBus_move (s : State) : CoreMove .all s (warmBus s) := by
  unfold warmBus
  dsimp only
  refine CoreMove.trans ?_ (setBus_move _ _ fun _ => ⟨rfl, fun _ => rfl⟩)
  exact setParams_move _ s

theorem warmScan_move (s : State) : CoreMove .all s (warmScan s) :=
  .still (.of_eq rfl rfl ⟨rfl, rfl⟩ id id rfl) (fun _ => .of_eq rfl rfl) fun _ => .refl _

theorem warmStore_move (kind : ResetKind) (s : State) : CoreMove .all s (warmStore kind s) := store_move _ s

/-- A warm reset before the link is fresh: notices and store (R170, R177, R179, R180). -/
theorem warmRecords_move (kind : ResetKind) (s : State) : CoreMove .all s (warmStore kind (warmNotices kind s)) :=
  (warmNotices_move kind s).trans (warmStore_move kind _)

/-- What a warm reset does from the fresh link to the start of the bus cycle (R29, R51, R73, R91, R107, R127, R146, R159). -/
def warmOnward (s : State) : State :=
  startCycle (recomputeGrants (recomputeFloor (reserveChanged (setDeficit false false
    (warmScan (warmBus (warmTimers (warmRun (abortTest .reset s)))))))))

theorem warmStart_eq (kind : ResetKind) (s : State) :
    warmStart kind s = warmOnward (warmLink (warmStore kind (warmNotices kind s))) := rfl

theorem warmOnward_move (s : State) : CoreMove .all s (warmOnward s) := by
  have hclear : ∀ u, CoreMove .all u (startCycle (recomputeGrants (recomputeFloor (reserveChanged (setDeficit false false u))))) :=
    fun u => (CoreMove.block ((((BlockMove.rack (.deficit false false u)).trans (reserveChanged_move _)).trans
      (recomputeFloor_move _)).trans (recomputeGrants_move _))).trans (startCycle_move _)
  have hrecords : ∀ u, CoreMove .all u (warmScan (warmBus (warmTimers (warmRun u)))) :=
    fun u => (((CoreMove.rack (warmRun_move u)).trans (warmTimers_move _)).trans (warmBus_move _)).trans (warmScan_move _)
  exact ((CoreMove.block (abortTest_move .reset s)).trans (hrecords _)).trans (hclear _)

theorem rereadPresence_move (i : TrayId) (s : State) : CoreMove .all s (rereadPresence i s) :=
  CoreMove.ite (fun _ => presenceBack_move i s) fun _ => CoreMove.ite (fun _ => presenceLost_move i s) fun _ => .refl s

theorem rereadPg_move (i : TrayId) (s : State) : CoreMove .all s (rereadPg i s) := by
  unfold rereadPg
  split
  · exact pgRises_move i s
  · exact pgFalls_move i s
  · exact .refl s

theorem rereadTrays_move (s : State) : CoreMove .all s (rereadTrays s) :=
  (CoreMove.foldl _ (fun s i => rereadPresence_move i s) allTrays s).trans
    (.foldl _ (fun s i => rereadPg_move i s) allTrays _)

theorem rereadModules_move (s : State) : CoreMove .all s (rereadModules s) :=
  CoreMove.foldl _ (fun s k => CoreMove.ite (fun _ => moduleReleased_move k s) fun _ =>
    CoreMove.ite (fun _ => moduleAsserted_move k s) fun _ => .refl s) allSlots s

theorem warmDeficit_move (s : State) : CoreMove .all s (warmDeficit s) :=
  .rack ((evalDeficit_move s).trans (seqAfter_move s _))

/-- A warm reset from the start of the bus cycle to the reread of IFAIL. -/
def warmRereads (s : State) : State := warmDeficit (rereadModules (rereadTrays s))

theorem warmRereads_move (s : State) : CoreMove .all s (warmRereads s) :=
  ((rereadTrays_move _).trans (rereadModules_move _)).trans (warmDeficit_move _)

theorem warmReset_eq (kind : ResetKind) (s : State) :
    warmReset kind s = leakRecompute (rereadValves (rereadIfail (warmRereads (warmStart kind s)))) := rfl

/-- The reread of IFAIL brings the shelf to NORMAL, or is a move of the blocks (R107). -/
theorem rereadIfail_cases (s : State) : EntersNormal s (rereadIfail s) ∨ BlockMove s (rereadIfail s) := by
  unfold rereadIfail
  split
  · exact Or.inr (ifailAsserted_move s)
  · exact (ifailReleased_cases s).imp And.right id
  · exact Or.inr (.refl s)

/-! ### The cold reset -/

theorem coldPg_move (s : State) : RackMove s (coldPg s) := by
  unfold coldPg
  induction allTrays generalizing s with
  | nil => exact .refl s
  | cons i l ih =>
    rw [List.foldl_cons]
    split
    · exact (trayPgRise_move i s).trans (ih _)
    · exact ih s

theorem coldBoot_move (s : State) : CoreMove .all (coldValues s) (coldBoot s) := by
  have hnotes : ∀ u : State, CoreMove .all u (if u.store.valid then u else post .profileInvalid none none u) :=
    fun u => CoreMove.ite (fun _ => .refl u) fun _ => .note _ _ _ u
  have hifail : ∀ u : State, CoreMove .all u (if u.pins.ifail then ifailAsserted u else u) :=
    fun u => CoreMove.ite (fun _ => .block (ifailAsserted_move u)) fun _ => .refl u
  unfold coldBoot
  exact (((((CoreMove.note _ _ _ _).trans (hnotes _)).trans (.rack (coldPg_move _))).trans (startCycle_move _)).trans
    (hifail _)).trans (store_move _ _)

/-! ### Properties that every command keeps -/

/-- A property kept by every quiet move, by the changes of the link that keep its law, and by the leak monitor's own
operations. -/
structure Kept (P : State → Prop) : Prop where
  runDown : ∀ scope s, P s → P (answerRunDown scope s).2
  core : ∀ s t, CoreMove .all s t → P s → P t
  link : ∀ k s, (LinkLaw s → LinkLaw (setLink k s)) → P s → P (setLink k s)
  leaks : ∀ b armed s, b.ofLeaks = true → P s → P (answerBody b armed s).2
  scan : ∀ readings s, P s → P (scan readings s)
  switchEdge : ∀ l sw made s, P s → P (switchEdge l sw made s)
  travel : ∀ l s, P s → P (travelExpires l s)

/-- And one that the entry of NORMAL, a recomputation of the lockouts and a cold reset keep too. -/
structure KeptThroughout (P : State → Prop) : Prop extends Kept P where
  normal : ∀ s t, EntersNormal s t → P s → P t
  recompute : ∀ s, P s → P (leakRecompute s)
  cold : ∀ s, P s → P (coldValues s)

/-! ### The law of the link -/

/-- A change that moves no request keeps the law of the link. -/
theorem LinkLoose.linkLaw {s t : State} (h : LinkLoose s.hli t.hli) (hs : LinkLaw s) : LinkLaw t := by
  obtain ⟨hqueue, hreply, hcounters⟩ := h
  obtain ⟨hq, h1, h2, h3, h4, h5, hr⟩ := hs
  obtain ⟨k1, k2, k3, k4, k5⟩ := hcounters ⟨h1, h2, h3, h4, h5⟩
  refine ⟨hqueue ▸ hq, k1, k2, k3, k4, k5, ?_⟩
  rw [hqueue, hreply]
  exact hr

theorem linkLaw_reply {s : State} {x : Option Reply} (h : LinkLaw s) (hne : s.hli.queue ≠ []) :
    LinkLaw (setLink { s.hli with reply := x } s) := by
  obtain ⟨hq, h1, h2, h3, h4, h5, -⟩ := h
  exact ⟨hq, h1, h2, h3, h4, h5, fun _ => hne⟩

theorem linkLaw_queue {s : State} {r : Request} (hroom : s.hli.queue.length < Config.requestRoom) (h : LinkLaw s) :
    LinkLaw (setLink { s.hli with queue := s.hli.queue ++ [r] } s) := by
  obtain ⟨-, h1, h2, h3, h4, h5, -⟩ := h
  refine ⟨?_, h1, h2, h3, h4, h5, fun _ => by simp [setLink]⟩
  simp only [setLink, List.length_append, List.length_singleton]
  exact hroom

theorem linkLaw_gone {s : State} (h : LinkLaw s) : LinkLaw (setLink { s.hli with queue := s.hli.queue.tail, reply := none } s) := by
  obtain ⟨hq, h1, h2, h3, h4, h5, -⟩ := h
  refine ⟨?_, h1, h2, h3, h4, h5, fun hr => absurd hr Bool.false_ne_true⟩
  simp only [setLink, List.length_tail]
  omega

/-- A link without requests asks its counters only. -/
theorem linkLaw_empty {s : State} {k : HostLink} (h1 : k.headerErrors ≤ 65535) (h2 : k.payloadErrors ≤ 65535)
    (h3 : k.byteErrors ≤ 65535) (h4 : k.timeouts ≤ 65535) (h5 : k.overruns ≤ 65535) (hq : k.queue = [] := by rfl)
    (hr : k.reply = none := by rfl) : LinkLaw (setLink k s) := by
  refine ⟨?_, h1, h2, h3, h4, h5, fun h => ?_⟩
  · simp [setLink, hq]
  · simp [setLink, hr] at h

section
variable {a : HostLink}

theorem counterLaw_header {f : Framer} (h : CounterLaw a) :
    CounterLaw { a with framer := f, headerErrors := countUp 65535 a.headerErrors } := by
  obtain ⟨-, h2, h3, h4, h5⟩ := h
  exact ⟨Nat.min_le_left _ _, h2, h3, h4, h5⟩

theorem counterLaw_byte {f : Framer} {k : Bool} (h : CounterLaw a) :
    CounterLaw { a with framer := f, inBreak := k, byteErrors := countUp 65535 a.byteErrors } := by
  obtain ⟨h1, h2, -, h4, h5⟩ := h
  exact ⟨h1, h2, Nat.min_le_left _ _, h4, h5⟩

theorem counterLaw_timeout {f : Framer} (h : CounterLaw a) :
    CounterLaw { a with framer := f, timeouts := countUp 65535 a.timeouts } := by
  obtain ⟨h1, h2, h3, -, h5⟩ := h
  exact ⟨h1, h2, h3, Nat.min_le_left _ _, h5⟩

theorem counterLaw_overrun (h : CounterLaw a) : CounterLaw { a with overruns := countUp 65535 a.overruns } := by
  obtain ⟨h1, h2, h3, h4, -⟩ := h
  exact ⟨h1, h2, h3, h4, Nat.min_le_left _ _⟩

end

/-- The commands that can bring the shelf to NORMAL, and those that reset the part. -/
def bringsNormal : Instr → Bool
  | .ifailRelease => true
  | .restoreExpiry => true
  | .powerOn _ => true
  | .resetPinAssert _ => true
  | .resetPinRelease => true
  | .warmCommandReset => true
  | _ => false

section
variable {P : State → Prop} (h : Kept P)
include h

theorem Kept.all {s t : State} (hm : CoreMove .all s t) (hs : P s) : P t := h.core s t hm hs

/-- A change of the link's record that moves no request. -/
theorem Kept.linkStill (k : HostLink) (s : State) (hk : LinkLoose s.hli k) (hs : P s) : P (setLink k s) :=
  h.link k s (fun hl => LinkLoose.linkLaw (t := setLink k s) hk hl) hs

theorem Kept.body (b : RequestBody) (armed : Option ArmTarget) (s : State) (hs : P s) : P (answerBody b armed s).2 := by
  cases hb : b.ofLeaks with
  | true => exact h.leaks b armed s hb hs
  | false =>
    by_cases hd : ∃ scope, b = .runDown scope
    · obtain ⟨scope, rfl⟩ := hd
      exact h.runDown scope s hs
    · by_cases ha : ∃ target channel, b = .arm target channel
      · obtain ⟨target, channel, rfl⟩ := ha
        obtain ⟨x, hx⟩ := answerArm_link target channel s
        have harm : P (setLink { s.hli with arm := x } s) := h.linkStill _ s ⟨rfl, rfl, id⟩ hs
        exact hx ▸ harm
      · exact h.all (answerBody_quiet b armed s hb (fun scope e => hd ⟨scope, e⟩) fun target channel e => ha ⟨target, channel, e⟩) hs

theorem Kept.takeRequest (s : State) (hs : P s) : P (takeRequest s) := by
  unfold Machine.takeRequest
  split
  · exact hs
  · next r rest hq =>
    have h1 := h.linkStill { s.hli with arm := none } s ⟨rfl, rfl, id⟩ hs
    have h2 := h.body r.body s.hli.arm _ h1
    have hqueue := answerBody_queue r.body s.hli.arm (setLink { s.hli with arm := none } s)
    dsimp only
    generalize (answerBody r.body s.hli.arm (setLink { s.hli with arm := none } s)).2 = u at h2 hqueue ⊢
    refine h.link _ _ (fun hl => ?_) h2
    have hne : u.hli.queue ≠ [] := by
      rw [hqueue]
      exact fun e => by rw [show (setLink { s.hli with arm := none } s).hli.queue = s.hli.queue from rfl, hq] at e; cases e
    exact linkLaw_reply hl hne

theorem Kept.acceptRequest (r : Request) (s : State) (hs : P s) : P (acceptRequest r s) := by
  have h1 : P (restartSilence (setLink { s.hli with framer := .hunt, inBreak := false } s)) :=
    h.all (restartSilence_move _) (h.linkStill _ _ ⟨rfl, rfl, id⟩ hs)
  unfold Machine.acceptRequest
  dsimp only
  generalize restartSilence (setLink { s.hli with framer := .hunt, inBreak := false } s) = u at h1 ⊢
  split
  · next hroom =>
    have h2 : P (setLink { u.hli with queue := u.hli.queue ++ [r] } u) := h.link _ _ (linkLaw_queue hroom) h1
    split
    · exact h.takeRequest _ h2
    · exact h2
  · exact h.linkStill _ _ ⟨rfl, rfl, counterLaw_overrun⟩ h1

theorem Kept.replyGone (s : State) (hs : P s) : P (replyGone s) := by
  unfold Machine.replyGone
  split
  · exact hs
  · have h1 : P (setLink { s.hli with queue := s.hli.queue.tail, reply := none } s) := h.link _ _ linkLaw_gone hs
    dsimp only
    split
    · exact h.all (store_move _ _) h1
    · exact h1
    · exact h.takeRequest _ h1

theorem Kept.judgeHeader (bytes : List Byte) (s : State) (hs : P s) : P (judgeHeader bytes s) := by
  unfold Machine.judgeHeader
  split
  · split
    · unfold goodHeader
      split
      · exact h.linkStill _ _ ⟨rfl, rfl, id⟩ hs
      · split
        · exact h.acceptRequest _ s hs
        · exact h.linkStill _ _ ⟨rfl, rfl, id⟩ hs
    · exact h.linkStill _ _ ⟨rfl, rfl, counterLaw_header⟩ hs
  · exact hs

theorem Kept.receiveByte (b : Byte) (s : State) (hs : P s) : P (receiveByte b s) := by
  have h1 := h.linkStill { s.hli with inBreak := false } s ⟨rfl, rfl, id⟩ hs
  unfold Machine.receiveByte
  dsimp only
  split
  · split
    · exact h.linkStill _ _ ⟨rfl, rfl, id⟩ h1
    · exact h1
  · split
    · exact h.linkStill _ _ ⟨rfl, rfl, id⟩ h1
    · exact h.judgeHeader _ _ h1
  · exact h.linkStill _ _ ⟨rfl, rfl, id⟩ h1
  · split
    · exact h.linkStill _ _ ⟨rfl, rfl, id⟩ h1
    · exact h.acceptRequest _ _ h1

theorem Kept.byteError (back : Bool) (s : State) (hs : P s) : P (byteError back s) := by
  unfold Machine.byteError countByteError
  split
  · exact hs
  · split
    · exact h.linkStill _ _ ⟨rfl, rfl, id⟩ hs
    · exact h.linkStill _ _ ⟨rfl, rfl, counterLaw_byte⟩ hs

theorem Kept.frameGap (s : State) (hs : P s) : P (frameGap s) := by
  unfold Machine.frameGap
  split
  · exact hs
  · exact h.linkStill _ _ ⟨rfl, rfl, id⟩ hs
  · exact h.linkStill _ _ ⟨rfl, rfl, counterLaw_timeout⟩ hs

theorem Kept.linkBroken (s : State) (hs : P s) : P (linkBroken s) := by
  have h1 : P (setLink { s.hli with framer := .hunt, inBreak := true, queue := [], reply := none, arm := none } s) :=
    h.link _ _ (fun ⟨_, h1, h2, h3, h4, h5, _⟩ => linkLaw_empty h1 h2 h3 h4 h5) hs
  unfold Machine.linkBroken
  dsimp only
  split
  · exact h.all (store_move _ _) h1
  · exact h1

omit h in
theorem awake_keeps (f : State → State) {s t : State} (hf : P s → P (f s)) (he : awake f s = .next t) (hs : P s) : P t := by
  unfold awake at he
  injection he with he
  subst he
  split
  · exact hs
  · exact hf hs

/-- Every command but those that can bring the shelf to NORMAL keeps the property. -/
theorem Kept.exec (c : Instr) (s t : State) (hc : bringsNormal c = false) (he : exec c s = .next t) (hs : P s) : P t := by
  cases c with
  | hostFrameReceived kind tag payload check => exact awake_keeps _ (h.acceptRequest _ s) he hs
  | hostByteError why => exact awake_keeps _ (h.byteError _ s) he hs
  | frameGapTimeout => exact awake_keeps _ (h.frameGap s) he hs
  | linkBreak => exact awake_keeps _ (h.linkBroken s) he hs
  | replySent => exact awake_keeps _ (h.replyGone s) he hs
  | hostSilenceExpiry => exact awake_keeps _ (h.all (hostSilent_move s)) he hs
  | pgRise tray => exact awake_keeps _ (h.all (pgRises_move tray _)) he (h.all (pins_move _ s) hs)
  | pgFall tray => exact awake_keeps _ (h.all (pgFalls_move tray _)) he (h.all (pins_move _ s) hs)
  | presenceLoss tray => exact awake_keeps _ (h.all (presenceLost_move tray _)) he (h.all (pins_move _ s) hs)
  | presenceAsserted tray => exact awake_keeps _ (h.all (presenceBack_move tray _)) he (h.all (pins_move _ s) hs)
  | inrushWaitExpiry tray => exact awake_keeps _ (h.all (inrushWaitEnds_move tray s)) he hs
  | settleExpiry tray => exact awake_keeps _ (h.all (settleEnds_move tray s)) he hs
  | stopTimerExpiry tray => exact awake_keeps _ (h.all (stopEnds_move tray s)) he hs
  | dischargeWaitExpiry tray => exact awake_keeps _ (h.all (dischargeEnds_move tray s)) he hs
  | busCycleStart => exact awake_keeps _ (h.all (busCycle_move s)) he hs
  | moduleReplyReceived frame => exact awake_keeps _ (h.all (busReply_move frame s)) he hs
  | replyWindowExpiry => exact awake_keeps _ (h.all (pollMissed_move s)) he hs
  | modulePresenceReleased slot => exact awake_keeps _ (h.all (moduleReleased_move slot _)) he (h.all (pins_move _ s) hs)
  | modulePresenceAsserted slot => exact awake_keeps _ (h.all (moduleAsserted_move slot _)) he (h.all (pins_move _ s) hs)
  | ifailAssert => exact awake_keeps _ (h.all (.block (ifailAsserted_move _))) he (h.all (pins_move _ s) hs)
  | qualifyExpiry => exact awake_keeps _ (h.all (qualifyEnds_move s)) he hs
  | startSpacingExpiry => exact awake_keeps _ (h.all (startSpacingEnds_move s)) he hs
  | stopSpacingExpiry => exact awake_keeps _ (h.all (stopSpacingEnds_move s)) he hs
  | autoStartRun => exact awake_keeps _ (h.all (.block (autoStartTest_move s))) he hs
  | scanPass readings => exact awake_keeps _ (h.scan readings s) he hs
  | valveSwitchEdge loop switch made =>
    refine awake_keeps _ (h.switchEdge loop switch made _) he ?_
    cases switch <;> exact h.all (pins_move _ s) hs
  | valveTravelExpiry loop =>
    refine awake_keeps _ (fun hs => ?_) he hs
    unfold travelEnds
    split
    · exact h.travel loop s hs
    · exact hs
  | prepareTimeout => exact awake_keeps _ (h.all (prepareEnds_move s)) he hs
  | saveComplete outcome => exact awake_keeps _ (h.all (endSave_move outcome s)) he hs
  | hostByteReceived byte => exact awake_keeps _ (h.receiveByte byte s) he hs
  | ifailRelease | restoreExpiry | powerOn | resetPinAssert | resetPinRelease | warmCommandReset => cases hc
  | _ => exact awake_keeps _ (h.acceptRequest _ s) he hs

theorem Kept.rereadValves (s : State) (hs : P s) : P (rereadValves s) := by
  have hswitch : ∀ l sw recorded level u, P u → P (rereadSwitch l sw recorded level u) := fun l sw recorded level u hu => by
    unfold rereadSwitch
    split
    · exact hu
    · exact h.switchEdge l sw level u hu
  unfold Machine.rereadValves
  induction allLoops generalizing s with
  | nil => exact hs
  | cons l ls ih => exact ih _ (hswitch _ _ _ _ _ (hswitch _ _ _ _ _ hs))

/-- A step without a command keeps the property. -/
theorem Kept.idle (s : State) (hq : ∀ u q, P u → P { u with pending := q }) (hs : P s) : P (idle s) := by
  unfold Machine.idle tick
  split
  · exact hq s _ hs
  · split
    · exact h.all (time_move _ s) hs
    · exact hq _ _ (h.all (countTimers_move s) hs)

end

section
variable {P : State → Prop} (h : KeptThroughout P)
include h

theorem KeptThroughout.coldBoot (s : State) (hs : P s) : P (coldBoot s) := h.toKept.all (coldBoot_move s) (h.cold s hs)

theorem KeptThroughout.warmRead (kind : ResetKind) (s : State) (hs : P s) :
    P (rereadValves (rereadIfail (warmRereads (warmStart kind s)))) := by
  have hfresh : P (warmLink (warmStore kind (warmNotices kind s))) :=
    h.link _ _ (fun _ => linkLaw_empty (Nat.zero_le _) (Nat.zero_le _) (Nat.zero_le _) (Nat.zero_le _) (Nat.zero_le _))
      (h.toKept.all (warmRecords_move kind s) hs)
  have hhead : P (warmRereads (warmStart kind s)) :=
    h.toKept.all (warmRereads_move _) (warmStart_eq kind s ▸ h.toKept.all (warmOnward_move _) hfresh)
  refine h.toKept.rereadValves _ ?_
  generalize warmRereads (warmStart kind s) = u at hhead ⊢
  rcases rereadIfail_cases u with hi | hi
  · exact h.normal _ _ hi hhead
  · exact h.toKept.all (.block hi) hhead

theorem KeptThroughout.warmReset (kind : ResetKind) (s : State) (hs : P s) : P (warmReset kind s) := by
  rw [warmReset_eq]
  exact h.recompute _ (h.warmRead kind s hs)

omit h in
/-- The store while RESET holds the part in a warm reset (R177, R180). -/
theorem heldStore_move (p : ProfileStore) (k : Option ResetKind) (s : State) : CoreMove .all s { s with store := p, held := k } :=
  .still (.of_eq rfl rfl ⟨rfl, rfl⟩ id id rfl) (fun _ => .of_eq rfl rfl) fun _ => .refl _

omit h in
/-- The assertion of RESET on the part `u`, whose KEEP pin reads as it does then (R179). -/
theorem resetAsserted_eq (keep : Bool) (s u : State) (hu : u = { s with pins := { s.pins with keep := keep } }) :
    resetAsserted keep s =
      if keep then
        { setLink { u.hli with framer := .hunt, queue := [], reply := none, arm := none } u with
          store := { u.store with saving := none, restart := .none }, held := some .warmPin }
      else { coldValues u with held := some .cold } := by
  rw [hu]
  rfl

theorem KeptThroughout.resetAsserted (keep : Bool) (s : State) (hs : P s) : P (resetAsserted keep s) := by
  have hpins := h.toKept.all (pins_move { s.pins with keep := keep } s) hs
  rw [resetAsserted_eq keep s _ rfl]
  generalize ({ s with pins := { s.pins with keep := keep } } : State) = u at hpins ⊢
  split
  · refine h.toKept.all (heldStore_move _ _ _) (h.link _ _ (fun hl => ?_) hpins)
    obtain ⟨-, h1, h2, h3, h4, h5, -⟩ := hl
    exact linkLaw_empty h1 h2 h3 h4 h5
  · exact h.toKept.all (held_move _ _) (h.cold _ hpins)

theorem KeptThroughout.resetReleased (s : State) (hs : P s) : P (resetReleased s) := by
  unfold Machine.resetReleased
  split
  · exact hs
  · exact h.coldBoot s hs
  · exact h.warmReset _ _ (h.toKept.all (held_move _ s) hs)

/-- Every command keeps the property. -/
theorem KeptThroughout.exec (c : Instr) (s t : State) (he : exec c s = .next t) (hs : P s) : P t := by
  cases hc : bringsNormal c with
  | false => exact h.toKept.exec c s t hc he hs
  | true =>
    cases c with
    | ifailRelease =>
      refine awake_keeps _ (fun hs => ?_) he (h.toKept.all (pins_move _ s) hs)
      rcases ifailReleased_cases (setIfailPin false s) with ⟨-, hi⟩ | hi
      · exact h.normal _ _ hi hs
      · exact h.toKept.all (.block hi) hs
    | restoreExpiry =>
      refine awake_keeps _ (fun hs => ?_) he hs
      unfold restoreEnds
      split
      · next hr => exact h.normal _ _ (restoreNormal_enters s hr.1) hs
      · exact hs
    | powerOn pins =>
      injection he with he
      exact he ▸ h.coldBoot _ (h.toKept.all (pins_move pins s) hs)
    | resetPinAssert keep => exact awake_keeps _ (h.resetAsserted keep s) he hs
    | resetPinRelease =>
      injection he with he
      exact he ▸ h.resetReleased s hs
    | warmCommandReset =>
      refine awake_keeps _ (fun hs => ?_) he hs
      unfold restartTakesEffect
      split
      · exact hs
      · exact h.warmReset _ s hs
    | _ => cases hc

/-- Every step keeps the property. -/
theorem KeptThroughout.step (hq : ∀ u q, P u → P { u with pending := q }) (s t : State) (he : step s = .next t) (hs : P s) :
    P t := by
  unfold Machine.step at he
  split at he
  · exact h.exec _ _ t he (hq s _ hs)
  · injection he with he
    exact he ▸ h.toKept.idle s hq hs

end

end Sys2Proof.Machine
end

section
/-! PROOFS. Every step keeps the laws of the tray table, the run record and the queues (R2, R5, R6, R14, R108 to R110,
R116). -/
namespace Sys2Proof.Machine

theorem coldValues_trays (s : State) (i : TrayId) :
    (coldValues s).trays[i] = coldTray (bootConfig s.store).trays[i] s.pins.prsnt[i] := by
  simp [coldValues, Fin.getElem_fin]

theorem coldValues_run (s : State) : (coldValues s).run = coldRun := by simp only [coldValues]

theorem recordLaw_coldTray (c : TrayConfig) (p : Bool) : recordLaw (coldTray c p) := by
  simp [recordLaw, lockLaw, timerLaw, coldTray, timerFits, Tray.enable]

/-- A cold tray and an idle run meet every law of trays, run and queues (R28, R126). -/
theorem coldValues_rackLaw (s : State) : RackLaw (coldValues s) := by
  have htray := coldValues_trays s
  have hrun := coldValues_run s
  generalize coldValues s = t at htray hrun ⊢
  refine ⟨⟨fun i => ?_, ?_⟩, ?_⟩
  · obtain ⟨hlock, htimer⟩ := recordLaw_coldTray (bootConfig s.store).trays[i] s.pins.prsnt[i]
    rw [htray]
    refine ⟨hlock, htimer, ?_⟩
    simp only [placeLaw, hrun, htray]
    simp [coldRun, coldTray]
  · rw [hrun]
    simp [coldRun, queueLaw]
  · simp only [OrderLaw, hrun]
    exact ⟨List.Pairwise.nil, List.Pairwise.nil⟩

/-- The laws of trays, run and queues are kept by every command (`KeptThroughout`): each of its moves keeps them. -/
theorem rackLaw_kept : KeptThroughout RackLaw where
  runDown := fun scope s hs => (answerRunDown_move scope s hs).rackLaw hs
  core := fun _ _ hm hs => hm.rackLaw hs
  link := fun _ _ _ hs => rackLaw_congr rfl rfl hs
  leaks := fun b armed s hb hs => (answerBody_leaks_move b armed s hb).rackLaw hs
  scan := fun readings s hs => (scan_move readings s).rackLaw hs
  switchEdge := fun l sw made s hs => (switchEdge_move l sw made s).rackLaw hs
  travel := fun l s hs => (travelExpires_move l s).rackLaw hs
  normal := fun _ _ hm hs => hm.rackLaw hs
  recompute := fun s hs => (leakRecompute_move s).rackLaw hs
  cold := fun s _ => coldValues_rackLaw s

/-- Settles O57: the laws of trays, run and queues are among what every command keeps. -/
theorem everyStepKeepsTheTrayLaw : Obligations.EveryStepKeepsTheTrayLaw := by
  intro s t hs hstep
  obtain ⟨-, -, -, htray, horder, -⟩ := hs
  exact rackLaw_kept.step (fun _ _ hu => rackLaw_congr rfl rfl hu) s t hstep ⟨htray, horder⟩

end Sys2Proof.Machine
end

section
/-! PROOFS. Every step keeps the laws of the leak monitor: escalation, DISABLED, LEAK on exactly the trays that must carry it,
and a valve that is required closed driven closed (R128, R134, R135, R139, R140). -/
namespace Sys2Proof.Machine

/-! ### The parts of the laws -/

/-- A loop is escalated exactly while two or more of its channels are in ALARM (R134). -/
abbrev EscalationLaw (s : State) : Prop := ∀ l : LoopId, s.loops[l].escalated = decide (2 ≤ alarmsIn s l)

/-- A channel is DISABLED exactly while it is not enabled (R128). -/
abbrev DisabledLaw (s : State) : Prop := ∀ c : ChannelId, s.channels[c].state = .disabled ↔ s.channels[c].cfg.enabled = false

/-- A tray carries LEAK exactly while a channel or an escalation covers it (R135). -/
abbrev CoverLaw (s : State) : Prop := ∀ i : TrayId, s.trays[i].locks.leak = mustLeak s i

/-- A loop's drive fits its valve state (R140). -/
abbrev driveLaw (x : Loop) : Prop :=
  (x.valve = .closing ∨ x.valve = .closed → x.drive = true) ∧ (x.valve = .opening ∨ x.valve = .opened → x.drive = false)

/-- A valve that is required closed is driven closed (R139). -/
abbrev ClosedLaw (s : State) : Prop := ∀ l : LoopId, requiredClosed s l = true → s.loops[l].drive = true

theorem valveLaw_iff (s : State) : ValveLaw s ↔ (∀ l : LoopId, driveLaw s.loops[l]) ∧ ClosedLaw s :=
  ⟨fun h => ⟨fun l => ⟨(h l).1, (h l).2.1⟩, fun l => (h l).2.2⟩, fun h l => ⟨(h.1 l).1, (h.1 l).2, h.2 l⟩⟩

/-- The laws of the leak monitor, with those its operations on trays rest on. -/
abbrev LeakLaws (s : State) : Prop := RackLaw s ∧ LeakLaw s ∧ ValveLaw s

/-- A channel counts as an alarm of a loop. -/
def alarmOf (s : State) (l : LoopId) (c : ChannelId) : Bool := s.channels[c].state == .alarm && s.channels[c].cfg.loop == l

theorem alarmsIn_eq (s : State) (l : LoopId) : alarmsIn s l = (allChannels.filter (alarmOf s l)).length := rfl

theorem mem_allChannels (c : ChannelId) : c ∈ allChannels := List.mem_finRange c

theorem requiredClosed_iff (s : State) (l : LoopId) :
    requiredClosed s l = true ↔
      s.loops[l].escalated = true ∨ ∃ c : ChannelId, alarmOf s l c = true ∧ s.channels[c].cfg.closeValve = true := by
  simp only [requiredClosed, alarmOf, Bool.or_eq_true, List.any_eq_true, Bool.and_eq_true, mem_allChannels, true_and]

theorem mustLeak_iff (s : State) (i : TrayId) :
    mustLeak s i = true ↔ ∃ c : ChannelId, i ∈ s.channels[c].cfg.trays ∧
      ((s.channels[c].state = .alarm ∧ s.channels[c].cfg.isolate = true) ∨
        (s.channels[c].cfg.enabled = true ∧ s.loops[s.channels[c].cfg.loop].escalated = true)) := by
  simp only [mustLeak, List.any_eq_true, Bool.and_eq_true, Bool.or_eq_true, mem_allChannels, true_and, beq_iff_eq,
    List.contains_iff_mem]

/-! ### Parts that stand -/

/-- For the laws of the leak monitor two channel records are alike: one configuration, in ALARM both or neither, DISABLED
both or neither. -/
structure ChannelAlike (a b : Channel) : Prop where
  cfg : b.cfg = a.cfg
  alarm : b.state = .alarm ↔ a.state = .alarm
  disabled : b.state = .disabled ↔ a.state = .disabled

theorem ChannelAlike.refl (a : Channel) : ChannelAlike a a := ⟨rfl, Iff.rfl, Iff.rfl⟩

/-- Two parts are alike for the laws of the leak monitor. -/
structure LeakAlike (s t : State) : Prop where
  channels : ∀ c : ChannelId, ChannelAlike s.channels[c] t.channels[c]
  escalated : ∀ l : LoopId, t.loops[l].escalated = s.loops[l].escalated

section
variable {s t : State} (h : LeakAlike s t)
include h

theorem LeakAlike.alarmOf (l : LoopId) : alarmOf t l = alarmOf s l := by
  funext c
  obtain ⟨hcfg, halarm, -⟩ := h.channels c
  rw [Machine.alarmOf, Machine.alarmOf, hcfg, Bool.eq_iff_iff]
  simp only [Bool.and_eq_true, beq_iff_eq, halarm]

theorem LeakAlike.alarmsIn (l : LoopId) : alarmsIn t l = alarmsIn s l := by
  rw [alarmsIn_eq, alarmsIn_eq, h.alarmOf]

theorem LeakAlike.mustLeak (i : TrayId) : mustLeak t i = mustLeak s i := by
  rw [Bool.eq_iff_iff, mustLeak_iff, mustLeak_iff]
  refine exists_congr fun c => ?_
  obtain ⟨hcfg, halarm, -⟩ := h.channels c
  simp only [h.escalated, hcfg, halarm]

theorem LeakAlike.requiredClosed (l : LoopId) : requiredClosed t l = requiredClosed s l := by
  rw [Bool.eq_iff_iff, requiredClosed_iff, requiredClosed_iff, h.escalated, h.alarmOf]
  refine or_congr Iff.rfl (exists_congr fun c => ?_)
  rw [(h.channels c).cfg]

theorem LeakAlike.escalationLaw (hs : EscalationLaw s) : EscalationLaw t := fun l => by
  rw [h.escalated, h.alarmsIn, hs l]

theorem LeakAlike.disabledLaw (hs : DisabledLaw s) : DisabledLaw t := fun c => by
  obtain ⟨hcfg, -, hdisabled⟩ := h.channels c
  rw [hdisabled, hcfg, hs c]

theorem LeakAlike.leakLaw (hleak : ∀ i : TrayId, t.trays[i].locks.leak = s.trays[i].locks.leak) (hs : LeakLaw s) :
    LeakLaw t := by
  obtain ⟨hesc, hdis, hcover⟩ := hs
  exact ⟨h.escalationLaw hesc, h.disabledLaw hdis, fun i => by rw [hleak, h.mustLeak, hcover i]⟩

theorem LeakAlike.closedLaw (hdrive : ∀ l : LoopId, t.loops[l].drive = s.loops[l].drive) (hs : ClosedLaw s) : ClosedLaw t :=
  fun l hl => by rw [hdrive]; exact hs l (h.requiredClosed l ▸ hl)

end

theorem LeakStill.alike {s t : State} (h : LeakStill s t) : LeakAlike s t :=
  ⟨fun c => by rw [h.channels]; exact .refl _, h.escalated⟩

theorem LeakStill.valveLaw {s t : State} (h : LeakStill s t) (hs : ValveLaw s) : ValveLaw t := by
  rw [valveLaw_iff] at hs ⊢
  obtain ⟨hd, hc⟩ := hs
  refine ⟨fun l => ?_, h.alike.closedLaw h.drive hc⟩
  rw [driveLaw, h.valve, h.drive]
  exact hd l

/-- A move quiet towards the leak monitor keeps its laws. -/
theorem CoreMove.leakLaws {q : Quiet} {s t : State} (h : CoreMove q s t) (hq : q.leak) (hs : LeakLaws s) : LeakLaws t := by
  obtain ⟨hrack, hleak, hvalve⟩ := hs
  exact ⟨h.rackLaw hrack, (h.leakStill hq).alike.leakLaw (h.leak hq) hleak, (h.leakStill hq).valveLaw hvalve⟩

theorem EntersNormal.leakLaws {s t : State} (h : EntersNormal s t) (hs : LeakLaws s) : LeakLaws t := by
  obtain ⟨hrack, hleak, hvalve⟩ := hs
  have hstill : LeakStill s t := .of_eq h.side.channels h.side.loops
  exact ⟨h.rackLaw hrack, hstill.alike.leakLaw h.leak hleak, hstill.valveLaw hvalve⟩

/-! ### The LEAK lockouts -/

/-- A change of several trays that gives each the same LEAK. -/
theorem putTrays_leak (f : Tray → Tray) (b : Bool) (hf : ∀ t, (f t).locks.leak = b) (l : List TrayId) (s : State) (i : TrayId) :
    (putTrays l f s).trays[i].locks.leak = if i ∈ l then b else s.trays[i].locks.leak := by
  unfold putTrays
  induction l generalizing s with
  | nil => simp
  | cons j l ih =>
    rw [List.foldl_cons, ih, putTray_get]
    by_cases hl : i ∈ l
    · simp only [hl, List.mem_cons, or_true, if_true]
    · by_cases hj : j = i
      · subst hj
        simp only [hl, List.mem_cons, or_false, if_true, if_false, hf]
      · simp only [hl, hj, Ne.symm hj, List.mem_cons, or_false, if_false]

theorem isolateTray_leak (t : Tray) : (isolateTray t).locks.leak = true := by
  rw [isolateTray, stopTray_locks]

/-- The recomputation gives LEAK to the trays that must carry it and takes it from every other (R135). -/
theorem leakRecompute_leak (s : State) (i : TrayId) : (leakRecompute s).trays[i].locks.leak = mustLeak s i := by
  unfold leakRecompute
  rw [(propagate_move s _).leak, putTrays_leak freeLeak false (fun _ => rfl), putTrays_leak isolateTray true isolateTray_leak]
  simp only [leakLosses, leakGains, List.mem_filter, mem_allTrays, true_and, Bool.and_eq_true, Bool.not_eq_true']
  cases mustLeak s i <;> cases s.trays[i].locks.leak <;> simp

theorem leakRecompute_alike (s : State) : LeakAlike s (leakRecompute s) :=
  (LeakStill.of_eq (leakRecompute_side s).channels (leakRecompute_side s).loops).alike

/-- After a recomputation the LEAK lockouts fit, whatever they were before. -/
theorem leakRecompute_leakLaw (s : State) (he : EscalationLaw s) (hd : DisabledLaw s) : LeakLaw (leakRecompute s) := by
  have halike := leakRecompute_alike s
  have hleak := leakRecompute_leak s
  generalize leakRecompute s = t at halike hleak ⊢
  exact ⟨halike.escalationLaw he, halike.disabledLaw hd, fun i => by rw [hleak, halike.mustLeak]⟩

theorem leakRecompute_valveLaw (s : State) (hs : ValveLaw s) : ValveLaw (leakRecompute s) :=
  (LeakStill.of_eq (leakRecompute_side s).channels (leakRecompute_side s).loops).valveLaw hs

theorem leakRecompute_leakLaws (s : State) (hs : LeakLaws s) : LeakLaws (leakRecompute s) := by
  obtain ⟨hrack, ⟨hesc, hdis, -⟩, hvalve⟩ := hs
  exact ⟨(leakRecompute_move s).rackLaw hrack, leakRecompute_leakLaw s hesc hdis, leakRecompute_valveLaw s hvalve⟩

/-! ### Valves -/

/-- The laws, with the valve of one loop possibly required closed but not yet driven closed (R133). -/
structure LeakLawsBut (l : LoopId) (s : State) : Prop where
  rack : RackLaw s
  leak : LeakLaw s
  drive : ∀ m : LoopId, driveLaw s.loops[m]
  closed : ∀ m : LoopId, m ≠ l → requiredClosed s m = true → s.loops[m].drive = true

theorem leakLaws_but {s : State} (h : LeakLaws s) (l : LoopId) : LeakLawsBut l s :=
  ⟨h.1, h.2.1, ((valveLaw_iff s).mp h.2.2).1, fun m _ => ((valveLaw_iff s).mp h.2.2).2 m⟩

/-- The laws hold as soon as the drive of that loop is right too. -/
theorem LeakLawsBut.all {l : LoopId} {s : State} (h : LeakLawsBut l s)
    (hl : requiredClosed s l = true → s.loops[l].drive = true) : LeakLaws s := by
  refine ⟨h.rack, h.leak, (valveLaw_iff s).mpr ⟨h.drive, fun m hm => ?_⟩⟩
  by_cases e : m = l
  · subst e; exact hl hm
  · exact h.closed m e hm

/-- One loop's record changes, its escalation not: the laws ask of it what R139 and R140 ask of its drive. -/
theorem LeakLawsBut.putLoop {l : LoopId} {x : Loop} {s : State} (hs : LeakLawsBut l s)
    (he : x.escalated = s.loops[l].escalated) (hd : driveLaw x) (hc : requiredClosed s l = true → x.drive = true) :
    LeakLaws (putLoop l x s) := by
  obtain ⟨hrack, hleak, hdrive, hclosed⟩ := hs
  have halike : LeakAlike s (Machine.putLoop l x s) := ⟨fun c => .refl _, fun m => by
    rw [putLoop_get]
    split
    · next e => subst e; exact he
    · rfl⟩
  refine ⟨rackLaw_congr rfl rfl hrack, halike.leakLaw (fun _ => rfl) hleak, (valveLaw_iff _).mpr ⟨fun m => ?_, fun m hm => ?_⟩⟩
  · rw [putLoop_get]
    split
    · exact hd
    · exact hdrive m
  · rw [halike.requiredClosed] at hm
    rw [putLoop_get]
    split
    · next e => subst e; exact hc hm
    · next e => exact hclosed m (Ne.symm e) hm

theorem putLoop_leakLaws {l : LoopId} {x : Loop} {s : State} (hs : LeakLaws s) (he : x.escalated = s.loops[l].escalated)
    (hd : driveLaw x) (hc : requiredClosed s l = true → x.drive = true) : LeakLaws (putLoop l x s) :=
  (leakLaws_but hs l).putLoop he hd hc

theorem post_leakLaws (k : NoticeKind) (x v : Option Nat) {s : State} (hs : LeakLaws s) : LeakLaws (post k x v s) :=
  (CoreMove.note (q := .all) k x v s).leakLaws trivial hs

theorem valveReachesClosed_leakLaws {l : LoopId} {s : State} (hs : LeakLaws s) (hd : s.loops[l].drive = true) :
    LeakLaws (valveReachesClosed l s) := by
  refine post_leakLaws _ _ _ (putLoop_leakLaws hs rfl ⟨fun _ => hd, fun h => ?_⟩ fun _ => hd)
  rcases h with h | h <;> cases h

theorem valveReachesOpen_leakLaws {l : LoopId} {s : State} (hs : LeakLaws s) (hd : s.loops[l].drive = false) :
    LeakLaws (valveReachesOpen l s) := by
  refine putLoop_leakLaws hs rfl ⟨fun h => ?_, fun _ => hd⟩ fun hr => ?_
  · rcases h with h | h <;> cases h
  · exact (hs.2.2 l).2.2 hr

theorem LeakLawsBut.startClosing {l : LoopId} {s : State} (hs : LeakLawsBut l s) : LeakLaws (Machine.startClosing l s) := by
  have h1 : LeakLaws (Machine.putLoop l
      { s.loops[l] with drive := true, valve := .closing, travel := some (s.params.valveTravel * 1000) } s) := by
    refine hs.putLoop rfl ⟨fun _ => rfl, fun h => ?_⟩ fun _ => rfl
    rcases h with h | h <;> cases h
  unfold Machine.startClosing
  dsimp only
  split
  · exact valveReachesClosed_leakLaws h1 (by rw [putLoop_get, if_pos rfl])
  · exact h1

theorem startOpening_leakLaws (l : LoopId) {s : State} (hs : LeakLaws s) (hr : requiredClosed s l = false) :
    LeakLaws (startOpening l s) := by
  have h1 : LeakLaws (putLoop l
      { s.loops[l] with drive := false, valve := .opening, travel := some (s.params.valveTravel * 1000) } s) := by
    refine putLoop_leakLaws hs rfl ⟨fun h => ?_, fun _ => rfl⟩ fun h => ?_
    · rcases h with h | h <;> cases h
    · exact absurd (hr.symm.trans h) Bool.false_ne_true
  unfold startOpening
  dsimp only
  split
  · exact valveReachesOpen_leakLaws h1 (by rw [putLoop_get, if_pos rfl])
  · exact h1

theorem LeakLawsBut.closeCommand {l : LoopId} {s : State} (hs : LeakLawsBut l s) : LeakLaws (closeCommand l s) := by
  obtain ⟨hclosing, -⟩ := hs.drive l
  unfold Machine.closeCommand
  split
  · exact hs.startClosing
  · exact hs.startClosing
  · exact hs.startClosing
  · next hv => exact hs.all fun _ => hclosing (Or.inl hv)
  · next hv => exact hs.all fun _ => hclosing (Or.inr hv)

theorem openCommand_leakLaws (l : LoopId) {s : State} (hs : LeakLaws s) (hr : requiredClosed s l = false) :
    LeakLaws (openCommand l s) := by
  unfold openCommand
  split
  · exact startOpening_leakLaws l hs hr
  · exact startOpening_leakLaws l hs hr
  · exact startOpening_leakLaws l hs hr
  · exact hs
  · exact hs

theorem recordSwitch_leakLaws (l : LoopId) (sw : EndSwitch) (made : Bool) {s : State} (hs : LeakLaws s) :
    LeakLaws (recordSwitch l sw made s) := by
  obtain ⟨hclosing, hopening, hreq⟩ := hs.2.2 l
  cases sw with
  | opened => exact putLoop_leakLaws hs rfl ⟨hclosing, hopening⟩ hreq
  | closed => exact putLoop_leakLaws hs rfl ⟨hclosing, hopening⟩ hreq

theorem switchEdge_leakLaws (l : LoopId) (sw : EndSwitch) (made : Bool) {s : State} (hs : LeakLaws s) :
    LeakLaws (switchEdge l sw made s) := by
  have h1 := recordSwitch_leakLaws l sw made hs
  obtain ⟨hclosing, hopening, -⟩ := h1.2.2 l
  unfold switchEdge
  dsimp only
  split
  · split
    · split
      · next hv => exact valveReachesClosed_leakLaws h1 (hv.elim (fun h => hclosing (Or.inl h)) And.right)
      · exact h1
    · split
      · next hv => exact valveReachesOpen_leakLaws h1 (hv.elim (fun h => hopening (Or.inl h)) And.right)
      · exact h1
  · exact h1

theorem travelExpires_leakLaws (l : LoopId) {s : State} (hs : LeakLaws s) : LeakLaws (travelExpires l s) := by
  have h1 : LeakLaws (putLoop l { s.loops[l] with valve := .stuck, travel := none } s) := by
    refine putLoop_leakLaws hs rfl ⟨fun h => ?_, fun h => ?_⟩ (hs.2.2 l).2.2
    all_goals rcases h with h | h <;> cases h
  unfold travelExpires
  dsimp only
  split
  · exact post_leakLaws _ _ _ h1
  · exact post_leakLaws _ _ _ h1
  · exact hs
  · exact hs
  · exact hs

/-! ### Escalation, alarms and releases -/

/-- Before a loop's escalation is evaluated the law holds of every other loop (R134). -/
abbrev EscalationLawBut (l : LoopId) (s : State) : Prop :=
  ∀ m : LoopId, m ≠ l → s.loops[m].escalated = decide (2 ≤ alarmsIn s m)

theorem post_loop_get (k : NoticeKind) (x v : Option Nat) (s : State) (l : LoopId) :
    (post k x v s).loops[l] = s.loops[l] := by rw [post_loops]

theorem Loop.with_escalated (x : Loop) (b : Bool) (h : x.escalated = b) : { x with escalated := b } = x := by
  subst h
  rfl

/-- The loop's record after an evaluation of its escalation: the flag is set by the alarms, and nothing else. -/
theorem evalEscalation_self (l : LoopId) (s : State) :
    (evalEscalation l s).loops[l] = { s.loops[l] with escalated := decide (2 ≤ alarmsIn s l) } := by
  unfold evalEscalation
  dsimp only
  split
  · next he =>
    split
    · next hn => rw [putLoop_get, if_pos rfl, decide_eq_false (Nat.not_le.mpr hn)]
    · next hn => rw [decide_eq_true (Nat.not_lt.mp hn), Loop.with_escalated _ _ he]
  · next he =>
    split
    · next hn => rw [post_loop_get, putLoop_get, if_pos rfl, decide_eq_true hn]
    · next hn => rw [decide_eq_false hn, Loop.with_escalated _ _ (Bool.eq_false_iff.mpr he)]

/-- The loops after an evaluation of one loop's escalation. -/
theorem evalEscalation_loop (l m : LoopId) (s : State) :
    (evalEscalation l s).loops[m] =
      if l = m then { s.loops[m] with escalated := decide (2 ≤ alarmsIn s m) } else s.loops[m] := by
  split
  · next e => subst e; exact evalEscalation_self l s
  · next hlm =>
    unfold evalEscalation
    dsimp only
    repeat' split
    · rw [putLoop_get, if_neg hlm]
    · rfl
    · rw [post_loop_get, putLoop_get, if_neg hlm]
    · rfl

theorem evalEscalation_still (l : LoopId) (s : State) :
    (evalEscalation l s).channels = s.channels ∧ (evalEscalation l s).trays = s.trays ∧ (evalEscalation l s).run = s.run := by
  unfold evalEscalation
  dsimp only
  repeat' split
  all_goals simp

theorem evalEscalation_alarmOf (l m : LoopId) (s : State) : alarmOf (evalEscalation l s) m = alarmOf s m := by
  funext c
  simp only [alarmOf, (evalEscalation_still l s).1]

/-- The evaluation gives the loop the flag its alarms call for (R134). -/
theorem evalEscalation_law (l : LoopId) (s : State) (h : EscalationLawBut l s) : EscalationLaw (evalEscalation l s) := by
  intro m
  have halarms : alarmsIn (evalEscalation l s) m = alarmsIn s m := by
    rw [alarmsIn_eq, evalEscalation_alarmOf, ← alarmsIn_eq]
  rw [evalEscalation_loop, halarms]
  split
  · rfl
  · next hne => exact h m (Ne.symm hne)

theorem evalEscalation_drives (l : LoopId) (s : State) (h : ∀ m : LoopId, driveLaw s.loops[m]) (m : LoopId) :
    driveLaw (evalEscalation l s).loops[m] := by
  rw [evalEscalation_loop]
  split
  · exact h m
  · exact h m

theorem evalEscalation_drive (l m : LoopId) (s : State) : (evalEscalation l s).loops[m].drive = s.loops[m].drive := by
  rw [evalEscalation_loop]
  split <;> rfl

theorem evalEscalation_rackLaw (l : LoopId) (s : State) (h : RackLaw s) : RackLaw (evalEscalation l s) :=
  (evalEscalation_move l s).rackLaw h

/-- A channel's record changes within its loop: the alarms of every other loop stay. -/
theorem putChannel_alarmsIn (c : ChannelId) (x : Channel) (s : State) (hx : x.cfg.loop = s.channels[c].cfg.loop) (l : LoopId)
    (hl : l ≠ s.channels[c].cfg.loop) : alarmsIn (putChannel c x s) l = alarmsIn s l := by
  have hof : alarmOf (putChannel c x s) l = alarmOf s l := by
    funext d
    simp only [alarmOf, putChannel_get]
    split
    · next e =>
      subst e
      have hne : (s.channels[c].cfg.loop == l) = false := beq_eq_false_iff_ne.mpr (Ne.symm hl)
      rw [hx, hne, Bool.and_false, Bool.and_false]
    · rfl
  rw [alarmsIn_eq, hof, alarmsIn_eq]

theorem putChannel_escalationLawBut (c : ChannelId) (x : Channel) (s : State) (hx : x.cfg.loop = s.channels[c].cfg.loop)
    (h : EscalationLaw s) : EscalationLawBut s.channels[c].cfg.loop (putChannel c x s) := fun l hl => by
  rw [putChannel_alarmsIn c x s hx l hl]
  exact h l

theorem putChannel_disabledLaw (c : ChannelId) (x : Channel) (s : State) (hx : x.state = .disabled ↔ x.cfg.enabled = false)
    (h : DisabledLaw s) : DisabledLaw (putChannel c x s) := fun d => by
  rw [putChannel_get]
  split
  · exact hx
  · exact h d

/-- After the record of a channel has changed within its loop, and the loop's escalation and the lockouts have been
evaluated, the leak law holds. -/
theorem reevaluated_leakLaw (c : ChannelId) (x : Channel) (s : State) (hx : x.cfg.loop = s.channels[c].cfg.loop)
    (hd : x.state = .disabled ↔ x.cfg.enabled = false) (hs : LeakLaw s) {u : State}
    (hu : u.channels = (putChannel c x s).channels ∧ u.loops = (putChannel c x s).loops) :
    LeakLaw (leakRecompute (evalEscalation s.channels[c].cfg.loop u)) := by
  obtain ⟨hesc, hdis, -⟩ := hs
  have halike : LeakAlike (putChannel c x s) u := (LeakStill.of_eq hu.1 hu.2).alike
  refine leakRecompute_leakLaw _ (evalEscalation_law _ u fun m hm => ?_) fun d => ?_
  · rw [halike.escalated, halike.alarmsIn]
    exact putChannel_escalationLawBut c x s hx hesc m hm
  · rw [(evalEscalation_still _ u).1]
    exact halike.disabledLaw (putChannel_disabledLaw c x s hd hdis) d

/-- An alarm closes no valve but its loop's: a valve is required closed after it only if it was before, or the channel
closes its loop's valve, or the loop is escalated now (R133, R139). -/
theorem requiredClosed_of_alarm {c : ChannelId} {s t : State} {l : LoopId}
    (hchannels : ∀ d : ChannelId, d ≠ c → t.channels[d] = s.channels[d])
    (hescalated : t.loops[l].escalated = true → s.loops[l].escalated = true ∨ l = t.channels[c].cfg.loop)
    (h : requiredClosed t l = true) :
    requiredClosed s l = true ∨
      (l = t.channels[c].cfg.loop ∧ (t.channels[c].cfg.closeValve = true ∨ t.loops[l].escalated = true)) := by
  rw [requiredClosed_iff] at h ⊢
  rcases h with he | ⟨d, hd, hv⟩
  · rcases hescalated he with hs | hl
    · exact Or.inl (Or.inl hs)
    · exact Or.inr ⟨hl, Or.inr he⟩
  · by_cases hdc : d = c
    · subst hdc
      simp only [alarmOf, Bool.and_eq_true, beq_iff_eq] at hd
      exact Or.inr ⟨hd.2.symm, Or.inl hv⟩
    · rw [alarmOf, hchannels d hdc] at hd
      rw [hchannels d hdc] at hv
      exact Or.inl (Or.inr ⟨d, hd, hv⟩)

/-! ### Samples -/

theorem updateRuns_keeps (k : SampleClass) (x : Channel) : (updateRuns k x).cfg = x.cfg ∧ (updateRuns k x).state = x.state := by
  cases k <;> exact ⟨rfl, rfl⟩

theorem evalChannel_cfg (k : SampleClass) (x : Channel) : (evalChannel k x).cfg = x.cfg := by
  unfold evalChannel
  split <;> try rfl
  split <;> rfl

theorem wetState_ne (x : Channel) : wetState x ≠ .disabled := by
  unfold wetState
  split <;> decide

theorem evalChannel_disabled (k : SampleClass) (x : Channel) : (evalChannel k x).state = .disabled ↔ x.state = .disabled := by
  have hwet := wetState_ne x
  cases hs : x.state <;> cases k <;> simp only [evalChannel, hs, faultState, reduceCtorEq, iff_false, hwet]
  all_goals split
  all_goals simp [hs]

/-- A channel leaves ALARM by no sample (R132). -/
theorem evalChannel_alarm (k : SampleClass) (x : Channel) (h : x.state = .alarm) : (evalChannel k x).state = .alarm := by
  cases k <;> simp only [evalChannel, h]
  all_goals split
  all_goals first | exact h | rfl

theorem sampleChannel_cfg (r : CableReading) (x : Channel) : (sampleChannel r x).cfg = x.cfg := by
  rw [sampleChannel, evalChannel_cfg, (updateRuns_keeps _ x).1]

theorem sampleChannel_disabled (r : CableReading) (x : Channel) :
    (sampleChannel r x).state = .disabled ↔ x.state = .disabled := by
  rw [sampleChannel, evalChannel_disabled, (updateRuns_keeps _ x).2]

theorem sampleChannel_alarm (r : CableReading) (x : Channel) (h : x.state = .alarm) : (sampleChannel r x).state = .alarm :=
  evalChannel_alarm _ _ ((updateRuns_keeps _ x).2.trans h)

/-- A channel whose record stays alike keeps the laws. -/
theorem putChannel_alike_leakLaws {c : ChannelId} {x : Channel} {s : State} (h : ChannelAlike s.channels[c] x)
    (hs : LeakLaws s) : LeakLaws (putChannel c x s) := by
  obtain ⟨hrack, hleak, hvalve⟩ := hs
  obtain ⟨hdrive, hclosed⟩ := (valveLaw_iff s).mp hvalve
  have halike : LeakAlike s (putChannel c x s) := ⟨fun d => by
    rw [putChannel_get]
    split
    · next e => subst e; exact h
    · exact .refl _, fun _ => rfl⟩
  exact ⟨rackLaw_congr rfl rfl hrack, halike.leakLaw (fun _ => rfl) hleak,
    (valveLaw_iff _).mpr ⟨hdrive, halike.closedLaw (fun _ => rfl) hclosed⟩⟩

/-- The part after a channel's record has become `x` within its loop, and the loop's escalation and the lockouts have been
evaluated (R133, R136). -/
structure Reevaluated (c : ChannelId) (x : Channel) (s v : State) : Prop where
  rack : RackLaw v
  leak : LeakLaw v
  channels : ∀ d : ChannelId, v.channels[d] = if c = d then x else s.channels[d]
  drives : ∀ m : LoopId, driveLaw v.loops[m]
  drive : ∀ m : LoopId, v.loops[m].drive = s.loops[m].drive
  escalated : ∀ m : LoopId, m ≠ s.channels[c].cfg.loop → v.loops[m].escalated = s.loops[m].escalated

theorem reevaluated (c : ChannelId) (x : Channel) (s u : State) (hs : LeakLaws s)
    (hloop : x.cfg.loop = s.channels[c].cfg.loop) (hd : x.state = .disabled ↔ x.cfg.enabled = false) (hr : RackLaw u)
    (hchannels : u.channels = (putChannel c x s).channels) (hloops : u.loops = s.loops) :
    Reevaluated c x s (leakRecompute (evalEscalation s.channels[c].cfg.loop u)) := by
  obtain ⟨-, hleak, hvalve⟩ := hs
  have hleak' := reevaluated_leakLaw c x s hloop hd hleak (u := u) ⟨hchannels, hloops⟩
  have hrack := (leakRecompute_move _).rackLaw (evalEscalation_rackLaw s.channels[c].cfg.loop u hr)
  have hc := (leakRecompute_side (evalEscalation s.channels[c].cfg.loop u)).channels
  have hl := (leakRecompute_side (evalEscalation s.channels[c].cfg.loop u)).loops
  generalize leakRecompute (evalEscalation s.channels[c].cfg.loop u) = v at hleak' hrack hc hl ⊢
  have hul : ∀ m : LoopId, u.loops[m] = s.loops[m] := fun m => by rw [hloops]
  refine ⟨hrack, hleak', fun d => ?_, fun m => ?_, fun m => ?_, fun m hm => ?_⟩
  · rw [hc, (evalEscalation_still _ u).1, hchannels, putChannel_get]
  · rw [hl]
    exact evalEscalation_drives _ u (fun k => by rw [hul]; exact ((valveLaw_iff s).mp hvalve).1 k) m
  · rw [hl, evalEscalation_drive, hul]
  · rw [hl, evalEscalation_loop, if_neg (Ne.symm hm), hul]

/-- What an entry to ALARM does under the channel's configuration (R133). -/
theorem raiseAlarm_eq (c : ChannelId) (k : ChannelConfig) (s v : State) (hk : s.channels[c].cfg = k)
    (hv : v = leakRecompute (evalEscalation k.loop (post .leakAlarm (some c.val) (some k.loop.val) s))) :
    raiseAlarm c s = if k.closeValve || v.loops[k.loop].escalated then closeCommand k.loop v else v := by
  rw [hv, ← hk]
  rfl

/-- What an entry to ALARM leads to keeps the laws (R133). -/
theorem raiseAlarm_leakLaws {c : ChannelId} {x : Channel} {s : State} (hs : LeakLaws s) (hcfg : x.cfg = s.channels[c].cfg)
    (hx : x.state = .alarm) (hen : x.cfg.enabled = true) : LeakLaws (raiseAlarm c (putChannel c x s)) := by
  have hself : (putChannel c x s).channels[c].cfg = s.channels[c].cfg := by rw [putChannel_get, if_pos rfl, hcfg]
  have hv := reevaluated c x s (post .leakAlarm (some c.val) (some s.channels[c].cfg.loop.val) (putChannel c x s)) hs
    (by rw [hcfg]) (by rw [hx, hen]; decide) ((CoreMove.note (q := .all) _ _ _ _).rackLaw (rackLaw_congr rfl rfl hs.1))
    (post_channels _ _ _ _) (post_loops _ _ _ _)
  rw [raiseAlarm_eq c _ _ _ hself rfl]
  generalize leakRecompute (evalEscalation s.channels[c].cfg.loop
    (post .leakAlarm (some c.val) (some s.channels[c].cfg.loop.val) (putChannel c x s))) = v at hv ⊢
  have hclosed := ((valveLaw_iff s).mp hs.2.2).2
  have hselfv : v.channels[c] = x := by rw [hv.channels, if_pos rfl]
  have hothers : ∀ d : ChannelId, d ≠ c → v.channels[d] = s.channels[d] := fun d hd => by
    rw [hv.channels, if_neg (Ne.symm hd)]
  have hloopv : v.channels[c].cfg.loop = s.channels[c].cfg.loop := by rw [hselfv, hcfg]
  have hreq : ∀ m : LoopId, requiredClosed v m = true → v.loops[m].drive = true ∨
      (m = s.channels[c].cfg.loop ∧ (s.channels[c].cfg.closeValve = true ∨ v.loops[m].escalated = true)) := fun m hm => by
    have hcases := requiredClosed_of_alarm (s := s) (l := m) hothers (fun he => ?_) hm
    · rw [hloopv, hselfv, hcfg, hv.drive] at *
      exact hcases.imp (hclosed m) id
    · by_cases hml : m = s.channels[c].cfg.loop
      · exact Or.inr (hml.trans hloopv.symm)
      · exact Or.inl (hv.escalated m hml ▸ he)
  have hbut : LeakLawsBut s.channels[c].cfg.loop v :=
    ⟨hv.rack, hv.leak, hv.drives, fun m hm hr => (hreq m hr).elim id fun h => absurd h.1 hm⟩
  split
  · exact hbut.closeCommand
  · next hno =>
    refine hbut.all fun hr => (hreq _ hr).elim id fun h => absurd ?_ hno
    rcases h.2 with h | h <;> simp only [h, Bool.true_or, Bool.or_true]

theorem takeSample_leakLaws (readings : Vector CableReading 12) (c : ChannelId) {s : State} (hs : LeakLaws s) :
    LeakLaws (takeSample readings c s) := by
  unfold takeSample
  dsimp only
  split
  · next hen =>
    refine (CoreMove.block (quiet := .all) (autoStartTest_move _)).leakLaws trivial ?_
    have hcfg := sampleChannel_cfg readings[c] s.channels[c]
    have hdis := sampleChannel_disabled readings[c] s.channels[c]
    have halarm := sampleChannel_alarm readings[c] s.channels[c]
    generalize sampleChannel readings[c] s.channels[c] = x at hcfg hdis halarm ⊢
    unfold afterSample
    split
    · next hnew => exact raiseAlarm_leakLaws hs hcfg hnew.1 (hcfg ▸ hen)
    · next hnew =>
      have halike : ChannelAlike s.channels[c] x :=
        ⟨hcfg, ⟨fun h => Decidable.not_not.mp fun hne => hnew ⟨h, hne⟩, halarm⟩, hdis⟩
      have h1 := putChannel_alike_leakLaws halike hs
      split
      · exact post_leakLaws _ _ _ h1
      · split
        · exact post_leakLaws _ _ _ h1
        · exact h1
  · exact hs

/-- A scan pass before its first sample: the staged interval is in force and the next pass is due (R129). -/
def scanDue (s : State) : State :=
  { s with params := { s.params with scanInterval := s.stagedScan.getD s.params.scanInterval }, stagedScan := none,
           nextScan := s.time + s.stagedScan.getD s.params.scanInterval }

theorem scan_eq (readings : Vector CableReading 12) (s : State) :
    scan readings s = allChannels.foldl (fun s c => takeSample readings c s) (scanDue s) := rfl

theorem scanDue_move (s : State) : CoreMove .all s (scanDue s) :=
  .still (.of_eq rfl rfl ⟨rfl, rfl⟩ id id rfl) (fun _ => .of_eq rfl rfl) fun _ => .refl _

theorem scan_leakLaws (readings : Vector CableReading 12) {s : State} (hs : LeakLaws s) : LeakLaws (scan readings s) := by
  have hdue := (scanDue_move s).leakLaws trivial hs
  rw [scan_eq]
  generalize scanDue s = u at hdue ⊢
  induction allChannels generalizing u with
  | nil => exact hdue
  | cons c l ih => exact ih _ (takeSample_leakLaws readings c hdue)

/-! ### Requests to the leak monitor -/

theorem releaseChannel_eq (c : ChannelId) (s : State) :
    releaseChannel c s = post .leakReleased (some c.val) (some s.channels[c].cfg.loop.val)
      (leakRecompute (evalEscalation s.channels[c].cfg.loop
        (putChannel c { s.channels[c] with state := .dry, cableFlag := false } s))) := rfl

/-- A release takes an alarm away, so it requires no valve closed that was not before (R136, R139). -/
theorem requiredClosed_of_release {c : ChannelId} {x : Channel} {s v : State} (h : Reevaluated c x s v) (hx : x.state ≠ .alarm)
    (hs : EscalationLaw s) {m : LoopId} (hm : requiredClosed v m = true) : requiredClosed s m = true := by
  have halarm : ∀ l d, alarmOf v l d = true → alarmOf s l d = true ∧ v.channels[d] = s.channels[d] := fun l d hd => by
    simp only [alarmOf, h.channels d] at hd ⊢
    split at hd
    · simp [hx] at hd
    · next hne => exact ⟨hd, if_neg hne⟩
  have hcount : alarmsIn v m ≤ alarmsIn s m := by
    rw [alarmsIn_eq, alarmsIn_eq, ← List.countP_eq_length_filter, ← List.countP_eq_length_filter]
    exact List.countP_mono_left fun d _ hd => (halarm m d hd).1
  rw [requiredClosed_iff] at hm ⊢
  refine hm.imp (fun he => ?_) fun ⟨d, hd, hv⟩ => ⟨d, (halarm m d hd).1, (halarm m d hd).2 ▸ hv⟩
  obtain ⟨hesc, -⟩ := h.leak
  rw [hesc, decide_eq_true_iff] at he
  rw [hs, decide_eq_true_iff]
  exact he.trans hcount

theorem releaseChannel_leakLaws {c : ChannelId} {s : State} (hs : LeakLaws s) (ha : s.channels[c].state = .alarm) :
    LeakLaws (releaseChannel c s) := by
  have hen : s.channels[c].cfg.enabled = true := by
    cases he : s.channels[c].cfg.enabled
    · cases ha.symm.trans ((hs.2.1.2.1 c).mpr he)
    · rfl
  have hv := reevaluated c { s.channels[c] with state := .dry, cableFlag := false } s
    (putChannel c { s.channels[c] with state := .dry, cableFlag := false } s) hs rfl
    (by simp only [hen]; decide) (rackLaw_congr rfl rfl hs.1) rfl rfl
  rw [releaseChannel_eq]
  refine post_leakLaws _ _ _ ?_
  generalize leakRecompute (evalEscalation s.channels[c].cfg.loop
    (putChannel c { s.channels[c] with state := .dry, cableFlag := false } s)) = v at hv ⊢
  refine ⟨hv.rack, hv.leak, (valveLaw_iff v).mpr ⟨hv.drives, fun m hm => ?_⟩⟩
  rw [hv.drive]
  exact ((valveLaw_iff s).mp hs.2.2).2 m (requiredClosed_of_release hv (fun h => by cases h) hs.2.1.1 hm)

/-- A new configuration of a channel that is not in ALARM changes no alarm (R137). -/
structure Configured (s t : State) : Prop where
  rack : RackLaw s → RackLaw t
  loops : t.loops = s.loops
  alarms : ∀ l c, alarmOf t l c = true ↔ alarmOf s l c = true
  same : ∀ l c, alarmOf s l c = true → t.channels[c] = s.channels[c]
  disabled : DisabledLaw s → DisabledLaw t

theorem Configured.refl (s : State) : Configured s s := ⟨id, rfl, fun _ _ => Iff.rfl, fun _ _ _ => rfl, id⟩

theorem Configured.trans {s t u : State} (h : Configured s t) (k : Configured t u) : Configured s u :=
  ⟨k.rack ∘ h.rack, k.loops.trans h.loops, fun l c => (k.alarms l c).trans (h.alarms l c),
    fun l c hc => (k.same l c ((h.alarms l c).mpr hc)).trans (h.same l c hc), k.disabled ∘ h.disabled⟩

theorem configureChannel_state (cfg : ChannelConfig) (x : Channel) :
    (configureChannel cfg x).state ≠ .alarm ∧
      ((configureChannel cfg x).state = .disabled ↔ (configureChannel cfg x).cfg.enabled = false) := by
  unfold configureChannel
  split
  · next h => exact ⟨by simp, by simp [h]⟩
  · next h => exact ⟨by simp, by simp [h]⟩

theorem applyChannelConfig_configured (c : ChannelId) (cfg : ChannelConfig) (s : State) (hc : s.channels[c].state ≠ .alarm) :
    Configured s (applyChannelConfig c cfg s) := by
  obtain ⟨halarm, hdis⟩ := configureChannel_state cfg s.channels[c]
  have hget : ∀ d : ChannelId, (applyChannelConfig c cfg s).channels[d] =
      if c = d then configureChannel cfg s.channels[c] else s.channels[d] := fun d => putChannel_get c d _ s
  refine ⟨fun h => rackLaw_congr rfl rfl h, rfl, fun l d => ?_, fun l d hd => ?_, fun h d => ?_⟩
  · simp only [alarmOf, hget]
    split
    · next e =>
      subst e
      simp [halarm, hc, -Fin.getElem_fin]
    · rfl
  · rw [hget]
    split
    · next e =>
      subst e
      simp [alarmOf, hc, -Fin.getElem_fin] at hd
    · rfl
  · rw [hget]
    split
    · exact hdis
    · exact h d

theorem Configured.leakLaws {s t : State} (h : Configured s t) (hs : LeakLaws s) : LeakLaws (leakRecompute t) := by
  obtain ⟨hrack, ⟨hesc, hdis, -⟩, hvalve⟩ := hs
  obtain ⟨hdrive, hclosed⟩ := (valveLaw_iff s).mp hvalve
  have hof : ∀ l, alarmOf t l = alarmOf s l := fun l => funext fun c => Bool.eq_iff_iff.mpr (h.alarms l c)
  have hget : ∀ l : LoopId, t.loops[l] = s.loops[l] := fun l => by rw [h.loops]
  have hescalated : EscalationLaw t := fun l => by rw [hget, alarmsIn_eq, hof, ← alarmsIn_eq, hesc l]
  have hvalve' : ValveLaw t := (valveLaw_iff t).mpr ⟨fun l => hget l ▸ hdrive l, fun l hl => by
    rw [hget]
    refine hclosed l ?_
    rw [requiredClosed_iff, hget] at hl
    rw [requiredClosed_iff]
    exact hl.imp id fun ⟨c, hc, hv⟩ => ⟨c, (h.alarms l c).mp hc, h.same l c ((h.alarms l c).mp hc) ▸ hv⟩⟩
  exact ⟨(leakRecompute_move t).rackLaw (h.rack hrack), leakRecompute_leakLaw t hescalated (h.disabled hdis),
    leakRecompute_valveLaw t hvalve'⟩

theorem Configured.noAlarm {s t : State} (h : Configured s t) (hs : ∀ c : ChannelId, s.channels[c].state ≠ .alarm)
    (c : ChannelId) : t.channels[c].state ≠ .alarm := fun ha => by
  have hof : alarmOf t t.channels[c].cfg.loop c = true := by simp only [alarmOf, ha, beq_self_eq_true, Bool.and_self]
  have hof' := (h.alarms _ c).mp hof
  simp only [alarmOf, Bool.and_eq_true, beq_iff_eq] at hof'
  exact hs c hof'.1

theorem configureAll_configured (w : WorkingConfig) (l : List ChannelId) (s : State)
    (hs : ∀ c : ChannelId, s.channels[c].state ≠ .alarm) :
    Configured s (l.foldl (fun s c => applyChannelConfig c (clampChannelConfig w.channels[c]) s) s) := by
  induction l generalizing s with
  | nil => exact .refl s
  | cons c l ih =>
    have h1 := applyChannelConfig_configured c (clampChannelConfig w.channels[c]) s (hs c)
    exact h1.trans (ih _ (h1.noAlarm hs))

/-- LOAD-PROFILE with no channel in ALARM (R178). -/
theorem loadConfig_leakLaws (w : WorkingConfig) {s : State} (hs : LeakLaws s)
    (hno : ∀ c : ChannelId, s.channels[c].state ≠ .alarm) : LeakLaws (loadConfig w s) := by
  have htrays : ∀ u, CoreMove .all u
      (allTrays.foldl (fun s i => applyTrayConfig i (clampTrayConfig (rawOfTrayConfig w.trays[i])) s) u) :=
    CoreMove.foldl _ (fun s i => applyTrayConfig_move i _ s) allTrays
  have hbbus : ∀ u, CoreMove .all u (allBbus.foldl (fun s b =>
      applyBbuConfig b (clamp 10000 4000000 w.bbus[b].eRated) (clamp 0 3000 w.bbus[b].maxCharge)
        (clamp 1000 4000000 w.bbus[b].eFull) s) u) :=
    CoreMove.foldl _ (fun s b => applyBbuConfig_move b _ _ _ s) allBbus
  have hparams : ∀ u, CoreMove .all u
      ((List.range 23).foldl (fun s k => applyParam k (paramClamp k (paramGet w.params k)) s) u) :=
    CoreMove.foldl _ (fun s k => applyParam_move k _ s) (List.range 23)
  have hfirst := (htrays s).trans (hbbus _)
  unfold loadConfig
  dsimp only
  generalize allBbus.foldl _ _ = u at hfirst ⊢
  have hnou : ∀ c : ChannelId, u.channels[c].state ≠ .alarm := fun c => by
    rw [(hfirst.leakStill trivial).channels]
    exact hno c
  have hmid := (configureAll_configured w allChannels u hnou).leakLaws (hfirst.leakLaws trivial hs)
  generalize leakRecompute _ = v at hmid ⊢
  exact (CoreMove.block (quiet := .all) (autoStartTest_move _)).leakLaws trivial ((hparams v).leakLaws trivial hmid)

theorem alarmCount_zero {s : State} (h : alarmCount s = 0) (c : ChannelId) : s.channels[c].state ≠ .alarm := fun ha => by
  have hmem : c ∈ allChannels.filter fun c => s.channels[c].state == .alarm :=
    List.mem_filter.mpr ⟨mem_allChannels c, by simp only [ha, beq_self_eq_true]⟩
  have hpos := List.length_pos_of_mem hmem
  simp only [alarmCount] at h
  omega

/-- A request that is refused when `p` holds, and otherwise keeps the laws. -/
theorem leakLaws_unless {p : Prop} [Decidable p] {s : State} {code : RefusalCode} {x : Answer × State} (hs : LeakLaws s)
    (h : ¬ p → LeakLaws x.2) : LeakLaws (if p then refuse code s else x).2 := by
  split
  · exact hs
  · next hp => exact h hp

theorem ack_leakLaws {s : State} (h : LeakLaws s) : LeakLaws (ack s).2 := h

theorem autoStartTest_leakLaws {s : State} (h : LeakLaws s) : LeakLaws (autoStartTest s) :=
  (CoreMove.block (quiet := .all) (autoStartTest_move s)).leakLaws trivial h

theorem answer_part (a : Answer) (s : State) : (a, s).2 = s := rfl

/-- What SET-LEAK-CHANNEL does: nothing, or a channel that is not in ALARM takes a configuration (R137). -/
theorem answerSetLeakChannel_cases (r : RawChannelConfig) (s : State) :
    (answerSetLeakChannel r s).2 = s ∨ ∃ c cfg, s.channels[c].state ≠ .alarm ∧
      (answerSetLeakChannel r s).2 = autoStartTest (leakRecompute (applyChannelConfig c cfg s)) := by
  unfold answerSetLeakChannel
  split
  · exact Or.inl rfl
  · split
    · split
      · exact Or.inl rfl
      · split
        · exact Or.inl rfl
        · split
          · exact Or.inl rfl
          · next ha => exact Or.inr ⟨_, _, ha, answer_part _ _⟩
    · exact Or.inl rfl

theorem answerSetLeakChannel_leakLaws (r : RawChannelConfig) {s : State} (hs : LeakLaws s) :
    LeakLaws (answerSetLeakChannel r s).2 := by
  rcases answerSetLeakChannel_cases r s with h | ⟨c, cfg, ha, h⟩ <;> rw [h]
  · exact hs
  · exact autoStartTest_leakLaws ((applyChannelConfig_configured c cfg s ha).leakLaws hs)

theorem answerLeakRelease_leakLaws (channel : Nat) (armed : Option ArmTarget) {s : State} (hs : LeakLaws s) :
    LeakLaws (answerLeakRelease channel armed s).2 := by
  unfold answerLeakRelease onChannel
  split
  · refine leakLaws_unless hs fun _ => leakLaws_unless hs fun h => ?_
    exact ack_leakLaws (releaseChannel_leakLaws hs (Decidable.not_not.mp fun hne => h (Or.inl hne)))
  · exact hs

theorem answerValveOpen_leakLaws (loop : Nat) {s : State} (hs : LeakLaws s) : LeakLaws (answerValveOpen loop s).2 := by
  unfold answerValveOpen onLoop
  split
  · exact leakLaws_unless hs fun h => ack_leakLaws (openCommand_leakLaws _ hs (Bool.eq_false_iff.mpr h))
  · exact hs

theorem answerValveClose_leakLaws (loop : Nat) {s : State} (hs : LeakLaws s) : LeakLaws (answerValveClose loop s).2 := by
  unfold answerValveClose onLoop
  split
  · exact ack_leakLaws (leakLaws_but hs _).closeCommand
  · exact hs

theorem answerLoadProfile_leakLaws {s : State} (hs : LeakLaws s) : LeakLaws (answerLoadProfile s).2 := by
  unfold answerLoadProfile
  refine leakLaws_unless hs fun _ => leakLaws_unless hs fun _ => leakLaws_unless hs fun _ => leakLaws_unless hs fun h => ?_
  split
  · split
    · exact loadConfig_leakLaws _ hs (alarmCount_zero (Decidable.not_not.mp h))
    · exact hs
  · exact hs

theorem answerBody_leakLaws (b : RequestBody) (armed : Option ArmTarget) (s : State) (hb : b.ofLeaks = true) (hs : LeakLaws s) :
    LeakLaws (answerBody b armed s).2 := by
  cases b with
  | setLeakChannel cfg => exact answerSetLeakChannel_leakLaws cfg hs
  | leakRelease channel => exact answerLeakRelease_leakLaws channel armed hs
  | valveOpen loop => exact answerValveOpen_leakLaws loop hs
  | valveClose loop => exact answerValveClose_leakLaws loop hs
  | loadProfile => exact answerLoadProfile_leakLaws hs
  | _ => cases hb

/-! ### The cold reset -/

theorem coldValues_channel (s : State) (c : ChannelId) :
    (coldValues s).channels[c] = coldChannel (bootConfig s.store).channels[c] := by
  simp [coldValues, Fin.getElem_fin]

theorem coldValues_loop (s : State) (l : LoopId) :
    (coldValues s).loops[l] =
      coldLoop s.pins.openSwitch[l] s.pins.closedSwitch[l] (bootConfig s.store).params.valveTravel := by
  simp [coldValues, Fin.getElem_fin]

theorem coldChannel_state (k : ChannelConfig) :
    (coldChannel k).state ≠ .alarm ∧ ((coldChannel k).state = .disabled ↔ (coldChannel k).cfg.enabled = false) := by
  cases h : k.enabled <;> simp [coldChannel, h]

theorem coldLoop_law (o c : Bool) (n : Nat) :
    driveLaw (coldLoop o c n) ∧ (coldLoop o c n).escalated = false := by
  cases o <;> simp [coldLoop, driveLaw]

/-- After a cold reset nothing is in ALARM, nothing is escalated, no drive is asserted and no tray is locked out (R28,
R145). -/
theorem coldValues_leakLaws (s : State) : LeakLaws (coldValues s) := by
  have hrack := coldValues_rackLaw s
  have hchannel := coldValues_channel s
  have hloop := coldValues_loop s
  have htray := coldValues_trays s
  generalize coldValues s = t at hrack hchannel hloop htray ⊢
  have hno : ∀ l c, alarmOf t l c = false := fun l c => by
    simp only [alarmOf, hchannel, beq_eq_false_iff_ne.mpr (coldChannel_state _).1, Bool.false_and]
  have hesc : ∀ l : LoopId, t.loops[l].escalated = false := fun l => by rw [hloop, (coldLoop_law _ _ _).2]
  have hreq : ∀ l, requiredClosed t l ≠ true := fun l h => by
    rw [requiredClosed_iff, hesc] at h
    rcases h with h | ⟨c, h, -⟩
    · cases h
    · exact Bool.false_ne_true ((hno l c).symm.trans h)
  refine ⟨hrack, ⟨fun l => ?_, fun c => ?_, fun i => ?_⟩,
    (valveLaw_iff t).mpr ⟨fun l => hloop l ▸ (coldLoop_law _ _ _).1, fun l h => absurd h (hreq l)⟩⟩
  · have hempty : allChannels.filter (alarmOf t l) = [] := List.filter_eq_nil_iff.mpr fun c _ => by simp [hno l c]
    rw [hesc, alarmsIn_eq, hempty]
    rfl
  · rw [hchannel]
    exact (coldChannel_state _).2
  · rw [htray, Bool.eq_iff_iff, mustLeak_iff]
    refine ⟨fun h => absurd h (by simp [coldTray, noLockouts]), fun ⟨c, _, h⟩ => ?_⟩
    rcases h with ⟨h, -⟩ | ⟨-, h⟩
    · rw [hchannel] at h
      exact absurd h (coldChannel_state _).1
    · exact absurd ((hesc _).symm.trans h) Bool.false_ne_true

/-! ### The statement -/

theorem leakLaws_kept : KeptThroughout LeakLaws where
  runDown := fun scope s hs => (answerRunDown_move scope s hs.1).leakLaws trivial hs
  core := fun _ _ hm hs => hm.leakLaws trivial hs
  link := fun k s _ hs => (setLink_move k s).leakLaws trivial hs
  leaks := answerBody_leakLaws
  scan := fun readings _ hs => scan_leakLaws readings hs
  switchEdge := fun l sw made _ hs => switchEdge_leakLaws l sw made hs
  travel := fun l _ hs => travelExpires_leakLaws l hs
  normal := fun _ _ hm hs => hm.leakLaws hs
  recompute := leakRecompute_leakLaws
  cold := fun s _ => coldValues_leakLaws s

/-- Settles O58: the laws of the leak monitor are among what every command keeps. -/
theorem everyStepKeepsTheLeakLaws : Obligations.EveryStepKeepsTheLeakLaws := by
  intro s t hs hstep
  obtain ⟨-, -, -, htray, horder, -, -, hvalve, hleak, -⟩ := hs
  have hpending : ∀ u q, LeakLaws u → LeakLaws { u with pending := q } :=
    fun u q hu => ⟨rackLaw_congr rfl rfl hu.1, hu.2.1, hu.2.2⟩
  exact (leakLaws_kept.step hpending s t hstep ⟨⟨htray, horder⟩, hleak, hvalve⟩).2

end Sys2Proof.Machine
end

section
/-! PROOFS. Every step keeps the laws of notices, link, bus, shelf and test, lets no tray enter INRUSH but in NORMAL, and lets
the shed stage not fall while an input loss is ridden through (R7, R30, R35, R92, R97, R147, R163, R167, R170). -/
namespace Sys2Proof.Machine

/-! ### The laws of the records -/

/-- The laws of notices, link, bus, shelf and test, with those of the rack. -/
structure RecordLaws (s : State) : Prop where
  rack : RackLaw s
  notices : NoticeLaw s
  link : LinkLaw s
  bus : BusLaw s
  power : ShelfLaw s ∧ TestLaw s

theorem CoreMove.recordLaws {q : Quiet} {s t : State} (h : CoreMove q s t) (hq : q.link) (hs : RecordLaws s) :
    RecordLaws t :=
  ⟨h.rackLaw hs.rack, h.noticeLaw hs.notices, (h.link hq).toLinkLoose.linkLaw hs.link, h.busLaw hs.bus, h.power.law hs.power⟩

theorem EntersNormal.recordLaws {s t : State} (h : EntersNormal s t) (hs : RecordLaws s) : RecordLaws t :=
  ⟨h.rackLaw hs.rack, h.noticeLaw hs.notices, LinkLoose.linkLaw (by rw [h.side.hli]; exact (LinkStill.refl _).toLinkLoose) hs.link,
    busLaw_congr h.side.mbc hs.bus, h.law hs.power⟩

theorem coldValues_records (s : State) :
    (coldValues s).notices = { records := [], lost := 0 } ∧
      (coldValues s).hli = freshHostLink s.pins.addr s.pins.rate (bootConfig s.store).params.hostSilence ∧
      (coldValues s).mbc.driver = false ∧ (coldValues s).mbc.framer = .hunt ∧ (coldValues s).ilc = coldInputLoss ∧
      (coldValues s).test = coldTest (bootConfig s.store).params.testPower := by
  unfold coldValues
  exact ⟨rfl, rfl, rfl, rfl, rfl, rfl⟩

theorem coldValues_recordLaws (s : State) : RecordLaws (coldValues s) := by
  have hrack := coldValues_rackLaw s
  obtain ⟨hnotices, hhli, hdriver, hframer, hilc, htest⟩ := coldValues_records s
  generalize coldValues s = t at hrack hnotices hhli hdriver hframer hilc htest ⊢
  refine ⟨hrack, ?_, ?_, ⟨hdriver, fun _ => hframer⟩, ?_, ?_⟩
  · simp [NoticeLaw, hnotices]
  · simp [LinkLaw, hhli, freshHostLink]
  · simp [ShelfLaw, hilc, coldInputLoss, expectedIfail]
  · simp [TestLaw, State.testActive, htest, coldTest]

theorem recordLaws_kept : KeptThroughout RecordLaws where
  runDown := fun scope s hs => (answerRunDown_move scope s hs.rack).recordLaws trivial hs
  core := fun _ _ hm hs => hm.recordLaws trivial hs
  link := fun _ _ hk hs => ⟨rackLaw_congr rfl rfl hs.rack, hs.notices, hk hs.link, hs.bus, hs.power⟩
  leaks := fun b armed s hb hs => (answerBody_leaks_move b armed s hb).recordLaws trivial hs
  scan := fun readings s hs => (scan_move readings s).recordLaws trivial hs
  switchEdge := fun l sw made s hs => (switchEdge_move l sw made s).recordLaws trivial hs
  travel := fun l s hs => (travelExpires_move l s).recordLaws trivial hs
  normal := fun _ _ hm hs => hm.recordLaws hs
  recompute := fun s hs => (leakRecompute_move s).recordLaws trivial hs
  cold := fun s _ => coldValues_recordLaws s

theorem recordLaws_pending (u : State) (q : List Instr) (h : RecordLaws u) : RecordLaws { u with pending := q } :=
  ⟨rackLaw_congr rfl rfl h.rack, h.notices, h.link, h.bus, h.power⟩

/-! ### INRUSH and the stage -/

/-- A tray enters INRUSH only with the shelf in NORMAL before or after, and the stage does not fall while an input loss is
ridden through (R7, R97). -/
structure ShelfBound (s t : State) : Prop where
  stage : riding s.ilc.state → riding t.ilc.state → s.ilc.stage ≤ t.ilc.stage
  inrush : ∀ i : TrayId, s.trays[i].state ≠ .inrush → t.trays[i].state = .inrush →
    s.ilc.state = .normal ∨ t.ilc.state = .normal

theorem CoreMove.bound {q : Quiet} {s t : State} (h : CoreMove q s t) : ShelfBound s t :=
  ⟨fun hr _ => (h.power.stage hr).2, fun i hn hi => (h.inrush i hi).elim (fun hs => absurd hs hn) Or.inl⟩

/-- A part in NORMAL meets the bound, wherever it comes from. -/
theorem ShelfBound.of_normal {s t : State} (h : t.ilc.state = .normal) : ShelfBound s t :=
  ⟨fun _ hr => absurd (h ▸ hr) (by simp [riding]), fun _ _ _ => Or.inr h⟩

/-- The bound looks at the trays and at the shelf of the part before. -/
theorem ShelfBound.of_eq {s u t : State} (ht : u.trays = s.trays) (hi : u.ilc = s.ilc) (h : ShelfBound u t) : ShelfBound s t :=
  ⟨fun hs => hi ▸ h.stage (hi ▸ hs), fun i => ht ▸ hi ▸ h.inrush i⟩

/-- The part reached from `s` by any moves. -/
abbrev MovedFrom (s t : State) : Prop := RackLaw t ∧ CoreMove .none s t

theorem CoreMove.forget {q : Quiet} {s t : State} (h : CoreMove q s t) : CoreMove .none s t := h.mono False.elim False.elim

theorem MovedFrom.step {q : Quiet} {s t u : State} (h : MovedFrom s t) (k : CoreMove q t u) : MovedFrom s u :=
  ⟨k.rackLaw h.1, h.2.trans k.forget⟩

/-- Every command but those that bring NORMAL or reset the part is made of moves. -/
theorem movedFrom_kept (s : State) : Kept (MovedFrom s) where
  runDown := fun scope t h => h.step (answerRunDown_move scope t h.1)
  core := fun _ _ hm h => h.step hm
  link := fun k t _ h => h.step (setLink_move k t)
  leaks := fun b armed t hb h => h.step (answerBody_leaks_move b armed t hb)
  scan := fun readings t h => h.step (scan_move readings t)
  switchEdge := fun l sw made t h => h.step (switchEdge_move l sw made t)
  travel := fun l t h => h.step (travelExpires_move l t)

theorem switchEdge_ilc (l : LoopId) (sw : EndSwitch) (made : Bool) (s : State) : (switchEdge l sw made s).ilc = s.ilc := by
  have hrec : (recordSwitch l sw made s).ilc = s.ilc := by cases sw <;> rfl
  unfold switchEdge valveReachesClosed valveReachesOpen
  dsimp only
  repeat' split
  all_goals simp only [post_ilc, putLoop_ilc, hrec]

theorem rereadValves_ilc (s : State) : (rereadValves s).ilc = s.ilc := by
  have hswitch : ∀ l sw recorded level u, (rereadSwitch l sw recorded level u).ilc = u.ilc := fun l sw recorded level u => by
    unfold rereadSwitch
    split
    · rfl
    · exact switchEdge_ilc l sw level u
  unfold rereadValves
  induction allLoops generalizing s with
  | nil => rfl
  | cons l ls ih => exact (ih _).trans ((hswitch _ _ _ _ _).trans (hswitch _ _ _ _ _))

theorem warmReset_bound (kind : ResetKind) (s : State) (hs : RackLaw s) : ShelfBound s (warmReset kind s) := by
  have hstart : MovedFrom s (warmStart kind s) := by
    rw [warmStart_eq]
    exact ((MovedFrom.step ⟨hs, .refl s⟩ (warmRecords_move kind s)).step (setLink_move _ _)).step (warmOnward_move _)
  have hhead := hstart.step (warmRereads_move _)
  rw [warmReset_eq]
  generalize warmRereads (warmStart kind s) = u at hhead ⊢
  rcases rereadIfail_cases u with hi | hi
  · refine .of_normal ?_
    rw [(leakRecompute_side _).ilc, rereadValves_ilc]
    exact hi.normal
  · have hvalves := (movedFrom_kept s).rereadValves _ (hhead.step (.block (quiet := .all) hi))
    exact (hvalves.step (leakRecompute_move _)).2.bound

/-- PG of trays that are all OFF posts notices and does nothing else (R9, R28). -/
theorem coldPg_records (s : State) (h : ∀ i : TrayId, s.trays[i].state = .off) :
    (coldPg s).trays = s.trays ∧ (coldPg s).ilc = s.ilc := by
  unfold coldPg
  induction allTrays generalizing s with
  | nil => exact ⟨rfl, rfl⟩
  | cons i l ih =>
    have hone : ∀ u, u = (if s.pins.pg[i] then trayPgRise i s else s) → u.trays = s.trays ∧ u.ilc = s.ilc := by
      rintro u rfl
      unfold trayPgRise
      dsimp only
      rw [h i]
      split
      · exact ⟨post_trays _ _ _ _, post_ilc _ _ _ _⟩
      · exact ⟨rfl, rfl⟩
    obtain ⟨htrays, hilc⟩ := hone _ rfl
    obtain ⟨hrest, hrestIlc⟩ := ih _ (fun j => by rw [htrays]; exact h j)
    exact ⟨hrest.trans htrays, hrestIlc.trans hilc⟩

theorem startCycle_records (s : State) : (startCycle s).trays = s.trays ∧ (startCycle s).ilc = s.ilc := by
  unfold startCycle
  dsimp only
  rw [nextPoll_eq]
  exact ⟨rfl, rfl⟩

/-- A cold start leaves the shelf in NORMAL, or in SAG-QUALIFY with no tray in INRUSH (R28, R106). -/
theorem coldBoot_shelf (s : State) :
    (coldBoot s).ilc.state = .normal ∨
      (coldBoot s).ilc.state = .sagQualify ∧ ∀ i : TrayId, (coldBoot s).trays[i].state ≠ .inrush := by
  have hoff : ∀ i : TrayId, (coldValues s).trays[i].state = .off := fun i => by rw [coldValues_trays]; rfl
  have hilc : (coldValues s).ilc.state = .normal := by rw [(coldValues_records s).2.2.2.2.1]; rfl
  unfold coldBoot
  generalize coldValues s = u at hoff hilc ⊢
  dsimp only
  have hposts : ∀ v, v = (if (post .reset none (some (resetKindCode .cold)) u).store.valid then
      post .reset none (some (resetKindCode .cold)) u
      else post .profileInvalid none none (post .reset none (some (resetKindCode .cold)) u)) →
      v.trays = u.trays ∧ v.ilc = u.ilc := by
    rintro v rfl
    split
    · exact ⟨post_trays _ _ _ _, post_ilc _ _ _ _⟩
    · exact ⟨(post_trays _ _ _ _).trans (post_trays _ _ _ _), (post_ilc _ _ _ _).trans (post_ilc _ _ _ _)⟩
  obtain ⟨hpostTrays, hpostIlc⟩ := hposts _ rfl
  generalize (if (post .reset none (some (resetKindCode .cold)) u).store.valid then
      post .reset none (some (resetKindCode .cold)) u
      else post .profileInvalid none none (post .reset none (some (resetKindCode .cold)) u)) = v at hpostTrays hpostIlc ⊢
  obtain ⟨hpgTrays, hpgIlc⟩ := coldPg_records v (fun i => by rw [hpostTrays]; exact hoff i)
  obtain ⟨hcycleTrays, hcycleIlc⟩ := startCycle_records (coldPg v)
  have htrays : (startCycle (coldPg v)).trays = u.trays := hcycleTrays.trans (hpgTrays.trans hpostTrays)
  have hstate : (startCycle (coldPg v)).ilc.state = .normal := by rw [hcycleIlc, hpgIlc, hpostIlc, hilc]
  generalize startCycle (coldPg v) = w at htrays hstate ⊢
  split
  · refine Or.inr ?_
    simp only [ifailAsserted, hstate]
    unfold enterSagQualify
    refine ⟨by rw [setShelf_ilc], fun i hi => ?_⟩
    have hmove := (setShelf_rackMove .sagQualify
      { w with ilc := { w.ilc with ifail := true, sagStart := some w.time, qualify := some w.params.qualifyTime } }).inrush i hi
    rcases hmove with hin | hn
    · have : u.trays[i].state = .inrush := by rw [← htrays]; exact hin
      rw [hoff i] at this
      cases this
    · cases hn
  · exact Or.inl hstate

theorem coldBoot_bound (s t : State) : ShelfBound s (coldBoot t) := by
  rcases coldBoot_shelf t with h | ⟨hsag, hinrush⟩
  · exact .of_normal h
  · exact ⟨fun _ hr => absurd (hsag ▸ hr) (by simp [riding]), fun i _ hi => absurd hi (hinrush i)⟩

theorem resetAsserted_bound (keep : Bool) (s : State) (hs : RackLaw s) : ShelfBound s (resetAsserted keep s) := by
  have hpins : MovedFrom s { s with pins := { s.pins with keep := keep } } := MovedFrom.step ⟨hs, .refl s⟩ (pins_move _ s)
  rw [resetAsserted_eq keep s _ rfl]
  generalize ({ s with pins := { s.pins with keep := keep } } : State) = u at hpins ⊢
  split
  · exact ((hpins.step (setLink_move _ _)).step (heldStore_move _ _ _)).2.bound
  · refine .of_normal ?_
    rw [show ({ coldValues u with held := some .cold } : State).ilc = (coldValues u).ilc from rfl,
      (coldValues_records u).2.2.2.2.1]
    rfl

theorem resetReleased_bound (s : State) (hs : RackLaw s) : ShelfBound s (resetReleased s) := by
  unfold Machine.resetReleased
  split
  · exact (CoreMove.refl (quiet := .all) s).bound
  · exact coldBoot_bound s s
  · exact .of_eq (u := { s with held := none }) rfl rfl (warmReset_bound _ { s with held := none } (rackLaw_congr rfl rfl hs))

theorem awake_bound (f : State → State) {s t : State} (h : ShelfBound s (f s)) (he : awake f s = .next t) :
    ShelfBound s t := by
  injection he with he
  rw [← he]
  split
  · exact (CoreMove.refl (quiet := .all) s).bound
  · exact h

theorem ifailReleased_bound (s : State) : ShelfBound s (ifailReleased s) := by
  rcases ifailReleased_cases s with ⟨-, hi⟩ | hi
  · exact .of_normal hi.normal
  · exact (CoreMove.block (quiet := .all) hi).bound

theorem exec_bound (c : Instr) (s t : State) (he : exec c s = .next t) (hs : RackLaw s) : ShelfBound s t := by
  cases hc : bringsNormal c with
  | false => exact ((movedFrom_kept s).exec c s t hc he ⟨hs, .refl s⟩).2.bound
  | true =>
    cases c with
    | ifailRelease =>
      exact .of_eq (u := setIfailPin false s) rfl rfl (awake_bound ifailReleased (ifailReleased_bound (setIfailPin false s)) he)
    | restoreExpiry =>
      refine awake_bound _ ?_ he
      unfold restoreEnds
      split
      · next hr => exact .of_normal (restoreNormal_enters s hr.1).normal
      · exact (CoreMove.refl (quiet := .all) s).bound
    | powerOn pins =>
      injection he with he
      exact he ▸ coldBoot_bound s _
    | resetPinAssert keep => exact awake_bound _ (resetAsserted_bound keep s hs) he
    | resetPinRelease =>
      injection he with he
      exact he ▸ resetReleased_bound s hs
    | warmCommandReset =>
      refine awake_bound _ ?_ he
      unfold restartTakesEffect
      split
      · exact (CoreMove.refl (quiet := .all) s).bound
      · exact warmReset_bound _ s hs
    | _ => cases hc

theorem idle_bound (s : State) : ShelfBound s (idle s) := by
  have hsame : ShelfBound s s := (CoreMove.refl (quiet := .all) s).bound
  have hcount : ShelfBound s (countTimers s) := (countTimers_move s).bound
  unfold Machine.idle tick
  split
  · exact ⟨hsame.stage, hsame.inrush⟩
  · split
    · exact ⟨hsame.stage, hsame.inrush⟩
    · generalize countTimers s = u at hcount ⊢
      exact ⟨hcount.stage, hcount.inrush⟩

theorem step_bound (s t : State) (he : step s = .next t) (hs : RackLaw s) : ShelfBound s t := by
  unfold Machine.step at he
  split at he
  · next c rest _ =>
    exact .of_eq (u := { s with pending := rest }) rfl rfl (exec_bound c { s with pending := rest } t he (rackLaw_congr rfl rfl hs))
  · injection he with he
    exact he ▸ idle_bound s

/-- Settles O60: the laws are kept by every move, and so is the bound (`ShelfBound`). -/
theorem everyStepKeepsTheOtherLaws : Obligations.EveryStepKeepsTheOtherLaws := by
  intro s t hs hstep
  obtain ⟨hnotices, hlink, hbus, htray, horder, hshelf, htest, -⟩ := hs
  have hlaws := recordLaws_kept.step recordLaws_pending s t hstep ⟨⟨htray, horder⟩, hnotices, hlink, hbus, hshelf, htest⟩
  have hbound := step_bound s t hstep ⟨htray, horder⟩
  exact ⟨hlaws.notices, hlaws.link, hlaws.bus, hlaws.power.1, hlaws.power.2, hbound.stage, hbound.inrush⟩

end Sys2Proof.Machine
end

section
/-! PROOFS. The step: the front command, the idle step, the queue of commands, RESET held, the part right after reset. -/
namespace Sys2Proof.Machine

/-- Settles O1: it is the definition of a step. -/
theorem stepRunsTheFrontCommand : Obligations.StepRunsTheFrontCommand := fun _ _ _ => rfl

/-! ### Every command -/

theorem exec_next (c : Instr) (s : State) : ∃ t, exec c s = .next t := by
  cases c <;> exact ⟨_, rfl⟩

/-- The waiting commands are `q`: kept by every move, link change and reset. -/
theorem pending_kept (q : List Instr) : KeptThroughout fun s => s.pending = q where
  runDown := fun scope s hs => (answerRunDown_side scope s).pending.trans hs
  core := fun _ _ hm hs => hm.pending.trans hs
  link := fun _ _ _ hs => hs
  leaks := fun b armed s hb hs => (answerBody_leaks_move b armed s hb).pending.trans hs
  scan := fun readings s hs => (scan_move readings s).pending.trans hs
  switchEdge := fun l sw made s hs => (switchEdge_move l sw made s).pending.trans hs
  travel := fun l s hs => (travelExpires_move l s).pending.trans hs
  normal := fun _ _ hm hs => hm.side.pending.trans hs
  recompute := fun s hs => (leakRecompute_move s).pending.trans hs
  cold := fun _ hs => hs

/-- Settles O3: every command has a meaning, and the waiting commands are among what every command keeps. -/
theorem everyCommandAnswersANextState : Obligations.EveryCommandAnswersANextState := by
  intro c s
  obtain ⟨t, ht⟩ := exec_next c s
  exact ⟨t, ht, (pending_kept s.pending).exec c s t ht rfl⟩

/-! ### RESET held -/

/-- Every command but the end of a reset first sets a pin, or none, and is then taken unless RESET is held. -/
theorem exec_awake (c : Instr) (s : State) (h : endsReset c = false) :
    ∃ f p, exec c s = awake f { s with pins := p } := by
  cases c with
  | powerOn | resetPinRelease => cases h
  | valveSwitchEdge l sw made => cases sw <;> exact ⟨_, _, rfl⟩
  | pgRise | pgFall | presenceLoss | presenceAsserted | modulePresenceReleased | modulePresenceAsserted | ifailAssert
  | ifailRelease => exact ⟨_, _, rfl⟩
  | _ => exact ⟨_, s.pins, rfl⟩

theorem awake_held (f : State → State) {s : State} (h : s.held ≠ none) : awake f s = .next s := by
  rw [awake, if_pos (Option.isSome_iff_ne_none.mpr h)]

theorem awake_free (f : State → State) {s : State} (h : s.held = none) : awake f s = .next (f s) := by
  rw [awake, if_neg (by simp [h])]

/-- Settles O4. -/
theorem resetPinHoldsThePart : Obligations.ResetPinHoldsThePart := by
  intro c s
  refine ⟨fun hheld hc => ?_, fun hfree => awake_free _ hfree, fun hfree => ⟨_, awake_free _ hfree, ?_⟩⟩
  · obtain ⟨f, p, he⟩ := exec_awake c s hc
    exact ⟨_, he.trans (awake_held f hheld), rfl⟩
  · have htrays := coldValues_trays { s with pins := { s.pins with keep := false } }
    rw [resetAsserted_eq false s _ rfl]
    refine ⟨rfl, rfl, rfl, rfl, fun i => ?_, fun l => ?_, rfl⟩
    · exact (congrArg Tray.enable (htrays i)).trans rfl
    · exact (congrArg Loop.drive (coldValues_loop _ l)).trans rfl

/-! ### The idle step -/

theorem mem_commandIf {b : Bool} {c d : Instr} : c ∈ commandIf b d ↔ b = true ∧ c = d := by
  cases b <;> simp [commandIf]

theorem runsOut_iff {t : Option Nat} : runsOut t = true ↔ t = some 1 ∨ t = some 0 := by
  cases t with
  | none => simp [runsOut]
  | some n => simp [runsOut, Nat.le_one_iff_eq_zero_or_eq_one, or_comm]

theorem prepareRunsOut_iff {t : PrepareTimer} : prepareRunsOut t = true ↔ t = .running 1 ∨ t = .running 0 := by
  cases t with
  | running n => simp [prepareRunsOut, Nat.le_one_iff_eq_zero_or_eq_one, or_comm]
  | paused n => simp [prepareRunsOut]
  | stopped => simp [prepareRunsOut]

theorem mem_trayExpiry {c : Instr} {i : TrayId} {tm : TrayTimer} :
    c ∈ trayExpiry i tm ↔
      (c = .inrushWaitExpiry i ∧ (tm = .inrushWait 1 ∨ tm = .inrushWait 0)) ∨
      (c = .settleExpiry i ∧ ((∃ p, tm = .settle 1 p) ∨ ∃ p, tm = .settle 0 p)) ∨
      (c = .stopTimerExpiry i ∧ (tm = .stop 1 ∨ tm = .stop 0)) ∨
      (c = .dischargeWaitExpiry i ∧ (tm = .discharge 1 ∨ tm = .discharge 0)) := by
  cases tm with
  | idle => simp [trayExpiry]
  | inrushWait n | settle n p | stop n | discharge n =>
    simp [trayExpiry, mem_commandIf, Nat.le_one_iff_eq_zero_or_eq_one, or_comm, and_comm]

theorem mem_allLoops (l : LoopId) : l ∈ allLoops := List.mem_finRange l

theorem mem_expiries {c : Instr} {s : State} :
    c ∈ expiries s ↔
      (∃ i, c ∈ trayExpiry i s.trays[i].timer) ∨
      (runsOut s.ilc.qualify = true ∧ c = .qualifyExpiry) ∨
      (runsOut s.ilc.restore = true ∧ c = .restoreExpiry) ∨
      (runsOut s.run.startSpacing = true ∧ c = .startSpacingExpiry) ∨
      (runsOut s.run.stopSpacing = true ∧ c = .stopSpacingExpiry) ∨
      (∃ l, runsOut s.loops[l].travel = true ∧ c = .valveTravelExpiry l) ∨
      (prepareRunsOut s.test.prepare = true ∧ c = .prepareTimeout) ∨
      (runsOut s.hli.silence = true ∧ c = .hostSilenceExpiry) ∨
      (runsOut (replyWindow s) = true ∧ c = .replyWindowExpiry) := by
  simp only [expiries, List.mem_append, List.mem_flatMap, mem_commandIf, mem_allTrays, mem_allLoops, true_and, or_assoc]

theorem countTimers_tray (s : State) (i : TrayId) :
    (countTimers s).trays[i] = { s.trays[i] with timer := tickTrayTimer s.trays[i].timer } := by
  simp [countTimers]

/-- A millisecond passes when no bus cycle is due. -/
theorem idle_tick (s : State) (hfree : s.held = none) (hdue : s.mbc.poll ≠ none ∨ s.time < s.mbc.nextCycle) :
    idle s = { countTimers s with pending := s.pending ++ expiries s } := by
  have hnot : cycleDue s = false := by
    unfold cycleDue
    rcases hdue with hpoll | htime
    · simp [Option.isNone_iff_eq_none, hpoll]
    · simp [Nat.not_le.mpr htime]
  simp only [idle, tick, hfree, hnot, Option.isNone_none, Option.isSome_none, Bool.and_false, Bool.false_eq_true, if_false]

theorem idle_cycle (s : State) (hfree : s.held = none) (hpoll : s.mbc.poll = none) (hdue : s.mbc.nextCycle ≤ s.time) :
    idle s = { s with pending := s.pending ++ [.busCycleStart] } := by
  simp only [idle, cycleDue, hfree, hpoll, hdue, Option.isNone_none, decide_true, Bool.and_true, if_true]

theorem idle_held (s : State) (hheld : s.held ≠ none) : idle s = { s with time := s.time + 1 } := by
  have h : s.held.isNone = false := Option.isNone_eq_false_iff.mpr (Option.isSome_iff_ne_none.mpr hheld)
  simp only [idle, tick, h, Bool.false_and, Bool.false_eq_true, if_false, Option.isSome_iff_ne_none.mpr hheld, if_true]

theorem step_idle (s : State) (h : s.pending = []) : step s = .next (idle s) := by
  unfold step
  rw [h]

/-- Settles O2. -/
theorem idleStepIsOneMillisecond : Obligations.IdleStepIsOneMillisecond := by
  intro s hempty
  rw [step_idle s hempty]
  refine ⟨fun hheld => by rw [idle_held s hheld], fun hfree hpoll hdue => ?_, fun hfree hdue => ?_⟩
  · rw [idle_cycle s hfree hpoll hdue, hempty]
    rfl
  · refine ⟨_, rfl, ?_⟩
    rw [idle_tick s hfree hdue, hempty]
    refine ⟨rfl, rfl, countTimers_tray s, ?_⟩
    simp only [List.nil_append, mem_expiries, mem_trayExpiry, runsOut_iff, prepareRunsOut_iff, replyWindow, exists_or]
    simp

/-! ### The part right after reset -/

theorem reset_trayLaw : TrayLaw State.reset := by
  have hlock : ∀ i : TrayId, lockLaw State.reset.trays[i] := by decide +kernel
  have htimer : ∀ i : TrayId, timerLaw State.reset.trays[i] := by decide +kernel
  have hplace : ∀ i : TrayId, placeLaw State.reset i := by decide +kernel
  have hqueue : queueLaw State.reset.run := by decide +kernel
  exact ⟨fun i => ⟨hlock i, htimer i, hplace i⟩, hqueue⟩

theorem reset_laws : Laws State.reset := by
  refine ⟨?_, ?_, ?_, reset_trayLaw, ?_, ?_, ?_, ?_, ?_, ?_, ?_, ?_⟩
  all_goals decide +kernel

/-- Settles O5, by evaluation of the one state. -/
theorem resetIsAColdStart : Obligations.ResetIsAColdStart := by
  refine ⟨reset_laws, congrArg Host.Outcome.next (by decide +kernel : coldBoot { State.reset with pins := restingPins } = State.reset), ?_⟩
  decide +kernel

end Sys2Proof.Machine
end

section
/-! PROOFS. Rules of the shared operations: charge grants, completion tests and the hand-over of a new shelf power state. -/
namespace Sys2Proof.Machine

/-! ### Grants -/

theorem grantFor_zero (bbus : Vector Bbu 6) (b : BbuId) (l : List BbuId) : grantFor bbus b l 0 = 0 := by
  induction l with
  | nil => rfl
  | cons x xs ih =>
    simp only [grantFor, Nat.min_zero, Nat.sub_zero]
    split
    · rfl
    · exact ih

/-- Outside NORMAL every charge grant is 0 (R84). -/
theorem recomputeGrants_outside {s : State} (h : s.ilc.state ≠ .normal) :
    recomputeGrants s = { s with bbus := Vector.ofFn fun b => { s.bbus[b] with grant := 0 } } := by
  simp only [recomputeGrants, State.grantAvail, if_neg h, grantFor_zero]

/-! ### Completion tests -/

theorem testUpDone_id {s : State} (h : upComplete s = false) : testUpDone s = s := by
  rw [testUpDone, h]
  rfl

theorem testDownDone_id {s : State} (h : downComplete s = false) : testDownDone s = s := by
  rw [testDownDone, h]
  rfl

/-- The completion test looks at the run and the trays only. -/
theorem upComplete_congr {s t : State} (htrays : t.trays = s.trays) (hrun : t.run = s.run) : upComplete t = upComplete s := by
  simp only [upComplete, htrays, hrun]

theorem upComplete_held {s t : State} (htrays : t.trays = s.trays)
    (hrun : t.run = { s.run with state := .held, blocked := none }) (h : s.run.state = .running) :
    upComplete t = upComplete s := by
  simp only [upComplete, htrays, hrun, h]
  rfl

theorem startEvent_congr {s t : State} (htrays : t.trays = s.trays) (hrun : t.run = s.run) : startEvent s t = false := by
  simp [startEvent, State.kT, htrays, hrun]

/-- Without a change of trays or run the sequencer does nothing to a part whose run is not complete. -/
theorem seqAfter_same {s t : State} (htrays : t.trays = s.trays) (hrun : t.run = s.run) (h : OpenLaw s) : seqAfter s t = t := by
  obtain ⟨hup, hdown⟩ := h
  have hup' : upComplete t = false := (upComplete_congr htrays hrun).trans hup
  have hdown' : downComplete t = false := by simpa only [downComplete, hrun] using hdown
  rw [seqAfter]
  split
  · exact testDownDone_id hdown'
  · rw [startEvent_congr htrays hrun]
    exact testUpDone_id hup'

/-! ### The hand-over of a shelf power state -/

theorem budgetHearsShelf_outside {s : State} (h : s.ilc.state ≠ .normal) :
    budgetHearsShelf s =
      { s with bbus := Vector.ofFn fun b => { s.bbus[b] with grant := 0 }
               budget := { s.budget with deficitActive := false, deficitUnresolved := false } } := by
  rw [budgetHearsShelf, if_neg h, recomputeGrants_outside h]
  rfl

theorem handOver_outside {s : State} (h : s.ilc.state ≠ .normal) (ho : OpenLaw s) :
    sequencerHearsShelf (seqAfter s (budgetHearsShelf s)) = heldBack s := by
  have hsame : seqAfter s (budgetHearsShelf s) = budgetHearsShelf s :=
    seqAfter_same (by rw [budgetHearsShelf_outside h]) (by rw [budgetHearsShelf_outside h]) ho
  rw [hsame, budgetHearsShelf_outside h, sequencerHearsShelf, if_neg h, heldBack]
  dsimp only
  split
  · next hrun => exact testUpDone_id ((upComplete_held (s := s) (by rfl) (by rfl) hrun.2).trans ho.1)
  · rfl

/-- A shelf that takes another state than NORMAL gives up grants and deficit and holds an UP run (R84, R86, R93, R115). -/
theorem setShelf_outside (new : ShelfState) (s : State) (hnew : new ≠ .normal) (ho : OpenLaw s) :
    setShelf new s = heldBack { s with ilc := { s.ilc with state := new } } :=
  handOver_outside (s := { s with ilc := { s.ilc with state := new } }) hnew ho

end Sys2Proof.Machine
end

section
/-! PROOFS. The cold reset: what it leaves of every record (R28, R50, R72, R90, R106, R126, R145, R158, R169, R170, R176, R179,
R181). -/
namespace Sys2Proof.Machine

/-! ### Notices -/

/-- A notice posted now. -/
def noteNow (s : State) (k : NoticeKind) (x v : Option Nat) : Notice := { kind := k, subject := x, value := v, time := s.time }

/-- The part with more notices held. -/
def withNotices (l : List Notice) (s : State) : State :=
  { s with notices := { s.notices with records := s.notices.records ++ l } }

theorem withNotices_append (k l : List Notice) (s : State) :
    withNotices l (withNotices k s) = withNotices (k ++ l) s := by
  simp [withNotices]

theorem post_room {k : NoticeKind} {x v : Option Nat} {s : State} (h : s.notices.records.length < 32) :
    post k x v s = withNotices [noteNow s k x v] s := by
  rw [post, if_pos (show s.notices.records.length < Config.noticeRoom from h)]
  rfl

/-- The notices of the trays whose PG reads asserted at a cold reset (R28). -/
def pgNotices (s : State) (l : List TrayId) : List Notice :=
  (l.filter fun i => s.pins.pg[i]).map fun i => noteNow s .trayUnexpectedPg (some i.val) none

theorem trayPgRise_off {i : TrayId} {s : State} (h : s.trays[i].state = .off) :
    trayPgRise i s = post .trayUnexpectedPg (some i.val) none s := by
  unfold trayPgRise
  dsimp only
  rw [h]

theorem pgNotices_cons (s : State) (i : TrayId) (l : List TrayId) :
    pgNotices s (i :: l) =
      (if s.pins.pg[i] then [noteNow s .trayUnexpectedPg (some i.val) none] else []) ++ pgNotices s l := by
  rw [pgNotices, List.filter_cons]
  split <;> rfl

theorem coldPg_loop (l : List TrayId) (s : State) (hoff : ∀ i : TrayId, s.trays[i].state = .off)
    (hroom : s.notices.records.length + l.length ≤ 32) :
    l.foldl (fun s i => if s.pins.pg[i] then trayPgRise i s else s) s =
      withNotices (pgNotices s l) s := by
  induction l generalizing s with
  | nil => simp [pgNotices, withNotices]
  | cons i l ih =>
    rw [List.length_cons] at hroom
    rw [List.foldl_cons]
    rw [pgNotices_cons]
    cases hpg : s.pins.pg[i] with
    | true =>
      have hlen : (s.notices.records ++ [noteNow s .trayUnexpectedPg (some i.val) none]).length + l.length ≤ 32 := by
        rw [List.length_append, List.length_singleton]
        omega
      rw [if_pos rfl, trayPgRise_off (hoff i), post_room (by omega),
        ih (withNotices [noteNow s .trayUnexpectedPg (some i.val) none] s) hoff hlen, if_pos rfl]
      exact withNotices_append _ _ s
    | false =>
      rw [if_neg Bool.false_ne_true, ih s hoff (by omega)]
      rfl

theorem coldPg_eq (s : State) (hoff : ∀ i : TrayId, s.trays[i].state = .off) (hroom : s.notices.records.length ≤ 8) :
    coldPg s = withNotices (pgNotices s allTrays) s :=
  coldPg_loop allTrays s hoff (by simpa [allTrays] using hroom)

/-! ### The first bus cycle -/

/-- The record of the module bus once a cycle has started (R33, R34, R35). -/
def cycleBus (s : State) : ModuleBus :=
  { slots := s.mbc.slots
    schedule := (presentSlots s).tail
    poll := (presentSlots s).head?.map fun k =>
      { slot := k, tag := s.mbc.tag, payload := pollPayload s k, inService := slotInService s k, window := 3 }
    driver := if presentSlots s = [] then s.mbc.driver else false
    framer := .hunt
    tag := if presentSlots s = [] then s.mbc.tag else s.mbc.tag + 1
    stagedPeriod := none
    nextCycle := s.time + s.mbc.stagedPeriod.getD s.params.period
    rosterReady := decide (presentSlots s = []) || s.mbc.rosterReady }

theorem startCycle_eq (s : State) :
    startCycle s =
      { s with mbc := cycleBus s, params := { s.params with period := s.mbc.stagedPeriod.getD s.params.period } } := by
  unfold startCycle cycleBus nextPoll
  cases hp : presentSlots s with
  | nil => simp [setBus]
  | cons k rest => simp [setBus, sendPoll_eq, pollPayload, slotInService]

/-! ### The cold start -/

/-- The start sequence of a cold reset, from the cold values on (R181). -/
def coldOnward (u : State) : State :=
  let s1 := post .reset none (some (resetKindCode .cold)) u
  let s2 := if s1.store.valid then s1 else post .profileInvalid none none s1
  let s3 := startCycle (coldPg s2)
  let s4 := if s3.pins.ifail then ifailAsserted s3 else s3
  { s4 with store := { s4.store with autoPending := s4.params.autoStart && s4.store.valid } }

theorem coldBoot_eq_coldOnward (s : State) : coldBoot s = coldOnward (coldValues s) := rfl

/-- What the start sequence relies on: every tray OFF, NORMAL, no run, no grant, no deficit, no notice. -/
structure ColdRack (u : State) : Prop where
  trays : ∀ i : TrayId, u.trays[i].state = .off
  ilc : u.ilc.state = .normal
  run : u.run.state = .idle
  grants : ∀ b : BbuId, u.bbus[b].grant = 0
  deficit : u.budget.deficitActive = false ∧ u.budget.deficitUnresolved = false
  notices : u.notices.records = []
  period : u.mbc.stagedPeriod = none

/-- The notices of a cold start (R28, R181). -/
def bootNotices (u : State) : List Notice :=
  noteNow u .reset none (some 0) ::
    ((if u.store.valid then [] else [noteNow u .profileInvalid none none]) ++ pgNotices u allTrays)

/-- The input loss record of a cold start, IFAIL read (R94, R106). -/
def bootShelf (u : State) : InputLoss :=
  if u.pins.ifail then
    { u.ilc with state := .sagQualify, ifail := true, sagStart := some u.time, qualify := some u.params.qualifyTime }
  else u.ilc

/-- The part when its first bus cycle has started. -/
def cycled (u : State) : State := { u with notices := { u.notices with records := bootNotices u }, mbc := cycleBus u }

/-- The part once its cold start is over. -/
def booted (u : State) : State :=
  { u with
    notices := { u.notices with records := bootNotices u }
    mbc := cycleBus u
    ilc := bootShelf u
    store := { u.store with autoPending := u.params.autoStart && u.store.valid } }

theorem openLaw_of_idle {s : State} (h : s.run.state = .idle) : OpenLaw s := by
  simp [OpenLaw, upComplete, downComplete, h]

/-- SAG-QUALIFY is entered (R93, R94). -/
theorem enterSagQualify_eq {s : State} (ho : OpenLaw s) :
    enterSagQualify s =
      heldBack { s with ilc := { s.ilc with
        state := .sagQualify, ifail := true, sagStart := some s.time, qualify := some s.params.qualifyTime } } :=
  setShelf_outside .sagQualify
    { s with ilc := { s.ilc with ifail := true, sagStart := some s.time, qualify := some s.params.qualifyTime } } (by decide) ho

/-- A part without run, grants and deficit has nothing to hold back. -/
theorem heldBack_id {s : State} (hrun : s.run.state ≠ .running) (hg : ∀ b : BbuId, s.bbus[b].grant = 0)
    (hd : s.budget.deficitActive = false ∧ s.budget.deficitUnresolved = false) : heldBack s = s := by
  have hbbus : (Vector.ofFn fun b => { s.bbus[b] with grant := 0 } : Vector Bbu 6) = s.bbus := by
    refine Vector.ext fun i hi => ?_
    rw [Vector.getElem_ofFn]
    have hone := hg ⟨i, hi⟩
    rw [Fin.getElem_fin] at hone ⊢
    generalize s.bbus[i] = x at hone ⊢
    cases x
    cases hone
    rfl
  have hbudget : ({ s.budget with deficitActive := false, deficitUnresolved := false } : Budget) = s.budget := by
    obtain ⟨h1, h2⟩ := hd
    generalize s.budget = x at h1 h2 ⊢
    cases x
    cases h1
    cases h2
    rfl
  rw [heldBack, hbbus, hbudget, if_neg fun h => hrun h.2]

theorem bootPosts (u : State) (h : u.notices.records = []) :
    (if (post .reset none (some (resetKindCode .cold)) u).store.valid then post .reset none (some (resetKindCode .cold)) u
      else post .profileInvalid none none (post .reset none (some (resetKindCode .cold)) u)) =
      withNotices (noteNow u .reset none (some 0) :: (if u.store.valid then [] else [noteNow u .profileInvalid none none])) u := by
  have hreset : post .reset none (some (resetKindCode .cold)) u = withNotices [noteNow u .reset none (some 0)] u :=
    post_room (by rw [h]; decide)
  rw [hreset]
  have hinvalid : post .profileInvalid none none (withNotices [noteNow u .reset none (some 0)] u) =
      withNotices [noteNow u .profileInvalid none none] (withNotices [noteNow u .reset none (some 0)] u) :=
    post_room (by simp [withNotices, h])
  rw [hinvalid, withNotices_append]
  cases hv : u.store.valid with
  | true => exact if_pos hv
  | false => exact if_neg (Bool.eq_false_iff.mp hv)

theorem bootIfail {s : State} (hilc : s.ilc.state = .normal) (hrun : s.run.state = .idle)
    (hg : ∀ b : BbuId, s.bbus[b].grant = 0) (hd : s.budget.deficitActive = false ∧ s.budget.deficitUnresolved = false) :
    (if s.pins.ifail then ifailAsserted s else s) = { s with ilc := bootShelf s } := by
  rw [bootShelf]
  cases s.pins.ifail with
  | false => rfl
  | true =>
    simp only [ifailAsserted, hilc, if_true]
    rw [enterSagQualify_eq (openLaw_of_idle hrun)]
    exact heldBack_id (fun hr => by cases hrun.symm.trans hr) (by exact hg) (by exact hd)

theorem coldOnward_eq {u : State} (h : ColdRack u) : coldOnward u = booted u := by
  have hempty := h.notices
  unfold coldOnward
  dsimp only
  rw [bootPosts u hempty]
  generalize hk : noteNow u .reset none (some 0) :: (if u.store.valid then [] else [noteNow u .profileInvalid none none]) = k
  have hroom : k.length ≤ 2 := by
    rw [← hk]
    split <;> simp
  have hboot : bootNotices u = k ++ pgNotices u allTrays := by rw [← hk]; rfl
  have hcycle : startCycle (coldPg (withNotices k u)) = cycled u := by
    rw [cycled, coldPg_eq (withNotices k u) h.trays (by simp [withNotices, hempty]; omega), withNotices_append, startCycle_eq, hboot]
    have hparams : ({ u.params with period := u.mbc.stagedPeriod.getD u.params.period } : Params) = u.params := by
      rw [h.period]
      rfl
    have hrecords : u.notices.records ++ (k ++ pgNotices u allTrays) = k ++ pgNotices u allTrays := by rw [hempty]; rfl
    rw [← hrecords]
    exact congrArg (fun p => { u with
      notices := { u.notices with records := u.notices.records ++ (k ++ pgNotices u allTrays) }
      mbc := cycleBus u, params := p }) hparams
  rw [hcycle, bootIfail (s := cycled u) h.ilc h.run h.grants h.deficit]
  rfl

/-! ### The cold values -/

theorem coldValues_bbu (s : State) (b : BbuId) :
    (coldValues s).bbus[b] = coldBbu (bootConfig s.store).bbus[b] s.pins.modulePresent[bbuSlotNo b] := by
  simp [coldValues, Fin.getElem_fin]

theorem coldValues_rect (s : State) (r : RectId) :
    (coldValues s).rects[r] = coldRect s.pins.modulePresent[rectSlotNo r] := by
  simp [coldValues, Fin.getElem_fin]

theorem coldRack (s : State) : ColdRack (coldValues s) where
  trays := fun i => (congrArg Tray.state (coldValues_trays s i)).trans rfl
  ilc := rfl
  run := rfl
  grants := fun b => (congrArg Bbu.grant (coldValues_bbu s b)).trans rfl
  deficit := ⟨rfl, rfl⟩
  notices := rfl
  period := rfl

theorem coldBoot_eq (s : State) : coldBoot s = booted (coldValues s) := coldOnward_eq (coldRack s)

/-- Power-on, and the release of RESET asserted with KEEP low. -/
theorem exec_cold (s : State) (p : Pins) :
    ∃ t, t = booted (coldValues { s with pins := p }) ∧ exec (.powerOn p) s = .next t ∧
      (s.held = some .cold → s.pins = p → exec .resetPinRelease s = .next t) := by
  refine ⟨_, (coldBoot_eq { s with pins := p }), rfl, fun hheld hp => ?_⟩
  have hs : ({ s with pins := p } : State) = s := by
    rw [← hp]
  rw [hs]
  simp only [exec, execResetPinRelease, resetReleased, hheld]

/-! ### The working configuration -/

/-- A stored image that a cold reset refuses, or none (R176). -/
theorem bootConfig_bad {p : ProfileStore} {img : StoredImage}
    (h : p.image = none ∨ (p.image = some img ∧
      (img.format ≠ imageFormat ∨ img.check ≠ crc16 (imageBytes img.format img.config)))) : bootConfig p = defaultConfig := by
  unfold bootConfig
  rcases h with h | ⟨h, hbad⟩
  · rw [h]
  · have hnot : ¬ imageGood img = true := fun hg => by
      obtain ⟨hf, hc⟩ := (imageGood_iff img).mp hg
      exact hbad.elim (absurd hf) (absurd hc)
    rw [h]
    exact if_neg hnot

theorem bootConfig_good {p : ProfileStore} {img : StoredImage} (h : p.image = some img) (hf : img.format = imageFormat)
    (hc : img.check = crc16 (imageBytes img.format img.config)) : bootConfig p = img.config := by
  unfold bootConfig
  rw [h]
  exact if_pos ((imageGood_iff img).mpr ⟨hf, hc⟩)

theorem bootNotice_pg (u : State) (i : TrayId) :
    ({ kind := .trayUnexpectedPg, subject := some i.val, value := none, time := u.time } : Notice) ∈ bootNotices u ↔
      u.pins.pg[i] = true := by
  have hfirst : ∀ k, k ≠ .trayUnexpectedPg → ∀ x v,
      ({ kind := .trayUnexpectedPg, subject := some i.val, value := none, time := u.time } : Notice) ≠ noteNow u k x v := by
    rintro k hk x v h
    exact hk (congrArg Notice.kind h).symm
  rw [bootNotices, List.mem_cons, List.mem_append, or_iff_right (hfirst _ (by decide) _ _), or_iff_right]
  · simp only [pgNotices, List.mem_map, List.mem_filter, mem_allTrays, true_and, noteNow, Notice.mk.injEq, Option.some.injEq,
      and_true]
    exact ⟨fun ⟨j, hj, e⟩ => (Fin.ext e : j = i) ▸ hj, fun h => ⟨i, h, rfl⟩⟩
  · split
    · exact List.not_mem_nil
    · exact fun h => hfirst _ (by decide) _ _ (List.mem_singleton.mp h)

/-- Settles O6. -/
theorem coldResetTrays : Obligations.ColdResetTrays := by
  intro s p img
  obtain ⟨t, ht, hpower, hrelease⟩ := exec_cold s p
  have htray : ∀ i : TrayId, t.trays[i] = coldTray (bootConfig s.store).trays[i] p.prsnt[i] := fun i => by
    rw [ht]
    exact coldValues_trays { s with pins := p } i
  refine ⟨t, hpower, hrelease, htray, fun hi hf hc i => ?_, fun hbad i => ?_, fun i => ?_, ?_, fun i => ?_⟩
  · rw [htray, bootConfig_good hi hf hc]
    rfl
  · rw [htray, bootConfig_bad hbad]
    simp [coldTray, defaultConfig, defaultTrayConfig]
  · rw [htray]
    exact ⟨rfl, rfl, rfl⟩
  · rw [ht]
    rfl
  · rw [ht]
    exact bootNotice_pg (coldValues { s with pins := p }) i

/-- Batteries that have not reported yet give no reserve and no load (R65, R66, R67). -/
theorem coldBbus_figures {s : State} {cfg : Vector BbuConfig 6} {present : BbuId → Bool}
    (h : ∀ b : BbuId, s.bbus[b] = coldBbu cfg[b] (present b)) : s.reserve = 0 ∧ s.lDis = 0 ∧ ∀ b : BbuId, s.usable b = 0 := by
  have husable : ∀ b : BbuId, s.usable b = 0 := fun b => by
    rw [State.usable, h]
    simp [Bbu.usable, coldBbu]
  have hdelivered : ∀ b : BbuId, s.bbus[b].delivered = 0 := fun b => by
    rw [h, Bbu.delivered]
    exact ite_self 0
  refine ⟨?_, ?_, husable⟩
  · simp [State.reserve, funext husable]
  · simp only [State.lDis, hdelivered]
    rfl

/-- Settles O7. -/
theorem coldResetBatteries : Obligations.ColdResetBatteries := by
  intro s p img
  obtain ⟨t, ht, hpower, hrelease⟩ := exec_cold s p
  have hbbu : ∀ b : BbuId, t.bbus[b] = coldBbu (bootConfig s.store).bbus[b] p.modulePresent[bbuSlotNo b] := fun b => by
    rw [ht]
    exact coldValues_bbu { s with pins := p } b
  have hparams : t.params = (bootConfig s.store).params := by rw [ht]; rfl
  obtain ⟨hreserve, hlDis, husable⟩ := coldBbus_figures (s := t) hbbu
  refine ⟨t, hpower, hrelease, hbbu, fun hi hf hc => ?_, fun hbad b => ?_, husable, fun hbad => ?_, hreserve, hlDis, ?_⟩
  · rw [hparams, bootConfig_good hi hf hc]
    exact ⟨fun b => by rw [hbbu, bootConfig_good hi hf hc]; exact ⟨rfl, rfl, rfl⟩, rfl, rfl⟩
  · rw [hbbu, bootConfig_bad hbad]
    simp [coldBbu, defaultConfig, defaultBbuConfig]
  · rw [hparams, bootConfig_bad hbad]
    exact ⟨rfl, rfl⟩
  · rw [State.tEst, hreserve, hlDis]
    rfl

/-! ### The other blocks -/

theorem coldValues_present (s : State) (k : SlotId) : (coldValues s).mbc.slots[k] = coldModuleSlot s.pins.modulePresent[k] := by
  simp [coldValues, Fin.getElem_fin]

theorem coldValues_channelCfg (s : State) (c : ChannelId) :
    (coldValues s).channels[c] = coldChannel (bootConfig s.store).channels[c] := by
  simp [coldValues, Fin.getElem_fin]

theorem coldValues_presentSlots (s : State) : presentSlots (coldValues s) = allSlots.filter fun k => s.pins.modulePresent[k] := by
  unfold presentSlots
  congr 1
  funext k
  rw [coldValues_present]
  rfl

theorem mem_allSlots (k : SlotId) : k ∈ allSlots := List.mem_finRange k

theorem presentSlots_nil (present : Vector Bool 12) :
    (allSlots.filter fun k => present[k]) = [] ↔ ∀ k : SlotId, present[k] = false := by
  rw [List.filter_eq_nil_iff]
  exact ⟨fun h k => Bool.eq_false_iff.mpr (h k (mem_allSlots k)), fun h k _ => Bool.eq_false_iff.mp (h k)⟩

/-- The first polls carry the cold setpoints (R35, R40, R53). -/
theorem coldValues_poll (s : State) (k : SlotId) :
    pollPayload (coldValues s) k = (if k.val < 6 then [1] else [0, 0, 1, 0, 0]) ∧ slotInService (coldValues s) k = true := by
  unfold pollPayload slotInService slotOwner
  by_cases h : k.val < 6
  · simp only [dif_pos h, if_pos h, coldValues_rect]
    exact ⟨rfl, rfl⟩
  · have hbytes : le16 0 ++ leBool true ++ le16 0 = [0, 0, 1, 0, 0] := by decide
    simp only [dif_neg h, if_neg h, coldValues_bbu]
    exact ⟨hbytes, rfl⟩

theorem coldValues_cycleBus (s : State) :
    cycleBus (coldValues s) =
      { slots := Vector.ofFn fun k => { present := s.pins.modulePresent[k], missCount := 0, announced := false },
        schedule := (allSlots.filter fun k => s.pins.modulePresent[k]).tail
        poll := (allSlots.filter fun k => s.pins.modulePresent[k]).head?.map fun k =>
          { slot := k, tag := 0, payload := if k.val < 6 then [1] else [0, 0, 1, 0, 0], inService := true, window := 3 }
        driver := false, framer := .hunt, tag := if ∀ k : SlotId, s.pins.modulePresent[k] = false then 0 else 1
        stagedPeriod := none, nextCycle := (bootConfig s.store).params.period
        rosterReady := decide (∀ k : SlotId, s.pins.modulePresent[k] = false) } := by
  have hdriver : (coldValues s).mbc.driver = false := rfl
  have htag : (coldValues s).mbc.tag = 0 := rfl
  have hrosterReady : (coldValues s).mbc.rosterReady = false := rfl
  have hnext : (coldValues s).time + (coldValues s).mbc.stagedPeriod.getD (coldValues s).params.period =
      (bootConfig s.store).params.period := Nat.zero_add _
  have hready : (decide (∀ k : SlotId, s.pins.modulePresent[k] = false) || false) =
      decide (∀ k : SlotId, s.pins.modulePresent[k] = false) := Bool.or_false _
  simp only [cycleBus, coldValues_presentSlots, coldValues_poll, presentSlots_nil, hdriver, ite_self, htag, hnext]
  rw [hrosterReady, hready]
  rfl

theorem coldTrays_figures {s : State} (h : ∀ i : TrayId, s.trays[i].state = .off) : s.kT = 0 ∧ s.kLive = 0 := by
  have hcounted : ∀ i : TrayId, s.trays[i].counted = 0 := fun i => by
    rw [Tray.counted, h i]
  have hlive : ∀ i : TrayId, s.trays[i].countedLive = 0 := fun i => by
    rw [Tray.countedLive, hcounted i, ite_self]
  simp only [State.kT, State.kLive, hcounted, hlive]
  exact ⟨rfl, rfl⟩

theorem coldRects_redundancy {s : State} (h : ∀ r : RectId, s.rects[r].state ≠ .sourcing) : s.redundancy = .none := by
  have hnone : sourcing s.rects = [] := by
    rw [sourcing, List.filter_eq_nil_iff]
    exact fun r _ hr => h r (by simpa using hr)
  rw [State.redundancy, hnone]
  rfl

theorem bootNotice_invalid (u : State) :
    ({ kind := .profileInvalid, subject := none, value := none, time := u.time } : Notice) ∈ bootNotices u ↔
      u.store.valid = false := by
  have hother : ∀ k, k ≠ .profileInvalid → ∀ x v,
      ({ kind := .profileInvalid, subject := none, value := none, time := u.time } : Notice) ≠ noteNow u k x v := by
    rintro k hk x v h
    exact hk (congrArg Notice.kind h).symm
  have hpg : ({ kind := .profileInvalid, subject := none, value := none, time := u.time } : Notice) ∉ pgNotices u allTrays :=
    fun h => by
      obtain ⟨i, -, hi⟩ := List.mem_map.mp h
      exact hother _ (by decide) _ _ hi.symm
  rw [bootNotices, List.mem_cons, List.mem_append, or_iff_right (hother _ (by decide) _ _), or_iff_left hpg]
  cases u.store.valid <;> simp [noteNow]

/-- Settles O8. -/
theorem coldResetOtherBlocks : Obligations.ColdResetOtherBlocks := by
  intro s p
  obtain ⟨t, ht, hpower, hrelease⟩ := exec_cold s p
  have hcycle : t.mbc = cycleBus (coldValues { s with pins := p }) := by rw [ht]; rfl
  have hcold : ColdRack (coldValues { s with pins := p }) := coldRack _
  obtain ⟨hkT, hkLive⟩ := coldTrays_figures hcold.trays
  have hred : (coldValues { s with pins := p }).redundancy = .none := coldRects_redundancy fun r => by
    rw [coldValues_rect, coldRect]
    split <;> decide
  rw [coldValues_cycleBus] at hcycle
  refine ⟨t, hpower, hrelease, by rw [ht]; rfl, by rw [ht]; rfl, by rw [ht]; rfl, by rw [ht]; rfl, ?_, fun r => ?_, by rw [ht]; rfl,
    by rw [ht]; exact hkT, by rw [ht]; exact hkLive, by rw [ht]; exact hred, ?_, by rw [ht]; rfl, fun c => ?_, fun l => ?_,
    by rw [ht]; rfl, by rw [ht]; rfl, by rw [ht]; rfl, by rw [ht]; rfl, by rw [ht]; rfl, ?_, ?_, by rw [ht]; rfl⟩
  · rw [hcycle, ht]
    rfl
  · rw [ht]
    exact coldValues_rect { s with pins := p } r
  · have hilc : t.ilc = bootShelf (coldValues { s with pins := p }) := by rw [ht]; rfl
    have hqualify : t.params = (coldValues { s with pins := p }).params := by rw [ht]; rfl
    have hifail : (coldValues { s with pins := p }).pins.ifail = p.ifail := rfl
    rw [hilc, hqualify, bootShelf, hifail]
    cases p.ifail <;> rfl
  · rw [ht]
    exact coldValues_channelCfg { s with pins := p } c
  · rw [ht]
    exact coldValues_loop { s with pins := p } l
  · rw [ht]
    exact bootNotice_invalid (coldValues { s with pins := p })
  · simp only [imageValid, Option.any_eq_true, imageGood_iff]
    rfl

end Sys2Proof.Machine
end

section
/-! PROOFS. The host link: request rows as frames, the framer, breaks, refusals, ARM and RESTART, the silence timer (R26, R160
to R166, R180). -/
namespace Sys2Proof.Machine

/-! ### Fields read back -/

theorem toNat_of_fits1 {n : Nat} (h : fits1 n = true) : (BitVec.ofNat 8 n).toNat = n := by
  rw [BitVec.toNat_ofNat]
  exact Nat.mod_eq_of_lt (of_decide_eq_true h)

theorem u16_of_fits2 {n : Nat} (h : fits2 n = true) : u16 (BitVec.ofNat 8 n) (BitVec.ofNat 8 (n / 256)) = n := by
  have hn : n < 65536 := of_decide_eq_true h
  simp only [u16, BitVec.toNat_ofNat]
  omega

theorem u32_of_fits4 {n : Nat} (h : fits4 n = true) :
    u32 (BitVec.ofNat 8 n) (BitVec.ofNat 8 (n / 256)) (BitVec.ofNat 8 (n / 65536)) (BitVec.ofNat 8 (n / 16777216)) = n := by
  have hn : n < 4294967296 := of_decide_eq_true h
  simp only [u32, u16, BitVec.toNat_ofNat]
  omega

theorem bodyOfOne_le8 {n : Nat} (h : fits1 n = true) (f : Nat → RequestBody) : bodyOfOne (le8 n) f = f n := by
  rw [le8, bodyOfOne, toNat_of_fits1 h]

theorem bodyOfTwo_le8 {m n : Nat} (hm : fits1 m = true) (hn : fits1 n = true) (f : Nat → Nat → RequestBody) :
    bodyOfTwo (le8 m ++ le8 n) f = f m n := by
  change f (BitVec.ofNat 8 m).toNat (BitVec.ofNat 8 n).toNat = f m n
  rw [toNat_of_fits1 hm, toNat_of_fits1 hn]

theorem bodyOfSetParam_bytes {i n : Nat} (hi : fits1 i = true) (hn : fits4 n = true) :
    bodyOfSetParam (le8 i ++ le32 n) = .setShelfParam i n := by
  change RequestBody.setShelfParam (BitVec.ofNat 8 i).toNat (u32 _ _ _ _) = _
  rw [toNat_of_fits1 hi, u32_of_fits4 hn]

theorem bodyOfSetBbu_bytes {b r m f : Nat} (hb : fits1 b = true) (hr : fits4 r = true) (hm : fits2 m = true)
    (hf : fits4 f = true) : bodyOfSetBbu (le8 b ++ le32 r ++ le16 m ++ le32 f) = .setBbuConfig b r m f := by
  change RequestBody.setBbuConfig (BitVec.ofNat 8 b).toNat (u32 _ _ _ _) (u16 _ _) (u32 _ _ _ _) = _
  rw [toNat_of_fits1 hb, u32_of_fits4 hr, u16_of_fits2 hm, u32_of_fits4 hf]

theorem bodyOfSetTray_bytes {i : Nat} {g : RawTrayConfig} (hi : fits1 i = true) (hg : g.fits = true) :
    bodyOfSetTray (le8 i ++ rawTrayBytes g) = .setTrayConfig i g := by
  simp only [RawTrayConfig.fits, Bool.and_eq_true, and_assoc] at hg
  obtain ⟨ha, hs, hp, ht, hst, hr, hc, hpin, hre⟩ := hg
  change RequestBody.setTrayConfig (BitVec.ofNat 8 i).toNat
    ⟨u16 _ _, u16 _ _, u16 _ _, u16 _ _, u16 _ _, BitVec.toNat _, BitVec.toNat _, BitVec.toNat _, BitVec.toNat _⟩ = _
  rw [toNat_of_fits1 hi, u16_of_fits2 ha, u16_of_fits2 hs, u16_of_fits2 hp, u16_of_fits2 ht, u16_of_fits2 hst,
    toNat_of_fits1 hr, toNat_of_fits1 hc, toNat_of_fits1 hpin, toNat_of_fits1 hre]

theorem map_toNat_le8 {l : List Nat} (h : l.all fits1 = true) : (l.flatMap le8).map BitVec.toNat = l := by
  induction l with
  | nil => rfl
  | cons n l ih =>
    rw [List.all_cons, Bool.and_eq_true] at h
    rw [List.flatMap_cons, List.map_append, ih h.2]
    exact congrArg (· :: l) (toNat_of_fits1 h.1)

theorem bodyOfSetLeak_bytes {g : RawChannelConfig} (hg : g.fits = true) :
    bodyOfSetLeak (leakConfigBytes g) = .setLeakChannel g := by
  simp only [RawChannelConfig.fits, Bool.and_eq_true, and_assoc] at hg
  obtain ⟨hc, he, hl, hi, hv, hnc, hnf, hn, ht, -⟩ := hg
  change RequestBody.setLeakChannel
    ⟨BitVec.toNat _, BitVec.toNat _, BitVec.toNat _, BitVec.toNat _, BitVec.toNat _, BitVec.toNat _, BitVec.toNat _,
      BitVec.toNat _, (g.trays.flatMap le8).map BitVec.toNat⟩ = _
  rw [toNat_of_fits1 hc, toNat_of_fits1 he, toNat_of_fits1 hl, toNat_of_fits1 hi, toNat_of_fits1 hv, toNat_of_fits1 hnc,
    toNat_of_fits1 hnf, toNat_of_fits1 hn, map_toNat_le8 ht]

/-! ### Request rows -/

theorem parseRequest_good (kind : Byte) (payload : List Byte) :
    parseRequest kind payload (crc16 payload) = bodyOfKind kind.toNat payload := by
  have h : checkGood payload (crc16 payload) = true := by simp [checkGood]
  rw [parseRequest, if_pos h]

/-- A complete frame with a good check is the request that its kind and payload make. -/
theorem exec_goodFrame (kind tag : Byte) (payload : List Byte) (s : State) :
    exec (.hostFrameReceived kind tag payload (crc16 payload)) s = request kind tag (bodyOfKind kind.toNat payload) s := by
  rw [← parseRequest_good]
  rfl

/-- The row's payload reads back as the row's own fields. -/
theorem exec_requestFrame {c : Instr} {kind tag : Byte} {payload : List Byte} (s : State) (hw : c.wellFormed = true)
    (h : requestFrame c = some (kind, tag, payload)) :
    exec c s = request kind tag (bodyOfKind kind.toNat payload) s := by
  have hfield : ∀ a : Nat, a ≤ 7 → fits1 a = true := fun a ha => decide_eq_true (by omega)
  cases c <;> cases h
  case getLinkStatus | takeNotices | getShelfParam | getTrayConfig | clearFault | getBbuConfig | getInputStatus | getLeakChannel
    | leakRelease | valveOpen | valveClose | testStart =>
    exact congrArg (request _ _ · s) (bodyOfOne_le8 hw _).symm
  case arm | getTrays | moduleService =>
    obtain ⟨hm, hn⟩ := Bool.and_eq_true_iff.mp hw
    exact congrArg (request _ _ · s) (bodyOfTwo_le8 hm hn _).symm
  case trayControlOn | trayControlOff | trayControlHold | trayControlUnhold | trayControlPin | trayControlUnpin
    | trayControlOwnerAuto | trayControlOwnerManual =>
    exact congrArg (request _ _ · s) (bodyOfTwo_le8 hw (hfield _ (by decide)) _).symm
  case setShelfParam =>
    obtain ⟨hi, hn⟩ := Bool.and_eq_true_iff.mp hw
    exact congrArg (request _ _ · s) (bodyOfSetParam_bytes hi hn).symm
  case setTrayConfig =>
    obtain ⟨hi, hg⟩ := Bool.and_eq_true_iff.mp hw
    exact congrArg (request _ _ · s) (bodyOfSetTray_bytes hi hg).symm
  case setBbuConfig =>
    simp only [Instr.wellFormed, Bool.and_eq_true, and_assoc] at hw
    obtain ⟨hb, hr, hm, hf⟩ := hw
    exact congrArg (request _ _ · s) (bodyOfSetBbu_bytes hb hr hm hf).symm
  case setLeakChannel => exact congrArg (request _ _ · s) (bodyOfSetLeak_bytes hw).symm
  all_goals rfl

/-- Settles O10. -/
theorem requestRowsAreFrames : Obligations.RequestRowsAreFrames := by
  intro c s kind tag payload hw h
  rw [exec_goodFrame]
  exact exec_requestFrame s hw h

/-! ### The framer -/

/-- A failed header is scanned again for a start marker from its first byte (R161). -/
theorem rescan_eq (bytes : List Byte) :
    rescan bytes =
      if (bytes.dropWhile (· != 0xC3)).isEmpty then .hunt else .header (bytes.dropWhile (· != 0xC3)).tail := by
  induction bytes with
  | nil => rfl
  | cons b rest ih =>
    by_cases hb : b = 0xC3
    · subst hb
      rfl
    · have hskip : (b != 0xC3) = true := by simpa using hb
      rw [rescan, if_neg (show ¬ b = Config.marker from hb), ih, List.dropWhile_cons_of_pos (p := fun x : Byte => x != 0xC3) hskip]

/-- A frame accepted ends a break and sends the framer hunting, whatever they were. -/
theorem receiveFrame_link (kind tag : Byte) (payload : List Byte) (check : BitVec 16) (f : Framer) (k : Bool) (s : State) :
    receiveFrame kind tag payload check (setLink { s.hli with framer := f, inBreak := k } s) =
      receiveFrame kind tag payload check s := rfl

section
variable {s : State} (b : Byte)

theorem receiveByte_hunt (h : s.hli.framer = .hunt) :
    receiveByte b s = setLink { s.hli with framer := if b = 0xC3 then .header [] else .hunt, inBreak := false } s := by
  unfold receiveByte
  simp only [setLink, h]
  split
  · next hb => rw [if_pos (show b = 0xC3 from hb)]
  · next hb => rw [if_neg (show ¬ b = 0xC3 from hb), ← h]

theorem receiveByte_header {bytes : List Byte} (h : s.hli.framer = .header bytes) :
    receiveByte b s =
      if bytes.length < 4 then setLink { s.hli with framer := .header (bytes ++ [b]), inBreak := false } s
      else judgeHeader (bytes ++ [b]) (setLink { s.hli with inBreak := false } s) := by
  unfold receiveByte
  simp only [setLink, h]

theorem receiveByte_skip {left : Nat} (h : s.hli.framer = .skip left) :
    receiveByte b s = setLink { s.hli with framer := if left ≤ 1 then .hunt else .skip (left - 1), inBreak := false } s := by
  unfold receiveByte
  simp only [setLink, h]

theorem receiveByte_body {kind tag : Byte} {left : Nat} {bytes : List Byte} (h : s.hli.framer = .body kind tag left bytes) :
    receiveByte b s =
      if bytes.length + 1 < left + 2 then
        setLink { s.hli with framer := .body kind tag left (bytes ++ [b]), inBreak := false } s
      else receiveFrame kind tag ((bytes ++ [b]).take left) (bodyCheck left (bytes ++ [b])) s := by
  unfold receiveByte
  simp only [setLink, h, List.length_append, List.length_singleton]
  rfl

end

/-- The last byte of a body completes the frame (R160, R161). -/
theorem receiveByte_lastOfBody {s : State} {kind tag hi lo : Byte} {bytes : List Byte}
    (h : s.hli.framer = .body kind tag bytes.length (bytes ++ [hi])) :
    receiveByte lo s = receiveFrame kind tag bytes (checkOf hi lo) s := by
  have htake : (bytes ++ [hi] ++ [lo]).take bytes.length = bytes := by simp
  have hcheck : bodyCheck bytes.length (bytes ++ [hi] ++ [lo]) = checkOf hi lo := by simp [bodyCheck]
  rw [receiveByte_body lo h, if_neg (by simp), htake, hcheck]

theorem judgeHeader_bad {s : State} {station kind tag length b : Byte}
    (h : crc8 [station, kind, tag, length] ≠ b ∨ 248 < length.toNat) :
    judgeHeader [station, kind, tag, length, b] s =
      setLink { s.hli with framer := rescan [station, kind, tag, length, b]
                           headerErrors := countUp 65535 s.hli.headerErrors } s := by
  refine if_neg fun ⟨hc, hl⟩ => ?_
  have hl' : length.toNat ≤ 248 := hl
  rcases h with h | h
  · exact h hc
  · omega

theorem judgeHeader_good {s : State} {station kind tag length b : Byte} (hc : crc8 [station, kind, tag, length] = b)
    (hl : length.toNat ≤ 248) :
    judgeHeader [station, kind, tag, length, b] s = goodHeader station kind tag length.toNat s := if_pos ⟨hc, hl⟩

theorem byte_eq_zero {b : Byte} : b.toNat = 0 ↔ b = 0 := ⟨fun h => BitVec.eq_of_toNat_eq h, fun h => by rw [h]; rfl⟩

theorem goodHeader_other {s : State} {station kind tag length : Byte} (h : station ≠ BitVec.ofNat 8 s.hli.station) :
    goodHeader station kind tag length.toNat s =
      setLink { s.hli with framer := if length = 0 then .hunt else .skip (length.toNat + 2) } s := by
  rw [goodHeader, if_pos h]
  simp only [byte_eq_zero]

theorem goodHeader_own {s : State} {station kind tag length : Byte} (h : station = BitVec.ofNat 8 s.hli.station) :
    goodHeader station kind tag length.toNat s =
      if length = 0 then receiveFrame kind tag [] 0 s
      else setLink { s.hli with framer := .body kind tag length.toNat [] } s := by
  rw [goodHeader, if_neg (not_not_intro h)]
  simp only [byte_eq_zero]

/-- Settles O12. -/
theorem framerStates : Obligations.FramerStates := by
  intro s b station kind tag length bytes left why hfree
  have hbyte : exec (.hostByteReceived b) s = .next (receiveByte b s) := awake_free _ hfree
  have herror : exec (.hostByteError why) s = .next (byteError why.backAtMark s) := awake_free _ hfree
  have hgap : exec .frameGapTimeout s = .next (frameGap s) := awake_free _ hfree
  have hframe : ∀ p c, exec (.hostFrameReceived kind tag p c) s = .next (receiveFrame kind tag p c s) :=
    fun p c => awake_free _ hfree
  rw [hbyte, herror, hgap]
  refine ⟨fun h => ?_, fun h hlen => ?_, fun h hbad => ?_, fun h hc hl hs => ?_, fun h hc hl hs h0 => ?_, fun h hc hs h0 => ?_,
    fun h => ?_, fun h hlen => ?_, fun h hlen => ?_, fun h hk => ⟨?_, ?_⟩, fun h => ?_, fun h hk => ?_, fun h => ?_⟩
  · rw [receiveByte_hunt b h]
    rfl
  · rw [receiveByte_header b h, if_pos hlen]
    rfl
  · rw [receiveByte_header b h]
    refine congrArg _ ((judgeHeader_bad hbad).trans ?_)
    rw [rescan_eq]
    rfl
  · rw [receiveByte_header b h]
    exact congrArg _ ((judgeHeader_good hc hl).trans (goodHeader_other (s := setLink { s.hli with inBreak := false } s) hs))
  · rw [receiveByte_header b h]
    exact congrArg _ ((judgeHeader_good hc hl).trans
      ((goodHeader_own (s := setLink { s.hli with inBreak := false } s) hs).trans (if_neg h0)))
  · rw [receiveByte_header b h, hframe]
    exact congrArg _ ((judgeHeader_good hc (by rw [h0]; decide)).trans
      ((goodHeader_own (s := setLink { s.hli with inBreak := false } s) hs).trans
        ((if_pos h0).trans (receiveFrame_link _ _ _ _ s.hli.framer false s))))
  · rw [receiveByte_skip b h]
    rfl
  · rw [receiveByte_body b h, if_pos hlen]
    rfl
  · rw [receiveByte_lastOfBody (hlen ▸ h), hframe]
  · rw [byteError_counts _ s (Or.inl hk), countByteError, h]
    exact congrArg (fun k => Host.Outcome.next { s with hli := { s.hli with framer := .hunt, inBreak := k } }) hk.symm
  · rw [frameGap, h]
    rfl
  · rw [frameGap, h]
  · have hcount : countByteError s =
        setLink { s.hli with framer := .hunt, inBreak := false, byteErrors := countUp 65535 s.hli.byteErrors } s := by
      rcases h with h | h | h <;> rw [countByteError, h]
    rw [byteError_counts _ s (Or.inl hk), hcount]
    exact congrArg (fun k => Host.Outcome.next { s with hli := { s.hli with
      framer := .hunt, inBreak := k, byteErrors := min 65535 (s.hli.byteErrors + 1) } }) hk.symm
  · rcases h with h | h <;> rw [frameGap, h] <;> rfl

/-! ### A frame byte by byte -/

theorem execAll_byte {s : State} (h : s.held = none) (b : Byte) (cs : List Instr) :
    execAll (.hostByteReceived b :: cs) s = execAll cs (receiveByte b s) := by
  rw [execAll, show exec (.hostByteReceived b) s = .next (receiveByte b s) from awake_free _ h]

/-- The part with its framer in a state, no break standing. -/
def framedAt (f : Framer) (s : State) : State := setLink { s.hli with framer := f, inBreak := false } s

/-- The bytes of a body, however many have been taken already (R161). -/
theorem execAll_body {kind tag : Byte} {n : Nat} (rest : List Byte) (got : List Byte) (s : State) (h : s.held = none)
    (hlen : got.length + rest.length = n + 2) (hrest : rest ≠ []) :
    execAll (rest.map .hostByteReceived) (framedAt (.body kind tag n got) s) =
      .next (receiveFrame kind tag ((got ++ rest).take n) (bodyCheck n (got ++ rest)) s) := by
  induction rest generalizing got with
  | nil => exact absurd rfl hrest
  | cons b rest ih =>
    rw [List.map_cons, execAll_byte (s := framedAt _ s) h, receiveByte_body b rfl]
    rw [List.length_cons] at hlen
    by_cases hlast : rest = []
    · subst hlast
      rw [List.length_nil] at hlen
      rw [if_neg (by omega)]
      exact congrArg _ (receiveFrame_link _ _ _ _ _ _ s)
    · have hpos : 0 < rest.length := List.length_pos_iff.mpr hlast
      have hmore := ih (got ++ [b]) (by rw [List.length_append, List.length_singleton]; omega) hlast
      rw [List.append_assoc, List.singleton_append] at hmore
      rw [if_pos (by omega)]
      exact hmore

theorem checkOf_checkBytes (c : BitVec 16) : checkOf ((c >>> 8).truncate 8) (c.truncate 8) = c := by
  ext i hi
  by_cases h : i < 8
  · simp [checkOf, h, BitVec.getLsbD_eq_getElem hi]
  · have hi8 : i - 8 < 8 := by omega
    have hback : 8 + (i - 8) = i := by omega
    simp [checkOf, h, hi8, hback, BitVec.getLsbD_eq_getElem hi]

theorem bodyCheck_append (p : List Byte) (hi lo : Byte) : bodyCheck p.length (p ++ [hi, lo]) = checkOf hi lo := by
  simp [bodyCheck]

theorem execAll_marker {s : State} (h : s.held = none) (hhunt : s.hli.framer = .hunt) (cs : List Instr) :
    execAll (.hostByteReceived 0xC3 :: cs) s = execAll cs (framedAt (.header []) s) := by
  rw [execAll_byte h, receiveByte_hunt _ hhunt]
  rfl

theorem execAll_headerByte {s : State} (h : s.held = none) {bytes : List Byte} (hlen : bytes.length < 4) (b : Byte)
    (cs : List Instr) :
    execAll (.hostByteReceived b :: cs) (framedAt (.header bytes) s) = execAll cs (framedAt (.header (bytes ++ [b])) s) := by
  rw [execAll_byte (s := framedAt _ s) h, receiveByte_header b rfl, if_pos hlen]
  rfl

/-- The first six bytes of a frame for this station bring the framer to its body, or complete the frame (R161). -/
theorem execAll_head {s : State} (h : s.held = none) (hhunt : s.hli.framer = .hunt) (kind tag length : Byte)
    (hlen : length.toNat ≤ 248) (cs : List Instr) :
    execAll (.hostByteReceived 0xC3 :: .hostByteReceived (BitVec.ofNat 8 s.hli.station) :: .hostByteReceived kind ::
        .hostByteReceived tag :: .hostByteReceived length ::
        .hostByteReceived (crc8 [BitVec.ofNat 8 s.hli.station, kind, tag, length]) :: cs) s =
      execAll cs (if length = 0 then receiveFrame kind tag [] 0 s else framedAt (.body kind tag length.toNat []) s) := by
  rw [execAll_marker h hhunt, execAll_headerByte h (by simp), execAll_headerByte h (by simp),
    execAll_headerByte h (by simp), execAll_headerByte h (by simp), execAll_byte (s := framedAt _ s) h,
    receiveByte_header _ rfl, if_neg (by simp)]
  refine congrArg (execAll cs) ((judgeHeader_good rfl hlen).trans ?_)
  exact (goodHeader_own (s := framedAt _ s) rfl)

/-- Settles O11. -/
theorem bytesMakeTheFrame : Obligations.BytesMakeTheFrame := by
  intro s kind tag payload hfree hhunt hlen
  have hframe : ∀ p c, exec (.hostFrameReceived kind tag p c) s = .next (receiveFrame kind tag p c s) :=
    fun p c => awake_free _ hfree
  have hlength : (BitVec.ofNat 8 payload.length).toNat = payload.length := by
    rw [BitVec.toNat_ofNat]
    omega
  rw [hframe]
  refine (execAll_head hfree hhunt kind tag (BitVec.ofNat 8 payload.length) (by rw [hlength]; exact hlen) _).trans ?_
  rw [hlength]
  cases payload with
  | nil => rfl
  | cons b rest =>
    have hne : BitVec.ofNat 8 (b :: rest).length ≠ 0 := fun e => by
      rw [e] at hlength
      cases hlength
    rw [if_neg hne]
    refine (execAll_body ((b :: rest) ++ checkBytes (crc16 (b :: rest))) [] s hfree ?_ ?_).trans ?_
    · simp [checkBytes]
    · simp
    · have htake : ([] ++ ((b :: rest) ++ checkBytes (crc16 (b :: rest)))).take (b :: rest).length = b :: rest := by simp
      have hcheck : bodyCheck (b :: rest).length ([] ++ ((b :: rest) ++ checkBytes (crc16 (b :: rest)))) =
          crc16 (b :: rest) := (bodyCheck_append (b :: rest) _ _).trans (checkOf_checkBytes _)
      rw [htake, hcheck]

/-! ### Breaks -/

theorem linkBroken_eq (s : State) :
    linkBroken s =
      { s with
        hli := { s.hli with framer := .hunt, inBreak := true, queue := [], reply := none, arm := none }
        store := { s.store with restart := if s.store.restart = .ackSending then .none else s.store.restart } } := by
  unfold linkBroken
  dsimp only [setLink]
  split <;> rfl

theorem linkBroken_fields (s : State) :
    (linkBroken s).held = s.held ∧ (linkBroken s).hli.inBreak = true ∧ (linkBroken s).hli.framer = .hunt ∧
      (linkBroken s).hli.byteErrors = s.hli.byteErrors ∧ linkBroken (linkBroken s) = linkBroken s := by
  have hrestart : ∀ r : RestartPhase, (if (if r = .ackSending then RestartPhase.none else r) = .ackSending then .none
      else if r = .ackSending then .none else r) = if r = .ackSending then RestartPhase.none else r := fun r => by
    cases r <;> rfl
  rw [linkBroken_eq (linkBroken s), linkBroken_eq s]
  exact ⟨rfl, rfl, rfl, rfl, congrArg (fun r => { s with
    hli := { s.hli with framer := .hunt, inBreak := true, queue := [], reply := none, arm := none }
    store := { s.store with restart := r } }) (hrestart s.store.restart)⟩

/-- Settles O13. -/
theorem linkBreakResetsTheLink : Obligations.LinkBreakResetsTheLink := by
  intro s b kind hfree
  obtain ⟨hheld, hbreak, hhunt, hcount, hagain⟩ := linkBroken_fields s
  have hfree' : (linkBroken s).held = none := hheld.trans hfree
  refine ⟨linkBroken s, awake_free _ hfree, linkBroken_eq s, ?_⟩
  generalize linkBroken s = t at hbreak hhunt hcount hagain hfree'
  have hgap : frameGap t = t := by rw [frameGap, hhunt]
  have hmark : byteError true t =
      { t with hli := { t.hli with inBreak := false, byteErrors := min 65535 (s.hli.byteErrors + 1) } } := by
    rw [byteError_counts true t (Or.inr rfl), countByteError, hhunt]
    dsimp only [setLink]
    rw [← hhunt, hcount]
    rfl
  exact ⟨(awake_free _ hfree').trans (congrArg _ (byteError_inBreak t hbreak)), (awake_free _ hfree').trans (congrArg _ hmark),
    (awake_free _ hfree').trans (congrArg _ hgap), (awake_free _ hfree').trans (congrArg _ hagain),
    (awake_free _ hfree').trans (awake_free (s := { t with hli := { t.hli with inBreak := false } }) (receiveByte b) hfree').symm⟩

/-! ### Refusals -/

theorem exec_frame (kind tag : Byte) (payload : List Byte) (check : BitVec 16) (s : State) :
    exec (.hostFrameReceived kind tag payload check) s = request kind tag (parseRequest kind payload check) s := rfl

theorem parseRequest_badCheck {kind : Byte} {payload : List Byte} {check : BitVec 16} (hne : payload ≠ [])
    (hbad : crc16 payload ≠ check) : parseRequest kind payload check = .badCheck := by
  have h : checkGood payload check = false := by simp [checkGood, hne, hbad]
  rw [parseRequest, h]
  rfl

theorem parseRequest_check {kind : Byte} {payload : List Byte} {check : BitVec 16} (h : payload = [] ∨ crc16 payload = check) :
    parseRequest kind payload check = bodyOfKind kind.toNat payload := by
  have hgood : checkGood payload check = true := by simpa [checkGood] using h
  rw [parseRequest, if_pos hgood]

theorem bodyOfKind_unknown {k : Nat} {p : List Byte} (hfixed : k ∉ fixedKinds.map Prod.fst) (hvar : k ∉ variableKinds) :
    bodyOfKind k p = .unknownKind := by
  unfold bodyOfKind
  split
  case h_21 | h_22 | h_30 => exact absurd (by decide) hvar
  case h_39 => rfl
  all_goals exact absurd (by decide) hfixed

section
variable {p : List Byte}

theorem bodyOfNone_badLength {b : RequestBody} (h : p.length ≠ 0) : bodyOfNone p b = .badLength := by
  rw [bodyOfNone, if_neg (by simpa using h)]

theorem bodyOfOne_badLength {f : Nat → RequestBody} (h : p.length ≠ 1) : bodyOfOne p f = .badLength := by
  unfold bodyOfOne
  split
  · exact absurd rfl h
  · rfl

theorem bodyOfTwo_badLength {f : Nat → Nat → RequestBody} (h : p.length ≠ 2) : bodyOfTwo p f = .badLength := by
  unfold bodyOfTwo
  split
  · exact absurd rfl h
  · rfl

theorem bodyOfSetParam_badLength (h : p.length ≠ 5) : bodyOfSetParam p = .badLength := by
  unfold bodyOfSetParam
  split
  · exact absurd rfl h
  · rfl

theorem bodyOfSetTray_badLength (h : p.length ≠ 15) : bodyOfSetTray p = .badLength := by
  unfold bodyOfSetTray
  split
  · exact absurd rfl h
  · rfl

theorem bodyOfSetBbu_badLength (h : p.length ≠ 11) : bodyOfSetBbu p = .badLength := by
  unfold bodyOfSetBbu
  split
  · exact absurd rfl h
  · rfl

end

theorem bodyOfKind_badLength {k : Nat} {p : List Byte} (hk : k ∈ fixedKinds.map Prod.fst) (hp : (k, p.length) ∉ fixedKinds) :
    bodyOfKind k p = .badLength := by
  have hlength : ∀ n, (k, n) ∈ fixedKinds → p.length ≠ n := fun n hn e => hp (e ▸ hn)
  unfold bodyOfKind
  split
  case h_1 | h_4 | h_5 | h_7 | h_8 | h_16 | h_18 | h_23 | h_24 | h_25 | h_26 | h_28 | h_34 | h_36 | h_37 | h_38 =>
    exact bodyOfNone_badLength (hlength 0 (by decide))
  case h_2 | h_6 | h_9 | h_12 | h_15 | h_19 | h_27 | h_29 | h_31 | h_32 | h_33 | h_35 =>
    exact bodyOfOne_badLength (hlength 1 (by decide))
  case h_3 | h_11 | h_14 | h_17 => exact bodyOfTwo_badLength (hlength 2 (by decide))
  case h_10 => exact bodyOfSetParam_badLength (hlength 5 (by decide))
  case h_13 => exact bodyOfSetTray_badLength (hlength 15 (by decide))
  case h_20 => exact bodyOfSetBbu_badLength (hlength 11 (by decide))
  case h_21 | h_22 | h_30 => exact absurd hk (by decide)
  case h_39 => simp_all [fixedKinds]

/-- Settles O15. -/
theorem genericRefusals : Obligations.GenericRefusals := by
  intro s kind tag payload check hready
  rw [exec_frame]
  refine ⟨fun hne hbad => ?_, fun hgood hfixed hvar => ?_, fun hgood hfixed hlen => ?_⟩
  · rw [parseRequest_badCheck hne hbad]
    exact request_of_answer hready rfl
  · rw [parseRequest_check hgood, bodyOfKind_unknown hfixed hvar]
    exact request_of_answer hready rfl
  · rw [parseRequest_check hgood, bodyOfKind_badLength hfixed hlen]
    exact request_of_answer hready rfl

/-! ### Replies -/

/-- Settles O16. -/
theorem replySentTakesTheNext : Obligations.ReplySentTakesTheNext := by
  intro s r hfree
  have hexec : exec .replySent s = .next (replyGone s) := awake_free _ hfree
  rw [hexec]
  refine ⟨fun hnone => ?_, fun hreply hlen hrestart => ?_, fun hreply htail hrestart => ?_, fun hreply hrestart => ?_⟩
  · rw [replyGone, hnone]
  all_goals
    obtain ⟨y, hy⟩ := Option.ne_none_iff_exists'.mp hreply
    unfold replyGone
    simp only [hy]
  · have htail : s.hli.queue.tail = [] := List.length_eq_zero_iff.mp (by rw [List.length_tail]; omega)
    simp only [setLink, hrestart, htail, takeRequest]
  · simp only [setLink, hrestart, htail]
    refine ⟨_, rfl, ?_, ?_⟩
    · rw [takeRequest_cons r [] _ rfl]
      exact answerBody_queue _ _ _
    · rw [takeRequest_cons r [] _ rfl]
      exact beq_self_eq_true r.tag
  · cases hr : s.store.restart with
    | none => exact absurd hr hrestart
    | ackSending => simp only [setLink, hr]
    | due =>
      simp only [setLink, hr]
      rw [← hr]

/-- Settles O17. -/
theorem armAndRestart : Obligations.ArmAndRestart := by
  intro s tag target channel hready
  refine ⟨fun h => ?_, fun h hc => ?_, fun h => ?_, fun h => ?_, fun h hsave => ?_, fun h hsave => ?_⟩
  · subst h
    exact request_of_answer hready rfl
  · subst h
    have h := request_of_answer (tag := tag) (kind := 0x03) (body := .arm 1 channel) hready (if_pos ⟨rfl, hc⟩)
    exact h
  · refine request_of_answer hready ?_
    simp only [answerBody, answerArm]
    rw [if_neg (by omega), if_neg (by omega)]
    rfl
  · refine request_of_answer hready ?_
    simp only [answerBody, answerRestart]
    rw [if_pos h]
    rfl
  · refine request_of_answer hready ?_
    simp only [answerBody, answerRestart, h, ne_eq, not_true_eq_false, if_false]
    exact if_pos (saveInFlight_of_ne s hsave)
  · refine request_of_answer hready ?_
    simp only [answerBody, answerRestart, h, ne_eq, not_true_eq_false, if_false]
    exact if_neg (Bool.eq_false_iff.mp (saveInFlight_of_none s hsave))

theorem post_eq (k : NoticeKind) (x v : Option Nat) (s : State) :
    post k x v s = { s with notices := (post k x v s).notices } := by
  unfold post
  split <;> rfl

theorem post_tray (k : NoticeKind) (x v : Option Nat) (s : State) (i : TrayId) : (post k x v s).trays[i] = s.trays[i] := by
  unfold post
  split <;> rfl

/-- A notice posted is the next one held, when there is room (R170). -/
theorem noticeNext_post {k : NoticeKind} {x v : Option Nat} {s u : State} (h : u.notices = s.notices) (ht : u.time = s.time) :
    NoticeNext { kind := k, subject := x, value := v, time := s.time } s (post k x v u) := by
  intro hroom
  rw [← h] at hroom ⊢
  rw [← ht]
  rw [post_room hroom]
  exact List.prefix_refl _

theorem hostSilent_some {s : State} (h : s.hli.silence ≠ none) :
    hostSilent s =
      post .hostSilent none (some (manualCount s))
        { s with trays := Vector.ofFn fun i => { s.trays[i] with owner := .auto }, hli := { s.hli with silence := none } } := by
  obtain ⟨y, hy⟩ := Option.ne_none_iff_exists'.mp h
  rw [hostSilent, hy]

/-- Settles O18. -/
theorem hostSilence : Obligations.HostSilence := by
  intro s hfree
  have hexec : exec .hostSilenceExpiry s = .next (hostSilent s) := awake_free _ hfree
  rw [hexec]
  refine ⟨fun hnone => by rw [hostSilent, hnone], fun hsome => ⟨_, congrArg _ (hostSilent_some hsome), ?_, fun i => ?_, fun hroom => ?_⟩⟩
  · rw [post_trays]
    exact post_eq _ _ _ _
  · rw [post_tray]
    exact Vector.getElem_ofFn _
  · exact noticeNext_post (by rfl) (by rfl) hroom

end Sys2Proof.Machine
end

section
/-! PROOFS. The status reports (R125, R167, R172, R174, R175), the profile save (R176, R177). -/
namespace Sys2Proof.Machine

/-! ### Payloads in the words of their layouts -/

theorem bitSum_four (a b c d : Bool) : bitSum [a, b, c, d] = a.toNat + 2 * b.toNat + 4 * c.toNat + 8 * d.toNat := by
  simp only [bitSum, List.foldr]
  omega

theorem bitSum_five (a b c d e : Bool) :
    bitSum [a, b, c, d, e] = a.toNat + 2 * b.toNat + 4 * c.toNat + 8 * d.toNat + 16 * e.toNat := by
  simp only [bitSum, List.foldr]
  omega

theorem activeQueue_length (r : RunRecord) :
    (activeQueue r).length = if r.direction = .up then r.startQueue.length else r.stopQueue.length := by
  unfold activeQueue
  cases r.direction <;> rfl

theorem escalatedLoops_eq (s : State) :
    (allLoops.map fun l => s.loops[l].escalated) =
      [s.loops[0].escalated, s.loops[1].escalated, s.loops[2].escalated, s.loops[3].escalated] := by
  have hall : allLoops = [0, 1, 2, 3] := by decide
  simp only [hall, List.map_cons, List.map_nil, Fin.getElem_fin]
  rfl

theorem shelfStatusPayload_eq (s : State) :
    shelfStatusPayload s =
      le8 (shelfStateCode s.ilc.state) ++ le8 s.ilc.stage ++ le16 s.tEst ++ le32 s.reserve ++
        le16 s.budget.c ++ le32 s.kT ++ le32 s.kLive ++ le16 s.grantTotal ++
        le8 (redundancyCode s.redundancy) ++ le8 (directionCode s.run.direction) ++
        le8 (runStateCode s.run.state) ++ le8 ((s.run.blocked.map blockedCode).getD 0xFF) ++
        le8 (if s.run.direction = .up then s.run.startQueue.length else s.run.stopQueue.length) ++
        le8 (allTrays.filter fun i => s.trays[i].state == .inrush).length ++
        le8 (allChannels.filter fun c => s.channels[c].state == .alarm).length ++
        le8 (s.loops[0].escalated.toNat + 2 * s.loops[1].escalated.toNat + 4 * s.loops[2].escalated.toNat +
          8 * s.loops[3].escalated.toNat) ++
        le8 s.notices.records.length ++ le8 s.notices.lost ++ le8 (resetKindCode s.store.lastReset) ++
        le8 s.store.warmCount ++
        le8 (s.mbc.rosterReady.toNat + 2 * s.store.valid.toNat + 4 * s.store.saving.isSome.toNat) := by
  unfold shelfStatusPayload
  rw [escalatedLoops_eq, bitSum_four, bitSum_three, activeQueue_length]
  simp only [optByte]
  have hinrush : (allTrays.filter fun i => s.trays[i].state == .inrush).length = s.inrushCount := rfl
  have halarm : (allChannels.filter fun c => s.channels[c].state == .alarm).length = alarmCount s := rfl
  rw [hinrush, halarm]
  rfl

theorem rectBytes_eq (s : State) (r : RectId) :
    rectBytes s r =
      le8 (rectStateCode s.rects[r].state) ++
        le8 (s.rects[r].inService.toNat + 2 * (s.rects[r].telemetry.any (·.inputPresent)).toNat +
          4 * (s.rects[r].telemetry.any (·.outputOn)).toNat +
          8 * s.mbc.slots[rectSlotNo r].announced.toNat + 16 * s.rects[r].telemetry.isSome.toNat) ++
        le16 ((s.rects[r].telemetry.map (·.output)).getD 0xFFFF) ++
        le16 ((s.rects[r].telemetry.map (·.rated)).getD 0xFFFF) ++
        le8 ((s.rects[r].telemetry.map (·.tempClass)).getD 0xFF) ++
        le8 ((s.rects[r].telemetry.map fun x => rectFaultCode x.fault).getD 0xFF) ++
        le16 s.rects[r].usablePower ++ le8 s.mbc.slots[rectSlotNo r].missCount := by
  have hflag : ∀ f : RectTelemetry → Bool, (s.rects[r].telemetry.map f).getD false = s.rects[r].telemetry.any f := fun f => by
    cases s.rects[r].telemetry <;> rfl
  simp only [rectBytes, bitSum_five, hflag]
  rfl

theorem bbuBytes_eq (s : State) (b : BbuId) :
    bbuBytes s b =
      le8 (bbuStateCode s.bbus[b].state) ++
        le8 (s.bbus[b].inService.toNat + 2 * s.bbus[b].seeded.toNat + 4 * s.bbus[b].permit.toNat) ++
        le8 s.mbc.slots[bbuSlotNo b].missCount ++ le32 (s.bbus[b].stored / 1000) ++ le32 s.bbus[b].eFull ++
        le32 (s.usable b) ++ leInt16 ((s.bbus[b].telemetry.map (·.power)).getD 0x7FFF) ++
        le8 ((s.bbus[b].telemetry.map (·.soc)).getD 0xFF) ++
        le8 ((s.bbus[b].telemetry.map (·.fullFlag.toNat)).getD 0xFF) ++
        le8 ((s.bbus[b].telemetry.map (·.cutoff.toNat)).getD 0xFF) ++
        leInt8 ((s.bbus[b].telemetry.map (·.cellTemp)).getD 0x7F) ++
        le8 ((s.bbus[b].telemetry.map fun x => bbuFaultCode x.fault).getD 0xFF) ++
        le16 s.bbus[b].grant ++ le16 s.bbus[b].testPower := by
  simp only [bbuBytes, bitSum_three]
  rfl

theorem loopBytes_eq (x : Loop) :
    loopBytes x =
      le8 (valveStateCode x.valve) ++
        le8 (x.drive.toNat + 2 * x.openSwitch.toNat + 4 * x.closedSwitch.toNat + 8 * x.escalated.toNat) ++
        le16 (x.travel.getD 0) := by
  rw [loopBytes, bitSum_four]
  rfl

theorem scopeBytes_length (s : State) : (scopeBytes s).length = 6 := by
  unfold scopeBytes
  cases s.run.scope <;> rfl

/-- The fields of GET-RUN-STATUS, its queue read off as numbers before they become bytes (R125). -/
theorem runStatusPayload_eq (s : State) :
    runStatusPayload s =
      le8 (directionCode s.run.direction) ++ le8 (runStateCode s.run.state) ++ scopeBytes s ++
        le8 ((s.run.blocked.map blockedCode).getD 0xFF) ++ le16 (s.run.startSpacing.getD 0) ++
        le16 (s.run.stopSpacing.getD 0) ++ le8 s.inrushCount ++ le8 (activeQueue s.run).length ++
        ((activeQueue s.run).flatMap fun i => le8 i) ++ trayBits s.run.members ++ le8 s.run.stoppedCount := by
  have hqueue : ((activeQueue s.run).flatMap fun i => le8 i) = (activeQueue s.run).flatMap fun i => le8 i.val := by
    simp only [List.bind_eq_flatMap, List.pure_def, List.flatMap_assoc, List.flatMap_singleton]
  rw [hqueue]
  rfl

/-- The counters are cleared on a part whose link is otherwise the asked one. -/
theorem answerGetLinkStatus_asked (tag : Byte) (clear : Nat) (s : State) :
    answerGetLinkStatus clear s.hli.arm (asked ⟨0x02, tag, .getLinkStatus clear⟩ s) =
      (.data
          (le16 s.hli.headerErrors ++ le16 s.hli.payloadErrors ++ le16 s.hli.byteErrors ++ le16 s.hli.timeouts ++
            le16 s.hli.overruns ++ le8 s.hli.station ++ le8 (rateCode s.hli.rate) ++ le16 s.params.hostSilence ++
            le16 ((silenceStart s.params.hostSilence).getD 0 / 1000) ++ le8 s.hli.arm.isSome.toNat),
        asked ⟨0x02, tag, .getLinkStatus clear⟩
          (if clear = 0 then s
           else { s with hli := { s.hli with
              headerErrors := 0, payloadErrors := 0, byteErrors := 0, timeouts := 0, overruns := 0 } })) := by
  by_cases h : clear = 0
  · subst h
    rfl
  · have hyes : yes clear = true := bne_iff_ne.mpr h
    simp only [answerGetLinkStatus, answerData, hyes, if_true, if_neg h]
    rfl

/-- Settles O20. -/
theorem statusReports : Obligations.StatusReports := by
  intro s tag clear hready
  refine ⟨?_, ?_, ?_, ?_, ?_, ?_, scopeBytes_length s, request_of_answer hready (answerGetLinkStatus_asked tag clear s)⟩
  · rw [← shelfStatusPayload_eq]
    exact request_of_answer hready rfl
  · simp only [← rectBytes_eq]
    exact request_of_answer hready rfl
  · simp only [← bbuBytes_eq]
    exact request_of_answer hready rfl
  · simp only [← loopBytes_eq]
    exact request_of_answer hready rfl
  · exact request_of_answer hready rfl
  · rw [← runStatusPayload_eq]
    exact request_of_answer hready rfl

/-! ### The profile save -/

/-- The end of a save: the image is held and valid where it compared equal, and the end is told (R177). -/
theorem endSave_eq {s : State} {img : StoredImage} (how : SaveOutcome) (h : s.store.saving = some img) :
    endSave how s =
      post (if how = .equal then .profileSaved else .profileSaveFailed) none none
        { s with store := { s.store with
            saving := none
            image := if how = .equal then some img else s.store.image
            valid := if how = .equal then true else s.store.valid } } := by
  rw [endSave, h]
  cases how <;> rfl

/-- Settles O24. -/
theorem profileSave : Obligations.ProfileSave := by
  intro s tag img how
  refine ⟨fun hready hsave => ?_, fun hready hsave => ?_, fun hfree hnone => ?_, fun hfree hsome => ?_⟩
  · exact request_of_answer hready (if_pos (saveInFlight_of_ne s hsave))
  · exact request_of_answer hready (if_neg (Bool.eq_false_iff.mp (saveInFlight_of_none s hsave)))
  · refine (awake_free _ hfree).trans (congrArg _ ?_)
    rw [endSave, hnone]
  · refine ⟨_, (awake_free _ hfree).trans (congrArg _ (endSave_eq how hsome)), post_eq _ _ _ _, ?_⟩
    exact noticeNext_post (by rfl) (by rfl)

end Sys2Proof.Machine
end

section
/-! PROOFS. Shelf capacity (R46), the distribution of the charge grants (R49, R83, R85) and the bus cycle (R30, R33 to R35,
R39). -/
namespace Sys2Proof.Machine

/-! ### Shelf capacity -/

theorem usablePower_notSourcing {x : RectSlot} (h : x.state ≠ .sourcing) : x.usablePower = 0 := by
  unfold RectSlot.usablePower
  split
  · next hs _ => exact absurd hs h
  · rfl

/-- A sum over some members is the sum over all, if the others give nothing. -/
theorem sum_filter_of_zero {α : Type} (p : α → Bool) (f : α → Nat) (l : List α) (h : ∀ x ∈ l, p x = false → f x = 0) :
    ((l.filter p).map f).sum = (l.map f).sum := by
  induction l with
  | nil => rfl
  | cons x l ih =>
    have hrest := ih fun y hy => h y (List.mem_cons_of_mem x hy)
    rw [List.map_cons, List.sum_cons, List.filter_cons]
    cases hp : p x with
    | true => rw [if_pos rfl, List.map_cons, List.sum_cons, hrest]
    | false => rw [if_neg Bool.false_ne_true, hrest, h x List.mem_cons_self hp, Nat.zero_add]

theorem mem_allRects (r : RectId) : r ∈ allRects := List.mem_finRange r

theorem mem_sourcing {rects : Vector RectSlot 6} {r : RectId} : r ∈ sourcing rects ↔ rects[r].state = .sourcing := by
  simp only [sourcing, List.mem_filter, mem_allRects, true_and, beq_iff_eq]

theorem sourcing_nodup (rects : Vector RectSlot 6) : (sourcing rects).Nodup := (List.nodup_finRange 6).filter _

theorem capacityOf_n (rects : Vector RectSlot 6) :
    capacityOf .n rects = (sourcingPowers rects).sum ∧
      capacityOf .n rects = (allRects.map fun q => rects[q].usablePower).sum := by
  have hsum : capacityOf .n rects = (sourcingPowers rects).sum := by
    rw [capacityOf, if_neg fun h => Policy.noConfusion h.1]
  refine ⟨hsum, hsum.trans (sum_filter_of_zero _ _ allRects fun q _ hq => usablePower_notSourcing ?_)⟩
  simpa using hq

/-- The largest member of a list that holds a greatest one. -/
theorem foldr_max_eq {l : List Nat} {m : Nat} (hm : m ∈ l) (h : ∀ x ∈ l, x ≤ m) : l.foldr max 0 = m := by
  refine le_antisymm ?_ ?_
  · clear hm
    induction l with
    | nil => exact Nat.zero_le m
    | cons x l ih => exact max_le (h x List.mem_cons_self) (ih fun y hy => h y (List.mem_cons_of_mem x hy))
  · clear h
    induction l with
    | nil => cases hm
    | cons x l ih =>
      rcases List.mem_cons.mp hm with rfl | hm
      · exact le_max_left _ _
      · exact (ih hm).trans (le_max_right _ _)

/-- Settles O38. -/
theorem shelfCapacity : Obligations.ShelfCapacity := by
  intro rects r
  refine ⟨(capacityOf_n rects).2, fun hnone => ?_, fun hone => ?_, fun htwo hr hmax => ?_⟩
  · have hempty : sourcing rects = [] := List.eq_nil_iff_forall_not_mem.mpr fun q hq => hnone q (mem_sourcing.mp hq)
    simp [capacityOf, sourcingPowers, hempty]
  · have honly : sourcing rects = [r] := by
      refine List.perm_singleton.mp ((List.perm_ext_iff_of_nodup (sourcing_nodup rects) (List.nodup_singleton r)).mpr fun q => ?_)
      rw [mem_sourcing, hone q, List.mem_singleton]
    simp [capacityOf, sourcingPowers, honly]
  · have hlen : 2 ≤ (sourcingPowers rects).length := by rwa [sourcingPowers, List.length_map]
    have hmem : rects[r].usablePower ∈ sourcingPowers rects := List.mem_map.mpr ⟨r, mem_sourcing.mpr hr, rfl⟩
    have hlargest : (sourcingPowers rects).foldr max 0 = rects[r].usablePower := foldr_max_eq hmem fun x hx => by
      obtain ⟨q, -, rfl⟩ := List.mem_map.mp hx
      exact hmax q
    have hplus : capacityOf .nPlus1 rects = (sourcingPowers rects).sum - (sourcingPowers rects).foldr max 0 := if_pos ⟨rfl, hlen⟩
    rw [hplus, hlargest, (capacityOf_n rects).1]
    exact Nat.sub_add_cancel (List.single_le_sum (fun _ _ => Nat.zero_le _) _ hmem)

/-! ### The grants in their order -/

section
variable {bbus : Vector Bbu 6}

theorem grantFor_head (x : BbuId) (l : List BbuId) (n : Nat) : grantFor bbus x (x :: l) n = min bbus[x].maxCharge n := if_pos rfl

theorem grantFor_tail {b x : BbuId} (h : x ≠ b) (l : List BbuId) (n : Nat) :
    grantFor bbus b (x :: l) n = grantFor bbus b l (n - min bbus[x].maxCharge n) := if_neg h

theorem grantFor_le_max (b : BbuId) (l : List BbuId) (n : Nat) : grantFor bbus b l n ≤ bbus[b].maxCharge := by
  induction l generalizing n with
  | nil => exact Nat.zero_le _
  | cons x l ih =>
    by_cases h : x = b
    · subst h
      exact grantFor_head x l n ▸ Nat.min_le_left _ _
    · exact grantFor_tail h l n ▸ ih _

theorem grantFor_of_not_mem {b : BbuId} {l : List BbuId} (h : b ∉ l) (n : Nat) : grantFor bbus b l n = 0 := by
  induction l generalizing n with
  | nil => rfl
  | cons x l ih =>
    obtain ⟨hx, hl⟩ := not_or.mp fun hm => h (List.mem_cons.mpr hm)
    rw [grantFor_tail (fun e => hx e.symm)]
    exact ih hl _

/-- All grants together are at most what there is to grant. -/
theorem sum_grantFor_le (l m : List BbuId) (hm : m.Nodup) (n : Nat) : (m.map fun b => grantFor bbus b l n).sum ≤ n := by
  induction l generalizing m n with
  | nil => simp [grantFor]
  | cons x l ih =>
    have hrest : ∀ k : List BbuId, x ∉ k → (k.map fun b => grantFor bbus b (x :: l) n) =
        k.map fun b => grantFor bbus b l (n - min bbus[x].maxCharge n) := fun k hk =>
      List.map_congr_left fun b hb => grantFor_tail (fun e : x = b => hk (e ▸ hb)) l n
    by_cases hx : x ∈ m
    · have hnot : x ∉ m.erase x := fun h => (hm.mem_erase_iff.mp h).1 rfl
      have hsum := ih (m.erase x) (hm.erase x) (n - min bbus[x].maxCharge n)
      rw [((List.perm_cons_erase hx).map _).sum_eq, List.map_cons, List.sum_cons, grantFor_head, hrest _ hnot]
      have hle : min bbus[x].maxCharge n ≤ n := Nat.min_le_right _ _
      omega
    · rw [hrest m hx]
      exact (ih m hm _).trans (Nat.sub_le _ _)

/-- A unit gets the smaller of its maximum and what the units before it leave. -/
theorem grantFor_of_mem {b : BbuId} {l : List BbuId} (hl : l.Nodup) (hb : b ∈ l) (n : Nat) :
    grantFor bbus b l n =
      min bbus[b].maxCharge (n - ((l.takeWhile fun c => c != b).map fun c => grantFor bbus c l n).sum) := by
  induction l generalizing n with
  | nil => cases hb
  | cons x l ih =>
    obtain ⟨hx, hl⟩ := List.nodup_cons.mp hl
    by_cases h : x = b
    · subst h
      rw [grantFor_head, List.takeWhile_cons_of_neg (by simp)]
      rfl
    · have hmem : b ∈ l := (List.mem_cons.mp hb).resolve_left fun e => h e.symm
      have hbefore : ((l.takeWhile fun c => c != b).map fun c => grantFor bbus c (x :: l) n) =
          (l.takeWhile fun c => c != b).map fun c => grantFor bbus c l (n - min bbus[x].maxCharge n) :=
        List.map_congr_left fun c hc => grantFor_tail (fun e : x = c => hx (e ▸ (List.takeWhile_subset _ hc))) l n
      rw [grantFor_tail h, ih hl hmem, List.takeWhile_cons_of_pos (by simpa using h), List.map_cons, List.sum_cons,
        grantFor_head, hbefore, Nat.sub_sub]

/-- A unit is filled before a later one gets anything. -/
theorem grantFor_full {a b : BbuId} {l : List BbuId} (hl : l.Nodup) (ha : a ∈ l.takeWhile fun c => c != b) (n : Nat)
    (hpos : 0 < grantFor bbus b l n) : grantFor bbus a l n = bbus[a].maxCharge := by
  induction l generalizing n with
  | nil => cases ha
  | cons x l ih =>
    obtain ⟨hx, hl⟩ := List.nodup_cons.mp hl
    by_cases h : x = b
    · subst h
      rw [List.takeWhile_cons_of_neg (by simp)] at ha
      cases ha
    · rw [List.takeWhile_cons_of_pos (by simpa using h), List.mem_cons] at ha
      rw [grantFor_tail h] at hpos
      rcases ha with rfl | ha
      · have hleft : n - min bbus[a].maxCharge n ≠ 0 := fun h0 => by
          rw [h0, grantFor_zero] at hpos
          exact lt_irrefl 0 hpos
        rw [grantFor_head]
        omega
      · have hax : x ≠ a := fun e => hx (e ▸ List.takeWhile_subset _ ha)
        rw [grantFor_tail hax]
        exact ih hl ha _ hpos

end

/-- The members before one of an ordered list. -/
theorem takeWhile_eq_filter {α : Type} [DecidableEq α] {before : α → α → Bool} {r : α → α → Prop}
    (hiff : ∀ a b, before a b = true ↔ r a b) (hasymm : ∀ a b, r a b → ¬ r b a) {b : α} {l : List α} (hl : l.Pairwise r)
    (hb : b ∈ l) : (l.takeWhile fun c => c != b) = l.filter fun c => before c b := by
  induction l with
  | nil => cases hb
  | cons x l ih =>
    obtain ⟨hx, hl⟩ := List.pairwise_cons.mp hl
    by_cases h : x = b
    · subst h
      have hnone : ((x :: l).filter fun c => before c x) = [] := List.filter_eq_nil_iff.mpr fun c hc hbc => by
        have hr := (hiff c x).mp hbc
        rcases List.mem_cons.mp hc with rfl | hc
        · exact hasymm _ _ hr hr
        · exact hasymm _ _ hr (hx c hc)
      rw [hnone, List.takeWhile_cons_of_neg (by simp)]
    · have hmem : b ∈ l := (List.mem_cons.mp hb).resolve_left fun e => h e.symm
      rw [List.takeWhile_cons_of_pos (by simpa using h), ih hl hmem, List.filter_cons_of_pos (p := fun c => before c b) ((hiff x b).mpr (hx b hmem))]

/-- A unit comes before another in the distribution: emptier, and at one ratio the lower slot (R85). -/
abbrev GrantsFirst (s : State) (a b : BbuId) : Prop :=
  s.bbus[a].stored * s.bbus[b].eFull < s.bbus[b].stored * s.bbus[a].eFull ∨
    (s.bbus[a].stored * s.bbus[b].eFull = s.bbus[b].stored * s.bbus[a].eFull ∧ a < b)

/-- The unit's stored energy over its full energy. -/
def fillRatio (u : Bbu) : ℚ := u.stored / u.eFull

theorem grantsFirst_iff {s : State} (hfull : ∀ c : BbuId, 0 < s.bbus[c].eFull) (a b : BbuId) :
    GrantsFirst s a b ↔ fillRatio s.bbus[a] < fillRatio s.bbus[b] ∨ (fillRatio s.bbus[a] = fillRatio s.bbus[b] ∧ a < b) := by
  have ha : (0 : ℚ) < s.bbus[a].eFull := Nat.cast_pos.mpr (hfull a)
  have hb : (0 : ℚ) < s.bbus[b].eFull := Nat.cast_pos.mpr (hfull b)
  rw [fillRatio, fillRatio, div_lt_div_iff₀ ha hb, div_eq_div_iff ha.ne' hb.ne']
  exact_mod_cast Iff.rfl

theorem grantsBefore_strict {s : State} (hfull : ∀ c : BbuId, 0 < s.bbus[c].eFull) :
    StrictBefore (grantsBefore s.bbus) (GrantsFirst s) where
  iff := fun a b => by simp [grantsBefore, GrantsFirst]
  trans := fun a b c hab hbc => by
    rw [grantsFirst_iff hfull] at *
    rcases hab with hab | ⟨hab, hi⟩ <;> rcases hbc with hbc | ⟨hbc, hj⟩
    · exact Or.inl (hab.trans hbc)
    · exact Or.inl (hbc ▸ hab)
    · exact Or.inl (hab ▸ hbc)
    · exact Or.inr ⟨hab.trans hbc, hi.trans hj⟩
  connex := fun a b hne => by
    rw [grantsFirst_iff hfull, grantsFirst_iff hfull]
    rcases lt_trichotomy (fillRatio s.bbus[a]) (fillRatio s.bbus[b]) with h | h | h
    · exact Or.inl (Or.inl h)
    · rcases lt_or_gt_of_ne hne with hab | hab
      · exact Or.inl (Or.inr ⟨h, hab⟩)
      · exact Or.inr (Or.inr ⟨h.symm, hab⟩)
    · exact Or.inr (Or.inl h)

theorem GrantsFirst.asymm {s : State} {a b : BbuId} (h : GrantsFirst s a b) : ¬ GrantsFirst s b a := by
  rintro (h' | ⟨he, hlt⟩) <;> rcases h with h | ⟨he', hlt'⟩
  · exact lt_asymm h h'
  · exact lt_irrefl _ (he' ▸ h')
  · exact lt_irrefl _ (he ▸ h)
  · exact lt_asymm hlt hlt'

theorem mem_allBbus (b : BbuId) : b ∈ allBbus := List.mem_finRange b

theorem allBbus_nodup : allBbus.Nodup := List.nodup_finRange 6

theorem mem_grantOrder {s : State} {b : BbuId} : b ∈ grantOrder s ↔ grantEligible s b = true := by
  rw [grantOrder, mem_ordered, List.mem_filter, and_iff_right (mem_allBbus b)]

theorem grantOrder_nodup (s : State) : (grantOrder s).Nodup := nodup_ordered _ (allBbus_nodup.filter _)

theorem recomputeGrants_grant (s : State) (b : BbuId) :
    (recomputeGrants s).bbus[b].grant = grantFor s.bbus b (grantOrder s) s.grantAvail :=
  congrArg Bbu.grant (recomputeGrants_get b s)

theorem grantEligible_iff (s : State) (a : BbuId) :
    grantEligible s a = true ↔
      s.bbus[a].state = .charging ∧ s.bbus[a].inService = true ∧ s.bbus[a].awaitsCharging = false ∧
      ¬ (s.test.target = some a ∧ s.test.phase = .discharge) := by
  simp only [grantEligible, Bool.and_eq_true, Bool.not_eq_true', beq_iff_eq, and_assoc, Bool.and_eq_false_iff, beq_eq_false_iff_ne,
    not_and_or]

theorem grantTotal_le (s : State) : (recomputeGrants s).grantTotal ≤ s.grantAvail := by
  rw [State.grantTotal, List.map_congr_left fun b _ => recomputeGrants_grant s b]
  exact sum_grantFor_le _ _ allBbus_nodup _

/-- The units before one in the distribution, with their grants. -/
theorem sum_before_eq {s : State} (hfull : ∀ c : BbuId, 0 < s.bbus[c].eFull) {a : BbuId} (ha : grantEligible s a = true) :
    (((grantOrder s).takeWhile fun c => c != a).map fun c => grantFor s.bbus c (grantOrder s) s.grantAvail).sum =
      ((allBbus.filter fun c => grantEligible s c && decide (GrantsFirst s c a)).map
        fun c => (recomputeGrants s).bbus[c].grant).sum := by
  have hstrict := grantsBefore_strict hfull
  have hpair : (grantOrder s).Pairwise (GrantsFirst s) := pairwise_ordered hstrict (allBbus_nodup.filter _)
  rw [takeWhile_eq_filter hstrict.iff (fun _ _ h => h.asymm) hpair (mem_grantOrder.mpr ha),
    List.map_congr_left fun b _ => recomputeGrants_grant s b]
  refine (List.Perm.map _ ?_).sum_eq
  refine (List.perm_ext_iff_of_nodup ((grantOrder_nodup s).filter _) (allBbus_nodup.filter _)).mpr fun c => ?_
  simp only [List.mem_filter, mem_grantOrder, mem_allBbus, true_and, Bool.and_eq_true, decide_eq_true_eq, hstrict.iff]

/-- Settles O44. -/
theorem grantDistribution : Obligations.GrantDistribution := by
  intro s a b
  have havail : s.grantAvail ≤ s.budget.c - (s.params.margin + s.kT) := by
    rw [State.grantAvail]
    split
    · exact le_refl _
    · exact Nat.zero_le _
  refine ⟨fun c => by rw [recomputeGrants_get], rfl, fun hout => ?_, (grantTotal_le s).trans havail, ?_, fun hnot => ?_,
    grantEligible_iff s a, fun hn hfull ha => ?_, fun ha hb hfirst hfull hpos => ?_⟩
  · have h := grantTotal_le s
    rw [State.grantAvail, if_neg hout] at h
    exact Nat.le_zero.mp h
  · rw [recomputeGrants_grant]
    exact grantFor_le_max _ _ _
  · rw [recomputeGrants_grant]
    refine grantFor_of_not_mem (fun hm => ?_) _
    obtain ⟨hc, hs, hw, ht⟩ := (grantEligible_iff s a).mp (mem_grantOrder.mp hm)
    rcases hnot with h | h | h | h
    · exact h hc
    · exact Bool.false_ne_true (h.symm.trans hs)
    · exact Bool.false_ne_true (hw.symm.trans h)
    · exact ht h
  · rw [recomputeGrants_grant, grantFor_of_mem (grantOrder_nodup s) (mem_grantOrder.mpr ha), sum_before_eq hfull ha,
      State.grantAvail, if_pos hn]
  · have hstrict := grantsBefore_strict hfull
    have hpair : (grantOrder s).Pairwise (GrantsFirst s) := pairwise_ordered hstrict (allBbus_nodup.filter _)
    rw [recomputeGrants_grant] at hpos ⊢
    refine grantFor_full (grantOrder_nodup s) ?_ _ hpos
    rw [takeWhile_eq_filter hstrict.iff (fun _ _ h => h.asymm) hpair (mem_grantOrder.mpr hb), List.mem_filter]
    exact ⟨mem_grantOrder.mpr ha, (hstrict.iff a b).mpr hfirst⟩

/-! ### What an automatic run touches -/

/-- Nothing outside the tray side has changed, the auto-start mark aside. -/
def RackSide (s t : State) : Prop :=
  TraySideOnly { s with store := { s.store with autoPending := t.store.autoPending } } t

theorem RackSide.of_side {s t : State} (h : TraySideOnly s t) : RackSide s t := by
  rw [RackSide, h.store]
  exact h

theorem RackSide.trans {s t u : State} (h : RackSide s t) (k : RackSide t u) : RackSide s u where
  time := k.time.trans h.time
  pins := k.pins.trans h.pins
  mbc := k.mbc.trans h.mbc
  rects := k.rects.trans h.rects
  bbus := fun b => (k.bbus b).trans (h.bbus b)
  capacity := k.capacity.trans h.capacity
  floorEff := k.floorEff.trans h.floorEff
  ilc := k.ilc.trans h.ilc
  channels := k.channels.trans h.channels
  loops := k.loops.trans h.loops
  stagedScan := k.stagedScan.trans h.stagedScan
  nextScan := k.nextScan.trans h.nextScan
  test := k.test.trans h.test
  hli := k.hli.trans h.hli
  store := by rw [k.store, h.store]
  params := k.params.trans h.params
  held := k.held.trans h.held
  freeCount := k.freeCount.trans h.freeCount
  pending := k.pending.trans h.pending

/-- The rest of the state comes from the first of the two. -/
theorem RackSide.eq_withRackOf {s t : State} (h : RackSide s t) : t = withRackOf s t := by
  unfold RackSide at h
  have htime := h.time
  have hpins := h.pins
  have hmbc := h.mbc
  have hrects := h.rects
  have hilc := h.ilc
  have hchannels := h.channels
  have hloops := h.loops
  have hstagedScan := h.stagedScan
  have hnextScan := h.nextScan
  have htest := h.test
  have hhli := h.hli
  have hstore := h.store
  have hparams := h.params
  have hheld := h.held
  have hfree := h.freeCount
  have hpending := h.pending
  simp only at htime hpins hmbc hrects hilc hchannels hloops hstagedScan hnextScan htest hhli hparams hheld hfree hpending
  simp only [withRackOf, ← htime, ← hpins, ← hmbc, ← hrects, ← hilc, ← hchannels, ← hloops, ← hstagedScan, ← hnextScan, ← htest,
    ← hhli, ← hparams, ← hheld, ← hfree, ← hpending]
  exact congrArg (fun x => { t with store := x }) hstore

theorem RackSide.grantsOnly {s t : State} (h : RackSide s t) : GrantsOnly s t := h.bbus

/-- Taking the rack in hand touches the tray side and the auto-start mark. -/
theorem createUp_side (scope : Scope) (l : List TrayId) (s : State) : RackSide s (createUp scope l s) := by
  have h := (joinAll_side l _).trans (evalStart_side
    (joinAll l { s with
      run := { s.run with direction := .up, state := .running, scope := scope, startQueue := [], stopQueue := [], members := [],
                          blocked := none }
      store := { s.store with autoPending := false } }))
  refine RackSide.trans (t := { s with store := { s.store with autoPending := false } }) (TraySideOnly.refl _) (.of_side ?_)
  exact (run_side _ _).trans h

theorem autoStartTest_side (s : State) : RackSide s (autoStartTest s) := by
  unfold autoStartTest
  split
  · exact createUp_side _ _ s
  · exact .of_side (.refl s)

theorem afterRoster_side (s0 s : State) : RackSide s (afterRoster s0 s) := by
  unfold afterRoster
  split
  · exact autoStartTest_side s
  · exact .of_side (.refl s)

/-- A step that has not made the roster ready has nothing to test. -/
theorem afterRoster_id {s0 s : State} (h : s.mbc.rosterReady = true → s0.mbc.rosterReady = true) : afterRoster s0 s = s := by
  refine if_neg fun hb => ?_
  obtain ⟨h1, h2⟩ := Bool.and_eq_true_iff.mp hb
  rw [h h1] at h2
  exact Bool.noConfusion h2

/-! ### The bus cycle -/

theorem busCycle_free {s : State} (h : s.mbc.poll = none) : busCycle s = afterRoster s (startCycle s) := by
  rw [busCycle, h]
  rfl

theorem slotOwner_rectSlotNo (r : RectId) : slotOwner (rectSlotNo r) = .inl r := by
  revert r
  decide

theorem slotOwner_bbuSlotNo (b : BbuId) : slotOwner (bbuSlotNo b) = .inr b := by
  revert b
  decide

theorem slotStation_rectSlotNo (r : RectId) : slotStation (rectSlotNo r) = BitVec.ofNat 8 (0x10 + r.val) := by
  revert r
  decide

theorem slotStation_bbuSlotNo (b : BbuId) : slotStation (bbuSlotNo b) = BitVec.ofNat 8 (0x20 + b.val) := by
  revert b
  decide

theorem pollKind_rectSlotNo (r : RectId) : pollKind (rectSlotNo r) = 0x60 := by
  revert r
  decide

theorem pollKind_bbuSlotNo (b : BbuId) : pollKind (bbuSlotNo b) = 0x61 := by
  revert b
  decide

theorem leBool_eq (x : Bool) : leBool x = le8 x.toNat := by
  cases x <;> rfl

theorem startCycle_cons {s : State} {k : SlotId} {rest : List SlotId} (h : presentSlots s = k :: rest) :
    startCycle s =
      { s with
        params := { s.params with period := s.mbc.stagedPeriod.getD s.params.period }
        mbc :=
          { s.mbc with
            schedule := rest
            poll := some { slot := k, tag := s.mbc.tag, payload := pollPayload s k, inService := slotInService s k, window := 3 }
            driver := false, framer := .hunt, tag := s.mbc.tag + 1, stagedPeriod := none
            nextCycle := s.time + s.mbc.stagedPeriod.getD s.params.period } } := by
  rw [startCycle_eq, cycleBus, h]
  rfl

theorem startCycle_nil {s : State} (h : presentSlots s = []) :
    startCycle s =
      { s with
        params := { s.params with period := s.mbc.stagedPeriod.getD s.params.period }
        mbc :=
          { s.mbc with
            schedule := [], poll := none, framer := .hunt, stagedPeriod := none, rosterReady := true
            nextCycle := s.time + s.mbc.stagedPeriod.getD s.params.period } } := by
  rw [startCycle_eq, cycleBus, h]
  rfl

/-- Settles O36. -/
theorem busCycle_holds : Obligations.BusCycle := by
  intro s r b hfree
  refine ⟨fun hpoll => ?_, fun hpoll hne => ?_, fun hpoll hnil => ?_, fun k => ⟨rfl, rfl, rfl, rfl⟩⟩
  · exact (awake_free busCycle hfree).trans (congrArg _ (if_pos (Option.isSome_iff_ne_none.mpr hpoll)))
  · obtain ⟨k, rest, hslots⟩ := List.exists_cons_of_ne_nil hne
    have hstart := startCycle_cons hslots
    have hcycle : busCycle s = startCycle s :=
      (busCycle_free hpoll).trans (afterRoster_id (by rw [hstart]; exact id))
    refine ⟨_, (awake_free busCycle hfree).trans (congrArg _ (hcycle.trans hstart)), ?_⟩
    rw [hslots]
    refine ⟨rfl, rfl, rfl, rfl, fun hk => ?_, fun hk => ?_⟩
    · cases hk
      have hpayload : pollPayload s (rectSlotNo r) = le8 s.rects[r].inService.toNat := by
        simp only [pollPayload, slotOwner_rectSlotNo, leBool_eq]
      have hservice : slotInService s (rectSlotNo r) = s.rects[r].inService := by
        simp only [slotInService, slotOwner_rectSlotNo]
      simp only [Option.map_some, Poll.frame, hpayload, hservice, slotStation_rectSlotNo, pollKind_rectSlotNo, and_self]
    · cases hk
      have hpayload : pollPayload s (bbuSlotNo b) =
          le16 s.bbus[b].grant ++ le8 s.bbus[b].permit.toNat ++ le16 s.bbus[b].testPower := by
        simp only [pollPayload, slotOwner_bbuSlotNo, leBool_eq]
      have hservice : slotInService s (bbuSlotNo b) = s.bbus[b].inService := by
        simp only [slotInService, slotOwner_bbuSlotNo]
      simp only [Option.map_some, Poll.frame, hpayload, hservice, slotStation_bbuSlotNo, pollKind_bbuSlotNo, and_self]
  · have hside := afterRoster_side s (startCycle s)
    refine ⟨_, (awake_free busCycle hfree).trans (congrArg _ (busCycle_free hpoll)), ?_, ?_⟩
    · exact startCycle_nil hnil ▸ hside.eq_withRackOf
    · have hbbus : (startCycle s).bbus = s.bbus := by rw [startCycle_eq]
      exact fun c => (hside.grantsOnly c).trans (by rw [hbbus])

end Sys2Proof.Machine
end

section
/-! PROOFS. The valves (R139 to R143). -/
namespace Sys2Proof.Machine

theorem onLoop_val (l : LoopId) (f : LoopId → State → Answer × State) (s : State) : onLoop l f s = f l s := by
  simp [onLoop, loopOf]

theorem onLoop_badIndex {n : Nat} (hn : 4 ≤ n) (f : LoopId → State → Answer × State) (s : State) :
    onLoop n f s = refuse .badIndex s := by
  simp [onLoop, loopOf, Nat.not_lt.mpr hn]

/-- A post depends on the notices and the time base alone. -/
theorem post_frame {k : NoticeKind} {x v : Option Nat} {s t : State} (hn : t.notices = s.notices) (ht : t.time = s.time) :
    post k x v t = { t with notices := (post k x v s).notices } := by
  rw [post_eq]
  unfold post
  rw [hn, ht]
  split <;> rfl

/-- A notice is posted whatever request stands in the queue. -/
theorem post_asked (k : NoticeKind) (x v : Option Nat) (r : Request) (s : State) :
    post k x v (asked r s) = asked r (post k x v s) := by
  rw [post_eq k x v s]
  exact post_frame (by rfl) (by rfl)

theorem requiredClosed_iff_alarm (s : State) (l : LoopId) :
    requiredClosed s l = true ↔
      s.loops[l].escalated = true ∨
        ∃ c : ChannelId, s.channels[c].state = .alarm ∧ s.channels[c].cfg.loop = l ∧ s.channels[c].cfg.closeValve = true := by
  simp only [requiredClosed_iff, alarmOf, Bool.and_eq_true, beq_iff_eq, and_assoc]

/-! ### The commands -/

/-- A loop record stored over another. -/
theorem putLoop_putLoop (l : LoopId) (x y : Loop) (s : State) : putLoop l y (putLoop l x s) = putLoop l y s :=
  congrArg (fun v => { s with loops := v }) (Vector.set_set x l.isLt)

theorem valveReachesClosed_eq (l : LoopId) (s : State) :
    valveReachesClosed l s =
      { post .valveClosed (some l.val) none s with
        loops := s.loops.set l { s.loops[l] with valve := .closed, travel := none } } := by
  unfold valveReachesClosed
  rw [post_eq _ _ _ s]
  exact post_frame (by rfl) (by rfl)

/-- The loop record as an opening starts. -/
theorem startOpening_eq (l : LoopId) (s : State) :
    startOpening l s =
      { s with
        loops := s.loops.set l
          { s.loops[l] with
            drive := false
            valve := if s.loops[l].openSwitch then .opened else .opening
            travel := if s.loops[l].openSwitch then none else some (s.params.valveTravel * 1000) } } := by
  unfold startOpening
  cases hsw : s.loops[l].openSwitch with
  | false => exact if_neg (by rw [hsw]; exact Bool.false_ne_true)
  | true =>
    refine (if_pos hsw).trans ?_
    rw [valveReachesOpen, putLoop_putLoop, putLoop_get, if_pos rfl]
    rfl

/-- The loop record as a closing starts. -/
theorem startClosing_eq (l : LoopId) (s : State) :
    startClosing l s =
      { (if s.loops[l].closedSwitch then post .valveClosed (some l.val) none s else s) with
        loops := s.loops.set l
          { s.loops[l] with
            drive := true
            valve := if s.loops[l].closedSwitch then .closed else .closing
            travel := if s.loops[l].closedSwitch then none else some (s.params.valveTravel * 1000) } } := by
  unfold startClosing
  cases hsw : s.loops[l].closedSwitch with
  | false => exact if_neg (by rw [hsw]; exact Bool.false_ne_true)
  | true =>
    refine (if_pos hsw).trans ?_
    rw [valveReachesClosed, putLoop_putLoop, putLoop_get, if_pos rfl, if_pos rfl, post_eq _ _ _ s]
    exact post_frame (by rfl) (by rfl)

theorem openCommand_there {l : LoopId} {s : State} (h : s.loops[l].valve = .opened ∨ s.loops[l].valve = .opening) :
    openCommand l s = s := by
  unfold openCommand
  rcases h with h | h <;> rw [h]

theorem openCommand_moves {l : LoopId} {s : State}
    (h : s.loops[l].valve = .closed ∨ s.loops[l].valve = .closing ∨ s.loops[l].valve = .stuck) :
    openCommand l s = startOpening l s := by
  unfold openCommand
  rcases h with h | h | h <;> rw [h]

theorem closeCommand_there {l : LoopId} {s : State} (h : s.loops[l].valve = .closed ∨ s.loops[l].valve = .closing) :
    closeCommand l s = s := by
  unfold closeCommand
  rcases h with h | h <;> rw [h]

theorem closeCommand_moves {l : LoopId} {s : State}
    (h : s.loops[l].valve = .opened ∨ s.loops[l].valve = .opening ∨ s.loops[l].valve = .stuck) :
    closeCommand l s = startClosing l s := by
  unfold closeCommand
  rcases h with h | h | h <;> rw [h]

/-- The command that opens a valve touches no field of the link, and reads none. -/
theorem openCommand_asked (l : LoopId) (r : Request) (s : State) : openCommand l (asked r s) = asked r (openCommand l s) := by
  by_cases hthere : s.loops[l].valve = .opened ∨ s.loops[l].valve = .opening
  · rw [openCommand_there hthere]
    exact openCommand_there hthere
  · have hmoves : s.loops[l].valve = .closed ∨ s.loops[l].valve = .closing ∨ s.loops[l].valve = .stuck := by
      cases hv : s.loops[l].valve <;> simp [-Fin.getElem_fin, hv] at hthere ⊢
    rw [openCommand_moves hmoves, openCommand_moves (s := asked r s) hmoves, startOpening_eq, startOpening_eq]
    rfl

theorem startClosing_asked (l : LoopId) (r : Request) (s : State) : startClosing l (asked r s) = asked r (startClosing l s) := by
  have hsw : (asked r s).loops[l].closedSwitch = s.loops[l].closedSwitch := rfl
  rw [startClosing_eq, startClosing_eq, hsw, post_asked]
  cases s.loops[l].closedSwitch <;> rfl

/-- Nor does the command that closes it. -/
theorem closeCommand_asked (l : LoopId) (r : Request) (s : State) :
    closeCommand l (asked r s) = asked r (closeCommand l s) := by
  by_cases hthere : s.loops[l].valve = .closed ∨ s.loops[l].valve = .closing
  · rw [closeCommand_there hthere]
    exact closeCommand_there hthere
  · have hmoves : s.loops[l].valve = .opened ∨ s.loops[l].valve = .opening ∨ s.loops[l].valve = .stuck := by
      cases hv : s.loops[l].valve <;> simp [-Fin.getElem_fin, hv] at hthere ⊢
    rw [closeCommand_moves hmoves, closeCommand_moves (s := asked r s) hmoves, startClosing_asked]

/-! ### The end switches and the travel timer -/

/-- The pins and the loop record after a switch edge that is recorded. -/
theorem recordSwitch_closed (l : LoopId) (made : Bool) (s : State) :
    recordSwitch l .closed made (setSwitchPin l .closed made s) =
      { s with
        pins := { s.pins with closedSwitch := s.pins.closedSwitch.set l made }
        loops := s.loops.set l { s.loops[l] with closedSwitch := made } } := rfl

theorem recordSwitch_opened (l : LoopId) (made : Bool) (s : State) :
    recordSwitch l .opened made (setSwitchPin l .opened made s) =
      { s with
        pins := { s.pins with openSwitch := s.pins.openSwitch.set l made }
        loops := s.loops.set l { s.loops[l] with openSwitch := made } } := rfl

theorem switchEdge_closed (l : LoopId) (made : Bool) (s : State) :
    switchEdge l .closed made (setSwitchPin l .closed made s) =
      if made = true ∧ (s.loops[l].valve = .closing ∨ (s.loops[l].valve = .stuck ∧ s.loops[l].drive = true)) then
        { post .valveClosed (some l.val) none s with
          pins := { s.pins with closedSwitch := s.pins.closedSwitch.set l true }
          loops := s.loops.set l { s.loops[l] with closedSwitch := true, valve := .closed, travel := none } }
      else
        { s with
          pins := { s.pins with closedSwitch := s.pins.closedSwitch.set l made }
          loops := s.loops.set l { s.loops[l] with closedSwitch := made } } := by
  cases made with
  | false => rfl
  | true =>
    have hx : (recordSwitch l .closed true (setSwitchPin l .closed true s)).loops[l] =
        { s.loops[l] with closedSwitch := true } := (vector_set_get _ _ _ _).trans (if_pos rfl)
    unfold switchEdge
    simp only [if_true, true_and, hx]
    by_cases hmoves : s.loops[l].valve = .closing ∨ (s.loops[l].valve = .stuck ∧ s.loops[l].drive = true)
    · rw [if_pos hmoves, if_pos hmoves, valveReachesClosed, hx, recordSwitch, putLoop_putLoop, post_eq _ _ _ s]
      exact post_frame (by rfl) (by rfl)
    · rw [if_neg hmoves, if_neg hmoves]
      rfl

theorem switchEdge_opened (l : LoopId) (made : Bool) (s : State) :
    switchEdge l .opened made (setSwitchPin l .opened made s) =
      if made = true ∧ (s.loops[l].valve = .opening ∨ (s.loops[l].valve = .stuck ∧ s.loops[l].drive = false)) then
        { s with
          pins := { s.pins with openSwitch := s.pins.openSwitch.set l true }
          loops := s.loops.set l { s.loops[l] with openSwitch := true, valve := .opened, travel := none } }
      else
        { s with
          pins := { s.pins with openSwitch := s.pins.openSwitch.set l made }
          loops := s.loops.set l { s.loops[l] with openSwitch := made } } := by
  cases made with
  | false => rfl
  | true =>
    have hx : (recordSwitch l .opened true (setSwitchPin l .opened true s)).loops[l] =
        { s.loops[l] with openSwitch := true } := (vector_set_get _ _ _ _).trans (if_pos rfl)
    unfold switchEdge
    simp only [if_true, true_and, hx]
    by_cases hmoves : s.loops[l].valve = .opening ∨ (s.loops[l].valve = .stuck ∧ s.loops[l].drive = false)
    · rw [if_pos hmoves, if_pos hmoves, valveReachesOpen, hx, recordSwitch, putLoop_putLoop]
      rfl
    · rw [if_neg hmoves, if_neg hmoves]
      rfl

theorem travelExpires_moving {l : LoopId} {s : State} (h : s.loops[l].valve = .closing ∨ s.loops[l].valve = .opening) :
    travelExpires l s =
      { post .valveStuck (some l.val) (some (if s.loops[l].valve = .closing then 0 else 1)) s with
        loops := s.loops.set l { s.loops[l] with valve := .stuck, travel := none } } := by
  unfold travelExpires
  rcases h with h | h
  · simp only [h, if_true]
    rw [post_eq _ _ _ s]
    exact post_frame (by rfl) (by rfl)
  · simp only [h, reduceCtorEq, if_false]
    rw [post_eq _ _ _ s]
    exact post_frame (by rfl) (by rfl)

/-! ### The answers -/

theorem answerValveOpen_badIndex {n : Nat} (hn : 4 ≤ n) (s : State) : answerValveOpen n s = refuse .badIndex s :=
  onLoop_badIndex hn _ s

theorem answerValveClose_badIndex {n : Nat} (hn : 4 ≤ n) (s : State) : answerValveClose n s = refuse .badIndex s :=
  onLoop_badIndex hn _ s

theorem answerValveOpen_required {l : LoopId} {s : State} (h : requiredClosed s l = true) (r : Request) :
    answerValveOpen l (asked r s) = refuse .leakActive (asked r s) :=
  (onLoop_val l _ _).trans (if_pos h)

theorem answerValveOpen_free {l : LoopId} {s : State} (h : requiredClosed s l = false) (r : Request) :
    answerValveOpen l (asked r s) = ack (asked r (openCommand l s)) :=
  (onLoop_val l _ _).trans ((if_neg (Bool.eq_false_iff.mp h)).trans (congrArg ack (openCommand_asked l r s)))

theorem answerValveClose_val (l : LoopId) (r : Request) (s : State) :
    answerValveClose l (asked r s) = ack (asked r (closeCommand l s)) :=
  (onLoop_val l _ _).trans (congrArg ack (closeCommand_asked l r s))

/-- Settles O54. -/
theorem valves : Obligations.Valves := by
  intro s tag n l made
  refine ⟨fun hready hn => ⟨?_, ?_⟩, fun hready hclosed => ?_, fun hready hesc halarm => ?_, fun hready hthere => ?_,
    fun hready hmoves => ?_, fun hfree => ?_, fun hfree => ?_, fun hfree htravel hmoves => ?_, fun hfree htravel => ?_⟩
  · exact request_of_answer hready (answerValveOpen_badIndex hn _)
  · exact request_of_answer hready (answerValveClose_badIndex hn _)
  · exact request_of_answer hready (answerValveOpen_required ((requiredClosed_iff_alarm s l).mpr hclosed) _)
  · have hopen : requiredClosed s l = false := Bool.eq_false_iff.mpr fun h => by
      rcases (requiredClosed_iff_alarm s l).mp h with h | ⟨c, h⟩
      · exact Bool.false_ne_true (hesc.symm.trans h)
      · exact halarm c h
    have hanswer := request_of_answer (tag := tag) (kind := 0x34) (body := .valveOpen l) hready (answerValveOpen_free hopen _)
    refine ⟨fun hthere => ?_, fun hmoves => ?_⟩
    · rw [openCommand_there hthere] at hanswer
      exact hanswer
    · rw [openCommand_moves hmoves, startOpening_eq] at hanswer
      exact hanswer
  · have hanswer := request_of_answer (tag := tag) (kind := 0x35) (body := .valveClose l) hready (answerValveClose_val l _ s)
    rw [closeCommand_there hthere] at hanswer
    exact hanswer
  · have hanswer := request_of_answer (tag := tag) (kind := 0x35) (body := .valveClose l) hready (answerValveClose_val l _ s)
    rw [closeCommand_moves hmoves, startClosing_eq] at hanswer
    exact hanswer
  · exact (awake_free (switchEdge l .closed made) (s := setSwitchPin l .closed made s) hfree).trans
      (congrArg _ (switchEdge_closed l made s))
  · exact (awake_free (switchEdge l .opened made) (s := setSwitchPin l .opened made s) hfree).trans
      (congrArg _ (switchEdge_opened l made s))
  · exact (awake_free _ hfree).trans (congrArg _ ((if_pos (Option.isSome_iff_ne_none.mpr htravel)).trans (travelExpires_moving hmoves)))
  · exact (awake_free _ hfree).trans (congrArg _ (if_neg (by rw [htravel]; exact Bool.false_ne_true)))

end Sys2Proof.Machine
end

section
/-! PROOFS. The requests of the battery test and its prepare timer (R147, R149, R150, R154 to R157). -/
namespace Sys2Proof.Machine

theorem recomputeGrants_bbus (s : State) : recomputeGrants s = { s with bbus := (recomputeGrants s).bbus } := rfl

theorem clearTestPower_target {s : State} {b : BbuId} (h : s.test.target = some b) :
    clearTestPower s = { s with bbus := s.bbus.set b { s.bbus[b] with testPower := 0 } } := by
  rw [clearTestPower, h]
  rfl

theorem testActive_iff (s : State) :
    s.testActive = true ↔ s.test.phase = .prepare ∨ s.test.phase = .discharge ∨ s.test.phase = .recharge := by
  simp only [State.testActive, Bool.or_eq_true, beq_iff_eq, or_assoc]

/-! ### The end of a test -/

/-- A test that ends early, before its notice. -/
def withTestEnded (why : AbortReason) (b : BbuId) (s : State) : State :=
  { s with test := abortedTest why s.test, bbus := s.bbus.set b { s.bbus[b] with testPower := 0 } }

theorem targetSlot_target {s : State} {b : BbuId} (h : s.test.target = some b) : s.targetSlot = some (6 + b.val) := by
  rw [State.targetSlot, h]
  exact congrArg some (Nat.add_comm b.val 6)

theorem abortTest_active {why : AbortReason} {b : BbuId} {s : State} (ha : s.testActive = true) (hb : s.test.target = some b) :
    abortTest why s =
      post .testDone (some (6 + b.val)) (some (testOutcomeCode (.aborted why)))
        (if s.test.phase = .discharge then recomputeGrants (withTestEnded why b s) else withTestEnded why b s) := by
  unfold abortTest
  rw [if_pos ha, targetSlot_target hb, clearTestPower_target hb]
  rfl

/-- What is left of the record of a unit that has its test power set to 0, the grant aside. -/
theorem abortTest_outcome {why : AbortReason} {b : BbuId} {s : State} (ha : s.testActive = true) (hb : s.test.target = some b) :
    abortTest why s =
        { s with test := (abortTest why s).test, bbus := (abortTest why s).bbus, notices := (abortTest why s).notices } ∧
      (abortTest why s).test = abortedTest why s.test ∧
      (∀ c : BbuId, { (abortTest why s).bbus[c] with grant := 0 } =
        { s.bbus[c] with grant := 0, testPower := if c = b then 0 else s.bbus[c].testPower }) ∧
      NoticeNext
        { kind := .testDone, subject := some (6 + b.val), value := some (testOutcomeCode (.aborted why)), time := s.time }
        s (abortTest why s) := by
  have hended : ∀ c : BbuId, { (withTestEnded why b s).bbus[c] with grant := 0 } =
      { s.bbus[c] with grant := 0, testPower := if c = b then 0 else s.bbus[c].testPower } := fun c => by
    have hget : (withTestEnded why b s).bbus[c] = if b = c then { s.bbus[b] with testPower := 0 } else s.bbus[c] :=
      vector_set_get _ _ _ _
    rw [hget]
    by_cases hc : b = c
    · subst hc
      rw [if_pos rfl, if_pos rfl]
    · rw [if_neg hc, if_neg fun e => hc e.symm]
  rw [abortTest_active ha hb]
  by_cases hp : s.test.phase = .discharge
  · rw [if_pos hp]
    refine ⟨?_, ?_, fun c => ?_, noticeNext_post (by rfl) (by rfl)⟩
    · rw [post_eq]
      rfl
    · rw [post_eq]
      rfl
    · rw [← hended c, post_eq]
      exact (recomputeGrants_side _).bbus c
  · rw [if_neg hp]
    refine ⟨?_, ?_, fun c => ?_, noticeNext_post (by rfl) (by rfl)⟩
    · rw [post_eq]
      rfl
    · rw [post_eq]
      rfl
    · rw [← hended c, post_eq]

/-! ### The discharge -/

theorem enterDischarge_bbus (b c : BbuId) (s : State) :
    { (enterDischarge b s).bbus[c] with grant := 0 } =
      { s.bbus[c] with grant := 0, testPower := if c = b then s.test.testPower else s.bbus[c].testPower } := by
  refine ((recomputeGrants_side _).bbus c).trans ?_
  rw [setTestPower, putBbu_get]
  by_cases hc : b = c
  · subst hc
    rw [if_pos rfl, if_pos rfl]
  · rw [if_neg hc, if_neg fun e => hc e.symm]

theorem enterDischarge_frame (b : BbuId) (s : State) :
    enterDischarge b s = { s with
      test := { s.test with phase := .discharge, prepare := .stopped, eMeas := 0 }, bbus := (enterDischarge b s).bbus } := rfl

theorem prepareCheck_full {b : BbuId} {s : State} (h : s.bbus[b].state = .full) (hs : s.test.suspended = false) :
    prepareCheck b s = enterDischarge b s := if_pos ⟨h, hs⟩

theorem prepareCheck_notFull {b : BbuId} {s : State} (h : s.bbus[b].state ≠ .full) : prepareCheck b s = s :=
  if_neg fun hf => h hf.1

/-! ### The answers -/

theorem answerTestStart_badIndex {n : Nat} (hn : 6 ≤ n) (s : State) : answerTestStart n s = refuse .badIndex s :=
  onBbu_badIndex hn _ s

theorem answerTestStart_wrongState {b : BbuId} {s : State}
    (h : s.testActive = true ∨ s.ilc.state ≠ .normal ∨ s.bbus[b].inService = false ∨
      (s.bbus[b].state ≠ .charging ∧ s.bbus[b].state ≠ .full)) :
    answerTestStart b s = refuse .wrongState s := by
  rw [answerTestStart, onBbu_val]
  by_cases ha : s.testActive = true
  · exact if_pos ha
  · refine (if_neg ha).trans ?_
    by_cases hn : s.ilc.state = .normal
    · exact (if_neg (not_not_intro hn)).trans (if_pos ((h.resolve_left ha).resolve_left (not_not_intro hn)))
    · exact if_pos hn

theorem answerTestStart_able {b : BbuId} {s : State} (ha : s.testActive = false) (hn : s.ilc.state = .normal)
    (hs : s.bbus[b].inService = true) (hst : s.bbus[b].state = .charging ∨ s.bbus[b].state = .full) :
    answerTestStart b s =
      if s.params.readyMin ≠ 0 ∧ s.tProjWithout b < s.params.readyMin then refuse .noReserve s else ack (beginTest b s) := by
  rw [answerTestStart, onBbu_val]
  refine (if_neg (Bool.eq_false_iff.mp ha)).trans ((if_neg (not_not_intro hn)).trans (if_neg ?_))
  rintro (h | ⟨hc, hf⟩)
  · exact Bool.false_ne_true (h.symm.trans hs)
  · exact hst.elim hc hf

theorem answerTestSuspend_wrongState {s : State}
    (h : (s.test.phase ≠ .prepare ∧ s.test.phase ≠ .discharge) ∨ s.test.suspended = true) :
    answerTestSuspend s = refuse .wrongState s := by
  refine if_neg ?_
  rintro ⟨hp, hs⟩
  rcases h with ⟨h1, h2⟩ | h
  · exact hp.elim h1 h2
  · exact Bool.false_ne_true (hs.symm.trans h)

theorem answerTestSuspend_able {s : State} {b : BbuId} (hp : s.test.phase = .prepare ∨ s.test.phase = .discharge)
    (hs : s.test.suspended = false) (hb : s.test.target = some b) :
    answerTestSuspend s =
      ack { s with
        test := { s.test with suspended := true, prepare := pausePrepare s.test.prepare }
        bbus := s.bbus.set b { s.bbus[b] with testPower := 0 } } :=
  (if_pos ⟨hp, hs⟩).trans (congrArg ack (clearTestPower_target hb))

theorem resumeTest_prepare {s : State} {b : BbuId} (hb : s.test.target = some b) (hp : s.test.phase = .prepare) :
    resumeTest s =
      prepareCheck b { s with test := { s.test with suspended := false, prepare := unpausePrepare s.test.prepare } } := by
  unfold resumeTest
  rw [hb, hp]

theorem resumeTest_discharge {s : State} {b : BbuId} (hb : s.test.target = some b) (hp : s.test.phase = .discharge) :
    resumeTest s =
      { s with
        test := { s.test with suspended := false, prepare := unpausePrepare s.test.prepare }
        bbus := s.bbus.set b { s.bbus[b] with testPower := s.test.testPower } } := by
  unfold resumeTest
  rw [hb, hp]
  rfl

theorem resumeTest_full {s : State} {b : BbuId} (hb : s.test.target = some b) (hp : s.test.phase = .prepare)
    (hst : s.bbus[b].state = .full) :
    resumeTest s =
      enterDischarge b { s with test := { s.test with suspended := false, prepare := unpausePrepare s.test.prepare } } :=
  (resumeTest_prepare hb hp).trans (prepareCheck_full (by exact hst) (by rfl))

theorem prepareEnds_running {s : State} {left : Nat} (hp : s.test.phase = .prepare) (ht : s.test.prepare = .running left) :
    prepareEnds s = abortTest .prepareTimeout s := by
  unfold prepareEnds
  rw [hp, ht]

theorem prepareEnds_still {s : State} {left : Nat}
    (h : s.test.phase ≠ .prepare ∨ s.test.prepare = .stopped ∨ s.test.prepare = .paused left) : prepareEnds s = s := by
  unfold prepareEnds
  split
  · next hp ht =>
    rcases h with h | h | h
    · exact absurd hp h
    · cases ht.symm.trans h
    · cases ht.symm.trans h
  · rfl

/-- Settles O55. -/
theorem testCommands : Obligations.TestCommands := by
  intro s tag n b left _
  refine ⟨fun hready hn => ?_, fun hready h => ?_, fun hready ha hn hs => ⟨fun hst hmin hless => ?_, fun hleast => ⟨fun hst => ?_, fun hst => ?_⟩⟩,
    fun hready h => ?_, fun hready hp ht hs hb => ?_, fun hready hp ht hs hb => ?_, fun hready hs => ?_,
    fun hready hs hb hp ht => ⟨fun hst => ?_, fun hst => ?_⟩, fun hready hs hb hp ht => ?_, fun hready ha => ?_,
    fun hready ha hb => ?_, fun hfree hp ht hb => ?_, fun hfree h => ?_⟩
  · exact request_of_answer hready (answerTestStart_badIndex hn _)
  · exact request_of_answer hready (answerTestStart_wrongState (s := asked ⟨0x39, tag, .testStart b⟩ s) h)
  · exact request_of_answer hready
      ((answerTestStart_able (s := asked ⟨0x39, tag, .testStart b⟩ s) ha hn hs hst).trans (if_pos ⟨hmin, hless⟩))
  · exact request_of_answer hready
      ((answerTestStart_able (s := asked ⟨0x39, tag, .testStart b⟩ s) ha hn hs (Or.inl hst)).trans
        ((if_neg fun h => hleast.elim h.1 (Nat.not_le.mpr h.2)).trans
          (congrArg ack (prepareCheck_notFull fun hf => BbuState.noConfusion (hst.symm.trans hf)))))
  · refine ⟨_, request_of_answer hready
      ((answerTestStart_able (s := asked ⟨0x39, tag, .testStart b⟩ s) ha hn hs (Or.inr hst)).trans
        ((if_neg fun h => hleast.elim h.1 (Nat.not_le.mpr h.2)).trans
          (congrArg ack (prepareCheck_full (by exact hst) (by rfl))))), rfl, rfl, fun c => enterDischarge_bbus b c _⟩
  · exact request_of_answer hready (answerTestSuspend_wrongState (s := asked ⟨0x3A, tag, .testSuspend⟩ s) h)
  · have hanswer := answerTestSuspend_able (s := asked ⟨0x3A, tag, .testSuspend⟩ s) (Or.inl hp) hs hb
    have hpaused : pausePrepare s.test.prepare = .paused left := congrArg pausePrepare ht
    rw [← hpaused]
    exact request_of_answer hready hanswer
  · have hanswer := answerTestSuspend_able (s := asked ⟨0x3A, tag, .testSuspend⟩ s) (Or.inr hp) hs hb
    have hstopped : pausePrepare s.test.prepare = s.test.prepare := by rw [ht]; rfl
    have h := request_of_answer (kind := 0x3A) (tag := tag) (body := .testSuspend) hready hanswer
    exact h.trans (congrArg (fun p => Host.Outcome.next (acked ⟨0x3A, tag, .testSuspend⟩
      { s with test := { s.test with suspended := true, prepare := p }, bbus := s.bbus.set b { s.bbus[b] with testPower := 0 } }))
      hstopped)
  · exact request_of_answer hready (if_neg (Bool.eq_false_iff.mp hs))
  · have hrunning : PrepareTimer.running left = unpausePrepare s.test.prepare := (congrArg unpausePrepare ht).symm
    rw [hrunning]
    exact request_of_answer hready ((if_pos hs).trans (congrArg ack
      ((resumeTest_prepare (s := asked ⟨0x3B, tag, .testResume⟩ s) hb hp).trans (prepareCheck_notFull (by exact hst)))))
  · refine ⟨_, request_of_answer hready ((if_pos hs).trans (congrArg ack
      (resumeTest_full (s := asked ⟨0x3B, tag, .testResume⟩ s) hb hp hst))), rfl, rfl, ?_⟩
    have h := congrArg Bbu.testPower
      (enterDischarge_bbus b b { asked ⟨0x3B, tag, .testResume⟩ s with
        test := { s.test with suspended := false, prepare := unpausePrepare s.test.prepare } })
    exact h.trans (if_pos rfl)
  · have hstopped : unpausePrepare s.test.prepare = s.test.prepare := by rw [ht]; rfl
    have h := request_of_answer (kind := 0x3B) (tag := tag) (body := .testResume) hready ((if_pos hs).trans (congrArg ack
      (resumeTest_discharge (s := asked ⟨0x3B, tag, .testResume⟩ s) hb hp)))
    exact h.trans (congrArg (fun p => Host.Outcome.next (acked ⟨0x3B, tag, .testResume⟩
      { s with
        test := { s.test with suspended := false, prepare := p }
        bbus := s.bbus.set b { s.bbus[b] with testPower := s.test.testPower } })) hstopped)
  · exact request_of_answer hready (if_neg (Bool.eq_false_iff.mp ha))
  · obtain ⟨hframe, htest, hbbus, hnotice⟩ :=
      abortTest_outcome (why := .host) (s := asked ⟨0x3C, tag, .testAbort⟩ s) ha hb
    exact ⟨_, request_of_answer hready (if_pos ha), congrArg (replying ⟨0x3C, tag, .testAbort⟩ (.ack false false)) hframe, htest,
      hbbus, hnotice⟩
  · have ha : s.testActive = true := (testActive_iff s).mpr (Or.inl hp)
    obtain ⟨-, -, -, hnotice⟩ := abortTest_outcome (why := .prepareTimeout) ha hb
    refine ⟨_, (awake_free _ hfree).trans (congrArg _ (prepareEnds_running hp ht)), ?_, hnotice⟩
    have hphase : s.test.phase ≠ .discharge := fun h => TestPhase.noConfusion (hp.symm.trans h)
    rw [abortTest_active ha hb, if_neg hphase, post_eq]
    rfl
  · exact (awake_free _ hfree).trans (congrArg _ (prepareEnds_still h))

end Sys2Proof.Machine
end

section
/-! PROOFS. MODULE-SERVICE (R48, R49). -/
namespace Sys2Proof.Machine

theorem slotOf_rect (r : RectId) : slotOf r.val = some (rectSlotNo r) := by
  revert r
  decide

theorem slotOf_bbu (b : BbuId) : slotOf (6 + b.val) = some (bbuSlotNo b) := by
  revert b
  decide

theorem answerModuleService_badIndex {n v : Nat} (h : 12 ≤ n ∨ 2 ≤ v) (s : State) :
    answerModuleService n v s = refuse .badIndex s := by
  unfold answerModuleService
  split
  · rfl
  · next k hk =>
    have hn : n < 12 := by
      by_contra hn
      rw [slotOf, dif_neg hn] at hk
      cases hk
    exact if_pos (h.resolve_left (Nat.not_le.mpr hn))

theorem answerModuleService_rect (r : RectId) {v : Nat} (hv : v ≤ 1) (s : State) :
    answerModuleService r v s = serviceRect r (yes v) s := by
  unfold answerModuleService
  rw [slotOf_rect]
  dsimp only
  rw [if_neg (Nat.not_lt.mpr hv), slotOwner_rectSlotNo]

theorem answerModuleService_bbu (b : BbuId) {v : Nat} (hv : v ≤ 1) (s : State) :
    answerModuleService (6 + b.val) v s = serviceBbu b (yes v) s := by
  unfold answerModuleService
  rw [slotOf_bbu]
  dsimp only
  rw [if_neg (Nat.not_lt.mpr hv), slotOwner_bbuSlotNo]

theorem yes_toNat (x : Bool) : yes x.toNat = x := by
  cases x <;> rfl

/-! ### Rectifier slots -/

theorem serviceRect_in (r : RectId) (s : State) :
    serviceRect r true s = ack { s with rects := s.rects.set r { s.rects[r] with inService := true } } := rfl

theorem serviceRect_noBudget {r : RectId} {s : State} (hs : s.rects[r].inService = true) (hc : capacityWithout r s < s.kLive) :
    serviceRect r false s = refuse .noBudget s :=
  if_pos (by rw [hs, decide_eq_true hc]; rfl)

theorem serviceRect_out {r : RectId} {s : State} (h : s.rects[r].inService = false ∨ s.kLive ≤ capacityWithout r s) :
    serviceRect r false s = ack { s with rects := s.rects.set r { s.rects[r] with inService := false } } := by
  refine if_neg fun hcond => ?_
  obtain ⟨hs, hc⟩ := Bool.and_eq_true_iff.mp hcond
  have hs' : s.rects[r].inService = true := by simpa using hs
  rcases h with h | h
  · exact Bool.false_ne_true (h.symm.trans hs')
  · exact Nat.not_lt.mpr h (of_decide_eq_true hc)

/-! ### Battery slots -/

theorem serviceBbu_suspended {b : BbuId} {s : State} (h : s.isSuspendedTarget b = true) (inn : Bool) :
    serviceBbu b inn s = refuse .wrongState s := if_pos h

theorem serviceBbu_same {b : BbuId} {s : State} (h : s.isSuspendedTarget b = false) :
    serviceBbu b s.bbus[b].inService s = ack s :=
  (if_neg (Bool.eq_false_iff.mp h)).trans (if_pos rfl)

/-- A battery slot put out of service, before a test of it ends. -/
def putOut (b : BbuId) (s : State) : State :=
  recomputeGrants (putBbu b { s.bbus[b] with inService := false, permit := false, grant := 0 } s)

/-- A battery slot put out of service, with the end of its test. -/
def takenOut (b : BbuId) (s : State) : State := if s.isTarget b then abortTest .bbuLost (putOut b s) else putOut b s

/-- A battery slot put in service. -/
def putIn (b : BbuId) (s : State) : State :=
  recomputeGrants (putBbu b { s.bbus[b] with inService := true, permit := true, awaitsCharging := true } s)

theorem serviceBbu_out {b : BbuId} {s : State} (h : s.isSuspendedTarget b = false) (hs : s.bbus[b].inService = true) :
    serviceBbu b false s = ack (takenOut b s) :=
  (if_neg (Bool.eq_false_iff.mp h)).trans ((if_neg (by rw [hs]; exact Bool.noConfusion)).trans (if_neg Bool.false_ne_true))

theorem serviceBbu_in {b : BbuId} {s : State} (h : s.isSuspendedTarget b = false) (hs : s.bbus[b].inService = false) :
    serviceBbu b true s = ack (putIn b s) :=
  (if_neg (Bool.eq_false_iff.mp h)).trans ((if_neg (by rw [hs]; exact Bool.noConfusion)).trans (if_pos rfl))

theorem answerModuleService_out {b : BbuId} {s : State} (h : s.isSuspendedTarget b = false) (hs : s.bbus[b].inService = true) :
    answerModuleService (6 + b.val) 0 s = ack (takenOut b s) := by
  rw [answerModuleService_bbu b (Nat.zero_le 1) s]
  exact serviceBbu_out h hs

theorem answerModuleService_in {b : BbuId} {s : State} (h : s.isSuspendedTarget b = false) (hs : s.bbus[b].inService = false) :
    answerModuleService (6 + b.val) 1 s = ack (putIn b s) := by
  rw [answerModuleService_bbu b (le_refl 1) s]
  exact serviceBbu_in h hs

/-- A unit that may not charge has no grant after a distribution. -/
theorem recomputeGrants_ineligible {b : BbuId} {s : State} (h : grantEligible s b = false) :
    (recomputeGrants s).bbus[b] = { s.bbus[b] with grant := 0 } := by
  rw [recomputeGrants_get, grantFor_of_not_mem fun hm => Bool.false_ne_true (h.symm.trans (mem_grantOrder.mp hm))]

theorem grantEligible_outOfService {b : BbuId} {s : State} (h : s.bbus[b].inService = false) : grantEligible s b = false :=
  Bool.eq_false_iff.mpr fun he => Bool.false_ne_true (h.symm.trans ((grantEligible_iff s b).mp he).2.1)

theorem grantEligible_awaits {b : BbuId} {s : State} (h : s.bbus[b].awaitsCharging = true) : grantEligible s b = false :=
  Bool.eq_false_iff.mpr fun he => Bool.false_ne_true (((grantEligible_iff s b).mp he).2.2.1.symm.trans h)

/-- A unit without grant that is out of service stays so when the grants are distributed again. -/
theorem putOut_bbu (b : BbuId) (s : State) :
    (putOut b s).bbus[b] = { s.bbus[b] with inService := false, permit := false, grant := 0 } := by
  have hget : (putBbu b { s.bbus[b] with inService := false, permit := false, grant := 0 } s).bbus[b] =
      { s.bbus[b] with inService := false, permit := false, grant := 0 } := (putBbu_get _ _ _ _).trans (if_pos rfl)
  rw [putOut, recomputeGrants_ineligible (grantEligible_outOfService (by rw [hget])), hget]

theorem putIn_bbu (b : BbuId) (s : State) :
    (putIn b s).bbus[b] = { s.bbus[b] with inService := true, permit := true, awaitsCharging := true, grant := 0 } := by
  have hget : (putBbu b { s.bbus[b] with inService := true, permit := true, awaitsCharging := true } s).bbus[b] =
      { s.bbus[b] with inService := true, permit := true, awaitsCharging := true } := (putBbu_get _ _ _ _).trans (if_pos rfl)
  rw [putIn, recomputeGrants_ineligible (grantEligible_awaits (by rw [hget])), hget]

/-- The grants aside, a distribution after one record is stored changes no other record. -/
theorem grants_putBbu_other {b c : BbuId} (hc : c ≠ b) (u : Bbu) (s : State) :
    { (recomputeGrants (putBbu b u s)).bbus[c] with grant := 0 } = { s.bbus[c] with grant := 0 } := by
  refine ((recomputeGrants_side _).bbus c).trans ?_
  rw [putBbu_get, if_neg fun e => hc e.symm]

theorem putIn_other {b c : BbuId} (hc : c ≠ b) (s : State) :
    { (putIn b s).bbus[c] with grant := 0 } = { s.bbus[c] with grant := 0 } := grants_putBbu_other hc _ s

/-- The record of the unit whose test ends because it is out of service. -/
theorem abortTest_bbu {why : AbortReason} {b : BbuId} {s : State} (ha : s.testActive = true) (hb : s.test.target = some b)
    (hout : s.bbus[b].inService = false) (hgrant : s.bbus[b].grant = 0) :
    (abortTest why s).bbus[b] = { s.bbus[b] with testPower := 0 } := by
  have hget : (withTestEnded why b s).bbus[b] = { s.bbus[b] with testPower := 0 } :=
    (vector_set_get _ _ _ _).trans (if_pos rfl)
  rw [abortTest_active ha hb, post_eq]
  by_cases hp : s.test.phase = .discharge
  · rw [if_pos hp]
    refine (recomputeGrants_ineligible (grantEligible_outOfService ?_)).trans ?_
    · rw [hget]
      exact hout
    · rw [hget, ← hgrant]
  · rw [if_neg hp]
    exact hget

theorem isTarget_iff (s : State) (b : BbuId) : s.isTarget b = true ↔ s.testActive = true ∧ s.test.target = some b := by
  simp only [State.isTarget, Bool.and_eq_true, beq_iff_eq]

theorem takenOut_outcome (b : BbuId) (s : State) :
    takenOut b s =
        { s with bbus := (takenOut b s).bbus, test := (takenOut b s).test, notices := (takenOut b s).notices } ∧
      (∀ c : BbuId, c ≠ b → { (takenOut b s).bbus[c] with grant := 0 } = { s.bbus[c] with grant := 0 }) ∧
      { (takenOut b s).bbus[b] with testPower := 0 } =
        { s.bbus[b] with testPower := 0, inService := false, permit := false, grant := 0 } ∧
      (s.isTarget b = true → (takenOut b s).test.phase = .done ∧ (takenOut b s).test.outcome = some (.aborted .bbuLost) ∧
        (takenOut b s).bbus[b].testPower = 0) ∧
      (s.isTarget b = false → (takenOut b s).test = s.test ∧ (takenOut b s).notices = s.notices) := by
  have hout := putOut_bbu b s
  by_cases ht : s.isTarget b = true
  · obtain ⟨ha, hb⟩ := (isTarget_iff s b).mp ht
    obtain ⟨hframe, htest, hbbus, -⟩ := abortTest_outcome (why := .bbuLost) (s := putOut b s) ha hb
    have hrecord := abortTest_bbu (why := .bbuLost) (s := putOut b s) ha hb (by rw [hout]) (by rw [hout])
    rw [takenOut, if_pos ht]
    refine ⟨hframe, fun c hc => ?_, ?_, fun _ => ⟨?_, ?_, ?_⟩, fun h => Bool.noConfusion (ht.symm.trans h)⟩
    · refine (hbbus c).trans ?_
      rw [if_neg hc]
      exact grants_putBbu_other hc _ s
    · rw [hrecord, hout]
    · rw [htest]
      rfl
    · rw [htest]
      rfl
    · rw [hrecord]
  · rw [takenOut, if_neg ht]
    exact ⟨rfl, fun c hc => grants_putBbu_other hc _ s, by rw [hout], fun h => absurd h ht, fun _ => ⟨rfl, rfl⟩⟩

/-- Settles O42. -/
theorem moduleService : Obligations.ModuleService := by
  intro s tag n v r b hready
  refine ⟨fun h => ?_, ?_, fun hs hc => ?_, fun h => ?_, fun h hv => ?_, fun h hv => ?_, fun h hs => ?_, fun h hs => ?_⟩
  · exact request_of_answer hready (answerModuleService_badIndex h _)
  · exact request_of_answer hready (answerModuleService_rect r (le_refl 1) _)
  · exact request_of_answer hready
      ((answerModuleService_rect r (Nat.zero_le 1) _).trans (serviceRect_noBudget (by exact hs) (by exact hc)))
  · exact request_of_answer hready ((answerModuleService_rect r (Nat.zero_le 1) _).trans (serviceRect_out (by exact h)))
  · exact request_of_answer hready ((answerModuleService_bbu b hv _).trans (serviceBbu_suspended (by exact h) _))
  · subst hv
    refine request_of_answer hready ((answerModuleService_bbu b (Bool.toNat_le _) _).trans ?_)
    rw [yes_toNat]
    exact serviceBbu_same (s := asked ⟨0x19, tag, .moduleService (6 + b.val) s.bbus[b].inService.toNat⟩ s) h
  · obtain ⟨hframe, hothers, hrecord, htarget, hidle⟩ := takenOut_outcome b (asked ⟨0x19, tag, .moduleService (6 + b.val) 0⟩ s)
    have hanswer := request_of_answer (kind := 0x19) (tag := tag) (body := .moduleService (6 + b.val) 0) hready
      (answerModuleService_out (s := asked ⟨0x19, tag, .moduleService (6 + b.val) 0⟩ s) h hs)
    generalize takenOut b (asked ⟨0x19, tag, .moduleService (6 + b.val) 0⟩ s) = t at *
    exact ⟨_, hanswer, congrArg (replying ⟨0x19, tag, .moduleService (6 + b.val) 0⟩ (.ack false false)) hframe, hothers, hrecord,
      htarget, hidle⟩
  · have hrecord := putIn_bbu b (asked ⟨0x19, tag, .moduleService (6 + b.val) 1⟩ s)
    refine ⟨_, request_of_answer hready (answerModuleService_in (s := asked ⟨0x19, tag, .moduleService (6 + b.val) 1⟩ s) h hs), rfl,
      fun c hc => putIn_other hc _, ?_, congrArg Bbu.grant hrecord, rfl, rfl⟩
    exact congrArg (fun x : Bbu => { x with grant := 0 }) hrecord

end Sys2Proof.Machine
end

section
/-! PROOFS. What the hand-over of a reserve touches (R92, R97 to R99), and SET-BBU-CONFIG (R70). -/
namespace Sys2Proof.Machine

/-! ### Nothing but the rack -/

/-- Nothing has changed but trays, run, budget, grants, notices and the auto-start mark. -/
def RackOnly (s t : State) : Prop := t = withRackOf s t ∧ GrantsOnly s t

namespace RackOnly
variable {s t u : State}

theorem refl (s : State) : RackOnly s s := ⟨rfl, fun _ => rfl⟩

theorem trans (h : RackOnly s t) (k : RackOnly t u) : RackOnly s u := by
  refine ⟨?_, fun b => (k.2 b).trans (h.2 b)⟩
  calc u = withRackOf t u := k.1
    _ = withRackOf (withRackOf s t) u := congrArg (fun x => withRackOf x u) h.1
    _ = withRackOf s u := rfl

theorem of_rackSide (h : RackSide s t) : RackOnly s t := ⟨h.eq_withRackOf, h.grantsOnly⟩

theorem of_side (h : TraySideOnly s t) : RackOnly s t := .of_rackSide (.of_side h)

theorem params (h : RackOnly s t) : t.params = s.params := (congrArg State.params h.1).trans rfl

theorem ilc (h : RackOnly s t) : t.ilc = s.ilc := (congrArg State.ilc h.1).trans rfl

theorem rects (h : RackOnly s t) : t.rects = s.rects := (congrArg State.rects h.1).trans rfl

theorem time (h : RackOnly s t) : t.time = s.time := (congrArg State.time h.1).trans rfl

/-- Neither R nor the discharge load reads a grant. -/
theorem reserve (h : RackOnly s t) : t.reserve = s.reserve := by
  have husable : t.usable = s.usable := funext fun b => by
    have hb := congrArg (Bbu.usable s.params.floorFraction) (h.2 b)
    rw [State.usable, State.usable, h.params]
    exact hb
  rw [State.reserve, State.reserve, husable]

theorem tEst (h : RackOnly s t) : t.tEst = s.tEst := by
  have hdelivered : ∀ b : BbuId, t.bbus[b].delivered = s.bbus[b].delivered := fun b => by
    have hb := congrArg Bbu.delivered (h.2 b)
    exact hb
  have hload : t.lDis = s.lDis := congrArg List.sum (List.map_congr_left fun b _ => hdelivered b)
  rw [State.tEst, State.tEst, h.reserve, hload]

end RackOnly

/-! ### Nothing but the rack and the input loss record -/

/-- Nothing has changed but the rack and the input loss record. -/
def ShelfOnly (s t : State) : Prop := RackOnly { s with ilc := t.ilc } t

namespace ShelfOnly
variable {s t u : State}

theorem of_rackOnly (h : RackOnly s t) : ShelfOnly s t := by
  rw [ShelfOnly, h.ilc]
  exact h

theorem of_side (h : TraySideOnly s t) : ShelfOnly s t := .of_rackOnly (.of_side h)

theorem refl (s : State) : ShelfOnly s s := .of_rackOnly (.refl s)

theorem trans (h : ShelfOnly s t) (k : ShelfOnly t u) : ShelfOnly s u := by
  refine ⟨?_, fun b => (k.2 b).trans (h.2 b)⟩
  calc u = withRackOf { t with ilc := u.ilc } u := k.1
    _ = withRackOf { withRackOf { s with ilc := t.ilc } t with ilc := u.ilc } u :=
      congrArg (fun x : State => withRackOf { x with ilc := u.ilc } u) h.1
    _ = withRackOf { s with ilc := u.ilc } u := rfl

/-- A change of the input loss record comes first. -/
theorem after_ilc {i : InputLoss} (h : ShelfOnly { s with ilc := i } t) : ShelfOnly s t := h

theorem ite {c : Prop} [Decidable c] (h : c → ShelfOnly s t) (k : ¬ c → ShelfOnly s u) : ShelfOnly s (if c then t else u) := by
  split
  · next hc => exact h hc
  · next hc => exact k hc

theorem reserve (h : ShelfOnly s t) : t.reserve = s.reserve :=
  (RackOnly.reserve (s := { s with ilc := t.ilc }) h).trans rfl

theorem tEst (h : ShelfOnly s t) : t.tEst = s.tEst :=
  (RackOnly.tEst (s := { s with ilc := t.ilc }) h).trans rfl

end ShelfOnly

theorem budgetHearsShelf_side (s : State) : TraySideOnly s (budgetHearsShelf s) := by
  unfold budgetHearsShelf
  dsimp only
  split
  · exact (recomputeGrants_side s).trans (evalDeficit_side _)
  · exact (recomputeGrants_side s).trans (setDeficit_side _ _ _)

theorem sequencerHearsShelf_side (s : State) : TraySideOnly s (sequencerHearsShelf s) := by
  unfold sequencerHearsShelf
  repeat' split
  · exact (run_side s _).trans (evalStart_side _)
  · exact tell_side s
  · exact (run_side s _).trans (testUpDone_side _)
  · exact .refl s

theorem setShelf_shelf (new : ShelfState) (s : State) : ShelfOnly s (setShelf new s) := by
  unfold setShelf
  dsimp only
  generalize hs1 : ({ s with ilc := { s.ilc with state := new } } : State) = s1
  have h := ((budgetHearsShelf_side s1).trans (seqAfter_side s1 _)).trans (sequencerHearsShelf_side _)
  subst hs1
  exact ShelfOnly.after_ilc (i := { s.ilc with state := new }) (.of_side h)

theorem enterRestoreHold_shelf (s : State) : ShelfOnly s (enterRestoreHold s) := (setShelf_shelf _ _).after_ilc

theorem exhaustedPart_shelf (s : State) : ShelfOnly s (exhaustedPart s) := by
  have hset : ShelfOnly s (setShelf .exhausted { s with ilc := { s.ilc with restore := none } }) :=
    (setShelf_shelf .exhausted _).after_ilc
  unfold exhaustedPart
  dsimp only
  generalize setShelf .exhausted { s with ilc := { s.ilc with restore := none } } = s1 at hset ⊢
  exact (hset.trans (.of_side (shedSet_side _ s1))).trans (.of_side (post_side _ _ _ _))

theorem enterExhausted_shelf (s : State) : ShelfOnly s (enterExhausted s) := by
  rw [enterExhausted_eq]
  exact .ite (fun _ => exhaustedPart_shelf s) fun _ => (exhaustedPart_shelf s).trans (enterRestoreHold_shelf _)

theorem raiseStage_shelf (k : Nat) (s : State) : ShelfOnly s (raiseStage k s) := by
  unfold raiseStage
  exact ShelfOnly.after_ilc (.of_side ((shedSet_side _ _).trans (post_side _ _ _ _)))

theorem evalStage_shelf (s : State) : ShelfOnly s (evalStage s) := .ite (fun _ => raiseStage_shelf _ s) fun _ => .refl s

theorem evalRide_shelf (s : State) : ShelfOnly s (evalRide s) :=
  .ite (fun _ => enterExhausted_shelf s) fun _ => evalStage_shelf s

/-- The reserve and the estimate as they were last handed on. -/
abbrev LastHanded (s t : State) : Prop := t.ilc.lastR = s.ilc.lastR ∧ t.ilc.lastTEst = s.ilc.lastTEst

theorem enterExhausted_handed (s : State) : LastHanded s (enterExhausted s) := by
  rw [enterExhausted_eq]
  have h := exhaustedPart_ilc s
  generalize exhaustedPart s = u at h ⊢
  split
  · rw [LastHanded, h]
    exact ⟨rfl, rfl⟩
  · rw [LastHanded, enterRestoreHold_ilc, h]
    exact ⟨rfl, rfl⟩

theorem evalRide_handed (s : State) : LastHanded s (evalRide s) := by
  unfold evalRide evalStage
  dsimp only
  split
  · exact enterExhausted_handed s
  · split
    · rw [LastHanded, raiseStage_ilc]
      exact ⟨rfl, rfl⟩
    · exact ⟨rfl, rfl⟩

/-- The part with the new reserve and estimate stored. -/
def withHanded (s : State) : State := { s with ilc := { s.ilc with lastR := s.reserve, lastTEst := s.tEst } }

theorem tEstArrival_cases (s : State) :
    tEstArrival s = evalRide (withHanded s) ∨ tEstArrival s = enterExhausted (withHanded s) ∨ tEstArrival s = withHanded s := by
  unfold tEstArrival withHanded
  dsimp only
  repeat' split
  · exact Or.inl rfl
  · exact Or.inr (Or.inl rfl)
  all_goals exact Or.inr (Or.inr rfl)

theorem tEstArrival_shelf (s : State) : ShelfOnly s (tEstArrival s) := by
  refine ShelfOnly.trans (t := withHanded s) (ShelfOnly.refl (withHanded s)).after_ilc ?_
  rcases tEstArrival_cases s with h | h | h <;> rw [h]
  · exact evalRide_shelf _
  · exact enterExhausted_shelf _
  · exact .refl _

theorem tEstArrival_handed (s : State) : (tEstArrival s).ilc.lastR = s.reserve ∧ (tEstArrival s).ilc.lastTEst = s.tEst := by
  rcases tEstArrival_cases s with h | h | h
  · exact h ▸ evalRide_handed (withHanded s)
  · exact h ▸ enterExhausted_handed (withHanded s)
  · exact h ▸ ⟨rfl, rfl⟩

theorem reserveChanged_shelf (s : State) : ShelfOnly s (reserveChanged s) := by
  unfold reserveChanged
  exact .ite (fun _ => tEstArrival_shelf s) fun _ => (tEstArrival_shelf s).trans (.of_side (tell_side _))

theorem reserveChanged_handed (s : State) :
    (reserveChanged s).ilc.lastR = s.reserve ∧ (reserveChanged s).ilc.lastTEst = s.tEst := by
  have h := tEstArrival_handed s
  unfold reserveChanged
  dsimp only
  split
  · exact h
  · rw [(tell_side _).ilc]
    exact h

/-! ### SET-BBU-CONFIG -/

/-- The record of a battery slot under a new configuration (R70). -/
def configuredBbu (eRated maxCharge full : Nat) (u : Bbu) : Bbu :=
  { u with eRated := eRated, maxCharge := maxCharge, eFull := full, stored := min u.stored (full * 1000) }

theorem applyBbuConfig_eq (b : BbuId) (eRated maxCharge eFull : Nat) (s : State) :
    applyBbuConfig b eRated maxCharge eFull s =
      recomputeGrants (reserveChanged
        (putBbu b (configuredBbu eRated maxCharge (if eFull = 0 then s.bbus[b].eFull else eFull) s.bbus[b]) s)) := rfl

theorem applyBbuConfig_outcome (b : BbuId) (eRated maxCharge eFull : Nat) (s : State) (t : State)
    (ht : t = applyBbuConfig b eRated maxCharge eFull s) :
    t = withRackOf { s with ilc := t.ilc } t ∧
      { t.bbus[b] with grant := 0 } =
        { configuredBbu eRated maxCharge (if eFull = 0 then s.bbus[b].eFull else eFull) s.bbus[b] with grant := 0 } ∧
      (∀ c : BbuId, c ≠ b → { t.bbus[c] with grant := 0 } = { s.bbus[c] with grant := 0 }) ∧
      t.ilc.lastR = t.reserve ∧ t.ilc.lastTEst = t.tEst := by
  rw [applyBbuConfig_eq] at ht
  generalize hu : configuredBbu eRated maxCharge (if eFull = 0 then s.bbus[b].eFull else eFull) s.bbus[b] = u at ht ⊢
  have hshelf : ShelfOnly (putBbu b u s) t :=
    ht ▸ (reserveChanged_shelf _).trans (.of_side (recomputeGrants_side _))
  obtain ⟨hR, hT⟩ := reserveChanged_handed (putBbu b u s)
  have hilc : t.ilc = (reserveChanged (putBbu b u s)).ilc := ht ▸ rfl
  refine ⟨hshelf.1, ?_, fun c hc => ?_, ?_, ?_⟩
  · exact (hshelf.2 b).trans (congrArg (fun x : Bbu => { x with grant := 0 }) ((putBbu_get _ _ _ _).trans (if_pos rfl)))
  · exact (hshelf.2 c).trans
      (congrArg (fun x : Bbu => { x with grant := 0 }) ((putBbu_get _ _ _ _).trans (if_neg fun e => hc e.symm)))
  · rw [hilc, hR, hshelf.reserve]
  · rw [hilc, hT, hshelf.tEst]

theorem answerSetBbuConfig_badIndex {n : Nat} (hn : 6 ≤ n) (eRated maxCharge eFull : Nat) (s : State) :
    answerSetBbuConfig n eRated maxCharge eFull s = refuse .badIndex s := onBbu_badIndex hn _ s

theorem answerSetBbuConfig_busy (b : BbuId) (eRated maxCharge eFull : Nat) {s : State} (h : s.store.saving ≠ none) :
    answerSetBbuConfig b eRated maxCharge eFull s = refuse .busy s :=
  (onBbu_val b _ s).trans (if_pos (saveInFlight_of_ne s h))

theorem answerSetBbuConfig_suspended (b : BbuId) (eRated maxCharge eFull : Nat) {s : State} (h : s.store.saving = none)
    (hs : s.isSuspendedTarget b = true) : answerSetBbuConfig b eRated maxCharge eFull s = refuse .wrongState s :=
  (onBbu_val b _ s).trans ((if_neg (Bool.eq_false_iff.mp (saveInFlight_of_none s h))).trans (if_pos hs))

theorem answerSetBbuConfig_taken (b : BbuId) (eRated maxCharge eFull : Nat) {s : State} (h : s.store.saving = none)
    (hs : s.isSuspendedTarget b = false) :
    answerSetBbuConfig b eRated maxCharge eFull s =
      (.ack (bbuConfigClamped eRated maxCharge eFull) false,
        applyBbuConfig b (clamp 10000 4000000 eRated) (clamp 0 3000 maxCharge) (if eFull = 0 then 0 else clamp 1000 4000000 eFull) s) :=
  (onBbu_val b _ s).trans
    ((if_neg (Bool.eq_false_iff.mp (saveInFlight_of_none s h))).trans (if_neg (Bool.eq_false_iff.mp hs)))

theorem bbuConfigClamped_eq (eRated maxCharge eFull : Nat) :
    bbuConfigClamped eRated maxCharge eFull =
      decide ¬ (10000 ≤ eRated ∧ eRated ≤ 4000000 ∧ maxCharge ≤ 3000 ∧ (eFull = 0 ∨ (1000 ≤ eFull ∧ eFull ≤ 4000000))) := by
  rw [Bool.eq_iff_iff, decide_eq_true_iff, bbuConfigClamped, Bool.not_eq_true', ← Bool.not_eq_true]
  simp only [inRange, Bool.and_eq_true, Bool.or_eq_true, decide_eq_true_eq, beq_iff_eq]
  omega

/-- Settles O43. -/
theorem setBbuConfig : Obligations.SetBbuConfig := by
  intro s tag n b eRated maxCharge eFull full hready hfull
  refine ⟨fun hn => ?_, fun hsave => ?_, fun hsave hsus => ?_, fun hsave hsus => ?_⟩
  · exact request_of_answer hready (answerSetBbuConfig_badIndex hn _ _ _ _)
  · exact request_of_answer hready (answerSetBbuConfig_busy b _ _ _ (by exact hsave))
  · exact request_of_answer hready (answerSetBbuConfig_suspended b _ _ _ (by exact hsave) (by exact hsus))
  · have hanswer := request_of_answer (kind := 0x1C) (tag := tag) (body := .setBbuConfig b eRated maxCharge eFull) hready
      (answerSetBbuConfig_taken (s := asked ⟨0x1C, tag, .setBbuConfig b eRated maxCharge eFull⟩ s) b eRated maxCharge eFull hsave hsus)
    have hvalue : (if (if eFull = 0 then 0 else clamp 1000 4000000 eFull) = 0 then s.bbus[b].eFull
        else if eFull = 0 then 0 else clamp 1000 4000000 eFull) = full := by
      rw [hfull]
      by_cases h0 : eFull = 0
      · simp only [h0, if_true]
      · have hpos : clamp 1000 4000000 eFull ≠ 0 := by
          unfold clamp
          omega
        rw [if_neg h0, if_neg hpos, if_neg h0]
        rfl
    obtain ⟨hframe, hrecord, hothers, hR, hT⟩ := applyBbuConfig_outcome b _ _ _ _ _ (Eq.refl (applyBbuConfig b
      (clamp 10000 4000000 eRated) (clamp 0 3000 maxCharge) (if eFull = 0 then 0 else clamp 1000 4000000 eFull)
      (asked ⟨0x1C, tag, .setBbuConfig b eRated maxCharge eFull⟩ s)))
    generalize applyBbuConfig b (clamp 10000 4000000 eRated) (clamp 0 3000 maxCharge)
      (if eFull = 0 then 0 else clamp 1000 4000000 eFull) (asked ⟨0x1C, tag, .setBbuConfig b eRated maxCharge eFull⟩ s) = t at *
    rw [bbuConfigClamped_eq] at hanswer
    refine ⟨_, hanswer, congrArg (replying _ _) hframe, hrecord.trans ?_, hothers, hR, hT⟩
    have hmax : clamp 0 3000 maxCharge = min 3000 maxCharge := by rw [clamp, Nat.zero_max]
    exact congrArg₂ (fun m f => { s.bbus[b] with
      grant := 0, eRated := min 4000000 (max 10000 eRated), maxCharge := m, eFull := f, stored := min s.bbus[b].stored (f * 1000) })
      hmax hvalue

end Sys2Proof.Machine
end

section
/-! PROOFS. What budget and sequencer do after a change of trays, as far as trays, run and notices go (R75, R76, R79, R86 to
R88, R111 to R114, R117). -/
namespace Sys2Proof.Machine

/-! ### Committed and live load -/

/-- A sum over the trays of which one figure is replaced. -/
theorem sum_replace {f g : TrayId → Nat} {i : TrayId} (h : ∀ j, j ≠ i → g j = f j) :
    (allTrays.map g).sum + f i = (allTrays.map f).sum + g i := by
  have hperm := List.perm_cons_erase (mem_allTrays i)
  have hrest : (allTrays.erase i).map g = (allTrays.erase i).map f := List.map_congr_left fun j hj =>
    h j fun e => ((List.nodup_finRange 24).mem_erase_iff.mp (e ▸ hj)).1 rfl
  rw [(hperm.map g).sum_eq, (hperm.map f).sum_eq, List.map_cons, List.map_cons, List.sum_cons, List.sum_cons, hrest]
  omega

theorem Tray.countedLive_le (t : Tray) : t.countedLive ≤ t.counted := by
  unfold Tray.countedLive
  split
  · exact Nat.zero_le _
  · exact Nat.le_refl _

theorem kLive_le_kT (s : State) : s.kLive ≤ s.kT :=
  List.sum_le_sum fun i _ => Tray.countedLive_le s.trays[i]

theorem kT_putTray (i : TrayId) (t : Tray) (s : State) : (putTray i t s).kT + s.trays[i].counted = s.kT + t.counted := by
  have h := sum_replace (f := fun j => s.trays[j].counted) (g := fun j => (putTray i t s).trays[j].counted) (i := i)
    fun j hj => by rw [putTray_get, if_neg fun e => hj e.symm]
  rw [putTray_get, if_pos rfl] at h
  exact h

theorem kLive_putTray (i : TrayId) (t : Tray) (s : State) :
    (putTray i t s).kLive + s.trays[i].countedLive = s.kLive + t.countedLive := by
  have h := sum_replace (f := fun j => s.trays[j].countedLive) (g := fun j => (putTray i t s).trays[j].countedLive) (i := i)
    fun j hj => by rw [putTray_get, if_neg fun e => hj e.symm]
  rw [putTray_get, if_pos rfl] at h
  exact h

theorem kT_congr {s t : State} (h : t.trays = s.trays) : t.kT = s.kT := by rw [State.kT, State.kT, h]

theorem kLive_congr {s t : State} (h : t.trays = s.trays) : t.kLive = s.kLive := by rw [State.kLive, State.kLive, h]

/-! ### A budget that finds room -/

/-- Nothing but grants and deficit flags has changed. -/
structure Tallied (s t : State) : Prop where
  side : TraySideOnly s t
  trays : t.trays = s.trays
  run : t.run = s.run
  notices : t.notices = s.notices

theorem Tallied.refl (s : State) : Tallied s s := ⟨.refl s, rfl, rfl, rfl⟩

theorem Tallied.trans {s t u : State} (h : Tallied s t) (k : Tallied t u) : Tallied s u :=
  ⟨h.side.trans k.side, k.trays.trans h.trays, k.run.trans h.run, k.notices.trans h.notices⟩

theorem recomputeGrants_tallied (s : State) : Tallied s (recomputeGrants s) := ⟨recomputeGrants_side s, rfl, rfl, rfl⟩

theorem setDeficit_tallied (a u : Bool) (s : State) : Tallied s (setDeficit a u s) := ⟨setDeficit_side a u s, rfl, rfl, rfl⟩

theorem evalDeficit_room {s : State} (h : s.kLive ≤ s.budget.c) : Tallied s (evalDeficit s) := by
  unfold evalDeficit
  split
  · exact .refl s
  · exact setDeficit_tallied _ _ s

theorem afterBudget_room {s0 s : State} (h : s.kLive ≤ s.budget.c) : Tallied s (afterBudget s0 s) := by
  have hgrants : Tallied s (if s.kT = s0.kT then s else recomputeGrants s) := by
    split
    · exact .refl s
    · exact recomputeGrants_tallied s
  unfold afterBudget
  dsimp only
  generalize (if s.kT = s0.kT then s else recomputeGrants s) = u at hgrants
  split
  · exact hgrants
  · refine hgrants.trans (evalDeficit_room ?_)
    rw [kLive_congr hgrants.trays, hgrants.side.capacity]
    exact h

/-! ### A budget that has nothing to shed -/

/-- Nothing but grants, deficit flags and the notices of a deficit has changed. -/
structure Calm (s t : State) : Prop where
  side : TraySideOnly s t
  trays : t.trays = s.trays
  run : t.run = s.run
  records : s.notices.records <+: t.notices.records
  kinds : ∀ k, k ≠ .capacityDeficit → k ≠ .deficitUnresolved → NoneOfKind k s t

theorem Calm.refl (s : State) : Calm s s := ⟨.refl s, rfl, rfl, List.prefix_rfl, fun _ _ _ => rfl⟩

theorem Calm.trans {s t u : State} (h : Calm s t) (k : Calm t u) : Calm s u where
  side := h.side.trans k.side
  trays := k.trays.trans h.trays
  run := k.run.trans h.run
  records := h.records.trans k.records
  kinds := fun x hc hu => (k.kinds x hc hu).trans (h.kinds x hc hu)

theorem Tallied.calm {s t : State} (h : Tallied s t) : Calm s t where
  side := h.side
  trays := h.trays
  run := h.run
  records := by rw [h.notices]
  kinds := fun x _ _ => by rw [NoneOfKind, h.notices]

theorem post_records (k : NoticeKind) (x v : Option Nat) (s : State) :
    s.notices.records <+: (post k x v s).notices.records := by
  unfold post
  split
  · exact List.prefix_append _ _
  · exact List.prefix_rfl

theorem post_noneOfKind {k : NoticeKind} (x v : Option Nat) (s : State) {k' : NoticeKind} (h : k' ≠ k) :
    NoneOfKind k' s (post k x v s) := by
  unfold post
  split
  · have hne : (k == k') = false := beq_eq_false_iff_ne.mpr fun e => h e.symm
    simp only [NoneOfKind, List.filter_append, List.filter_cons, hne, List.filter_nil, Bool.false_eq_true, if_false, List.append_nil]
  · rfl

theorem post_calm {k : NoticeKind} (x v : Option Nat) (s : State) (h : k = .capacityDeficit ∨ k = .deficitUnresolved) :
    Calm s (post k x v s) where
  side := post_side _ _ _ _
  trays := post_trays _ _ _ _
  run := post_run _ _ _ _
  records := post_records _ _ _ _
  kinds := fun _ hc hu => post_noneOfKind _ _ _ fun e => h.elim (fun h => hc (e.trans h)) fun h => hu (e.trans h)

theorem mem_deficitCandidates {s : State} {i : TrayId} : i ∈ deficitCandidates s ↔ deficitCandidate s.trays[i] = true := by
  rw [deficitCandidates, mem_ordered, List.mem_filter, and_iff_right (mem_allTrays i)]

theorem deficitCandidates_nil {s : State} :
    deficitCandidates s = [] ↔ ∀ i : TrayId, deficitCandidate s.trays[i] = false := by
  rw [List.eq_nil_iff_forall_not_mem]
  exact forall_congr' fun i => by rw [mem_deficitCandidates, Bool.not_eq_true]

theorem deficitCandidates_congr {s t : State} (h : t.trays = s.trays) : deficitCandidates t = deficitCandidates s := by
  rw [deficitCandidates, deficitCandidates, h]

theorem deficitStart_calm (s : State) : Calm s (deficitStart s) := by
  unfold deficitStart
  split
  · exact .refl s
  · exact (setDeficit_tallied _ _ s).calm.trans (post_calm _ _ _ (Or.inl rfl))

theorem deficitFinish_calm (s : State) : Calm s (deficitFinish s) := by
  unfold deficitFinish
  repeat' split
  · exact (setDeficit_tallied _ _ s).calm
  · exact .refl s
  · exact (setDeficit_tallied _ _ s).calm.trans (post_calm _ _ _ (Or.inr rfl))

theorem evalDeficit_calm {s : State} (h : DeficitLaw s) : Calm s (evalDeficit s) := by
  unfold evalDeficit
  split
  · exact .refl s
  · next hn =>
    split
    · exact (setDeficit_tallied _ _ s).calm
    · next hlive =>
      have hnone : deficitCandidates (deficitStart s) = [] :=
        (deficitCandidates_congr (deficitStart_calm s).trays).trans ((h (Decidable.not_not.mp hn)).resolve_left hlive)
      dsimp only
      rw [hnone]
      exact ((deficitStart_calm s).trans (deficitFinish_calm _)).trans (recomputeGrants_tallied _).calm

theorem DeficitLaw.of_trays {s t : State} (h : DeficitLaw s) (hside : TraySideOnly s t) (ht : t.trays = s.trays) : DeficitLaw t := by
  intro hn
  rw [kLive_congr ht, hside.capacity, deficitCandidates_congr ht]
  exact h (hside.ilc ▸ hn)

theorem afterBudget_calm {s0 s : State} (h : DeficitLaw s) : Calm s (afterBudget s0 s) := by
  have hgrants : Tallied s (if s.kT = s0.kT then s else recomputeGrants s) := by
    split
    · exact .refl s
    · exact recomputeGrants_tallied s
  unfold afterBudget
  dsimp only
  generalize (if s.kT = s0.kT then s else recomputeGrants s) = u at hgrants
  split
  · exact hgrants.calm
  · exact hgrants.calm.trans (evalDeficit_calm (h.of_trays hgrants.side hgrants.trays))

/-- The law of a deficit holds on when no tray becomes more of a load or of a candidate. -/
theorem DeficitLaw.putTray {s : State} (h : DeficitLaw s) {i : TrayId} {t : Tray} (hlive : t.countedLive ≤ s.trays[i].countedLive)
    (hcand : deficitCandidate t = true → deficitCandidate s.trays[i] = true) : DeficitLaw (putTray i t s) := by
  intro hn
  rcases h hn with h | h
  · left
    have hk := kLive_putTray i t s
    have hc : (Machine.putTray i t s).budget.c = s.budget.c := rfl
    omega
  · right
    rw [deficitCandidates_nil] at h ⊢
    intro j
    rw [putTray_get]
    split
    · next e =>
      subst e
      exact Bool.eq_false_iff.mpr fun hc => Bool.false_ne_true ((h i).symm.trans (hcand hc))
    · exact h j

end Sys2Proof.Machine
end

section
/-! PROOFS. What an evaluation of the start rule does to trays, run and notices (R7, R79, R111 to R114). -/
namespace Sys2Proof.Machine

/-! ### The trays a start changes -/

/-- The tray `b` is the tray `a` after a start: in INRUSH with its wait, in INRUSH settling, or ON (R7, R8). -/
def Entered (a b : Tray) : Prop :=
  b = enterInrush a ∨ b = { enterInrush a with timer := .settle a.cfg.settle a.cfg.pgTimeout } ∨ b = enterOn a

theorem Entered.enable {a b : Tray} (h : Entered a b) : b.enable = true := by
  rcases h with h | h | h <;> subst h <;> rfl

theorem Entered.state {a b : Tray} (h : Entered a b) : b.state = .inrush ∨ b.state = .on := by
  rcases h with h | h | h <;> subst h
  · exact Or.inl rfl
  · exact Or.inl rfl
  · exact Or.inr rfl

theorem Entered.counted_le {a b : Tray} (h : Entered a b) : b.counted ≤ a.cfg.alloc + a.cfg.surge := by
  rcases h with h | h | h <;> subst h
  · exact Nat.le_refl _
  · exact Nat.le_refl _
  · exact Nat.le_add_right _ _

theorem Entered.cfg {a b : Tray} (h : Entered a b) : b.cfg = a.cfg := by
  rcases h with h | h | h <;> subst h <;> rfl

/-- What a start changes in the run record: the tray leaves the start queue and the spacing starts (R113). -/
structure RunStarted (h : TrayId) (s t : State) : Prop where
  direction : t.run.direction = s.run.direction
  scope : t.run.scope = s.run.scope
  state : t.run.state = s.run.state
  startQueue : t.run.startQueue = without h s.run.startQueue
  stopQueue : t.run.stopQueue.Sublist s.run.stopQueue
  members : t.run.members.Sublist s.run.members

/-- What a start changes (R7, R79, R80, R113). -/
structure Started (h : TrayId) (s t : State) : Prop where
  side : TraySideOnly s t
  tray : Entered s.trays[h] t.trays[h]
  others : ∀ j, j ≠ h → t.trays[j] = s.trays[j]
  run : RunStarted h s t
  records : s.notices.records <+: t.notices.records
  kinds : ∀ k, k ≠ .trayOn → NoneOfKind k s t
  room : t.kT ≤ t.budget.c

theorem without_without (i : TrayId) (l : List TrayId) : without i (without i l) = without i l := by
  simp only [without, List.filter_filter, Bool.and_self]

theorem without_sublist (i : TrayId) (l : List TrayId) : (without i l).Sublist l := List.filter_sublist

theorem syncRun_started {h : TrayId} {t : Tray} (ht : t.state ≠ .queued) (r : RunRecord) :
    (syncRun h t r).startQueue = without h r.startQueue := if_neg ht

theorem enterInrush_notQueued (t : Tray) : (enterInrush t).state ≠ .queued := TrayState.noConfusion

theorem syncRun_stopQueue (i : TrayId) (t : Tray) (r : RunRecord) : (syncRun i t r).stopQueue.Sublist r.stopQueue := by
  simp only [syncRun]
  split
  · exact List.Sublist.refl _
  · exact without_sublist _ _

theorem syncRun_members (i : TrayId) (t : Tray) (r : RunRecord) : (syncRun i t r).members.Sublist r.members := by
  simp only [syncRun]
  split
  · exact without_sublist _ _
  · exact List.Sublist.refl _

theorem syncRun_startQueue (i : TrayId) (t : Tray) (r : RunRecord) : (syncRun i t r).startQueue.Sublist r.startQueue := by
  simp only [syncRun]
  split
  · exact List.Sublist.refl _
  · exact without_sublist _ _

/-- An admitted tray fits into the capacity with all it takes (R79). -/
theorem admission_start {s : State} {t : Tray} (h : admission s t = .start) :
    s.ilc.state = .normal ∧ s.kT + t.cfg.alloc + t.cfg.surge + s.params.margin + s.budget.floorEff ≤ s.budget.c ∧
      (s.params.readyMin = 0 ∨ s.params.readyMin ≤ s.tProj t.cfg.alloc) := by
  unfold admission at h
  split at h
  · cases h
  · next hn =>
    split at h
    · cases h
    · next hc =>
      split at h
      · cases h
      · next hr =>
        refine ⟨Decidable.not_not.mp hn, Nat.le_of_not_lt hc, ?_⟩
        by_cases h0 : s.params.readyMin = 0
        · exact Or.inl h0
        · exact Or.inr (Nat.le_of_not_lt fun hlt => hr ⟨h0, hlt⟩)

theorem admission_eq_start {s : State} {t : Tray} (hn : s.ilc.state = .normal)
    (hc : s.kT + t.cfg.alloc + t.cfg.surge + s.params.margin + s.budget.floorEff ≤ s.budget.c)
    (hr : s.params.readyMin = 0 ∨ s.params.readyMin ≤ s.tProj t.cfg.alloc) : admission s t = .start := by
  unfold admission
  rw [if_neg (not_not_intro hn), if_neg (Nat.not_lt.mpr hc), if_neg]
  rintro ⟨h0, hlt⟩
  exact hr.elim h0 (Nat.not_le.mpr hlt)

/-! ### The entry to INRUSH -/

/-- The part with the start spacing begun. -/
def spaced (s : State) : State := { s with run := { s.run with startSpacing := spacingStart s.params.startSpacing } }

theorem startTray_eq (h : TrayId) (s : State) : startTray h s = entryPg h (beginInrush h (spaced s)) := rfl

/-- The entry to INRUSH, with what the budget makes of it. -/
theorem beginInrush_tallied {h : TrayId} {s : State} (hroom : s.kT + s.trays[h].cfg.alloc + s.trays[h].cfg.surge ≤ s.budget.c) :
    Tallied (putTray h (enterInrush s.trays[h]) s) (beginInrush h s) ∧ (beginInrush h s).kT ≤ (beginInrush h s).budget.c := by
  have hkT := kT_putTray h (enterInrush s.trays[h]) s
  have hcap : (putTray h (enterInrush s.trays[h]) s).budget.c = s.budget.c := rfl
  have hcounted : (enterInrush s.trays[h]).counted = s.trays[h].cfg.alloc + s.trays[h].cfg.surge := rfl
  have hle : (putTray h (enterInrush s.trays[h]) s).kT ≤ s.budget.c :=
    (Nat.le_add_right _ _).trans (hkT.le.trans (by rwa [hcounted, ← Nat.add_assoc]))
  rw [beginInrush]
  generalize putTray h _ s = x at hle hcap ⊢
  have htallied : Tallied x (afterBudget s x) := afterBudget_room ((kLive_le_kT x).trans (hcap ▸ hle))
  refine ⟨htallied, ?_⟩
  rw [kT_congr htallied.trays, htallied.side.capacity, hcap]
  exact hle

/-- A PG that is asserted at the entry to INRUSH: the tray settles, or is ON at once (R7, R8). -/
theorem trayPgRise_entered {h : TrayId} {s : State} {a : Tray} (ha : s.trays[h] = enterInrush a) :
    trayPgRise h s =
      if a.cfg.settle = 0 then post .trayOn (some h.val) none (putTray h (enterOn a) s)
      else putTray h { enterInrush a with timer := .settle a.cfg.settle a.cfg.pgTimeout } s := by
  unfold trayPgRise reachOn
  rw [ha]
  rfl

/-- A tray that a start has put in INRUSH, its record stored again as a start may leave it. -/
theorem putTray_kT_le {h : TrayId} {s : State} {a b : Tray} (ha : s.trays[h] = enterInrush a) (hb : Entered a b) :
    (putTray h b s).kT ≤ s.kT := by
  have hkT := kT_putTray h b s
  have hle := hb.counted_le
  have hcounted : s.trays[h].counted = a.cfg.alloc + a.cfg.surge := by
    rw [ha]
    rfl
  rw [hcounted] at hkT
  exact Nat.le_of_add_le_add_right (hkT.le.trans (Nat.add_le_add_left hle _))

/-- What stands between the entry to INRUSH and the end of a start: the tray's record stored once more, a notice of its own,
and a tally. -/
theorem started_again {h : TrayId} {s y : State} {a b : Tray} (hy : Started h s y) (ha : y.trays[h] = enterInrush a)
    (hb : Entered a b) (hsa : s.trays[h] = a) :
    Started h s (putTray h b y) := by
  have hnot : b.state ≠ .queued := fun e => by
    rcases hb.state with h | h <;> exact TrayState.noConfusion (e.symm.trans h)
  have hget : (putTray h b y).trays[h] = b := (putTray_get _ _ _ _).trans (if_pos rfl)
  have hroom : (putTray h b y).kT ≤ y.budget.c := (putTray_kT_le ha hb).trans hy.room
  refine ⟨hy.side.trans (putTray_side _ _ _), by rwa [hget, hsa], fun j hj => ?_,
    ⟨hy.run.direction, hy.run.scope, hy.run.state, ?_, (syncRun_stopQueue _ _ _).trans hy.run.stopQueue,
      (syncRun_members _ _ _).trans hy.run.members⟩, hy.records, hy.kinds, hroom⟩
  · exact ((putTray_get _ _ _ _).trans (if_neg fun e => hj e.symm)).trans (hy.others j hj)
  · exact (syncRun_started hnot _).trans (by rw [hy.run.startQueue, without_without])

theorem Started.tally {h : TrayId} {s y z : State} (hy : Started h s y) (ht : Tallied y z) : Started h s z where
  side := hy.side.trans ht.side
  tray := ht.trays ▸ hy.tray
  others := fun j hj => ht.trays ▸ hy.others j hj
  run :=
    { direction := ht.run ▸ hy.run.direction
      scope := ht.run ▸ hy.run.scope
      state := ht.run ▸ hy.run.state
      startQueue := ht.run ▸ hy.run.startQueue
      stopQueue := ht.run ▸ hy.run.stopQueue
      members := ht.run ▸ hy.run.members }
  records := ht.notices ▸ hy.records
  kinds := fun k hk => (by rw [NoneOfKind, ht.notices] : NoneOfKind k y z).trans (hy.kinds k hk)
  room := by
    rw [kT_congr ht.trays, ht.side.capacity]
    exact hy.room

theorem Started.note {h : TrayId} {s y : State} (hy : Started h s y) (x v : Option Nat) :
    Started h s (post .trayOn x v y) where
  side := hy.side.trans (post_side _ _ _ _)
  tray := by rw [post_trays]; exact hy.tray
  others := fun j hj => by rw [post_trays]; exact hy.others j hj
  run := by
    obtain ⟨hd, hs, hst, hq, hp, hm⟩ := hy.run
    exact ⟨by rw [post_run, hd], by rw [post_run, hs], by rw [post_run, hst], by rw [post_run, hq], by rwa [post_run],
      by rwa [post_run]⟩
  records := hy.records.trans (post_records _ _ _ _)
  kinds := fun k hk => (post_noneOfKind _ _ _ hk).trans (hy.kinds k hk)
  room := by
    rw [kT_congr (post_trays _ _ _ _), post_budget]
    exact hy.room

theorem beginInrush_started {h : TrayId} {s : State} (hroom : s.kT + s.trays[h].cfg.alloc + s.trays[h].cfg.surge ≤ s.budget.c) :
    Started h s (beginInrush h s) ∧ (beginInrush h s).trays[h] = enterInrush s.trays[h] := by
  have hget : ∀ j, (putTray h (enterInrush s.trays[h]) s).trays[j] = if h = j then enterInrush s.trays[h] else s.trays[j] :=
    fun j => putTray_get _ _ _ _
  obtain ⟨ht, hfits⟩ := beginInrush_tallied hroom
  refine ⟨⟨(putTray_side _ _ _).trans ht.side, ?_, fun j hj => ?_, ⟨?_, ?_, ?_, ?_, ?_, ?_⟩, ?_, fun k _ => ?_, hfits⟩, ?_⟩
  · rw [ht.trays, hget, if_pos rfl]
    exact Or.inl rfl
  · rw [ht.trays, hget, if_neg fun e => hj e.symm]
  · rw [ht.run]
    rfl
  · rw [ht.run]
    rfl
  · rw [ht.run]
    rfl
  · rw [ht.run]
    exact syncRun_started (enterInrush_notQueued _) _
  · rw [ht.run]
    exact syncRun_stopQueue _ _ _
  · rw [ht.run]
    exact syncRun_members _ _ _
  · rw [ht.notices]
    exact List.prefix_rfl
  · rw [NoneOfKind, ht.notices]
    rfl
  · rw [ht.trays, hget, if_pos rfl]

theorem entryPg_started {h : TrayId} {s y : State} (hy : Started h s y) (hin : y.trays[h] = enterInrush s.trays[h]) :
    Started h s (entryPg h y) := by
  have hlive : ∀ {z : State}, Started h s z → z.kLive ≤ z.budget.c := fun hz => (kLive_le_kT _).trans hz.room
  unfold entryPg
  split
  · rw [trayPgRise_entered hin]
    split
    · have hon := (started_again hy hin (Or.inr (Or.inr rfl)) rfl).note (some h.val) none
      exact hon.tally (afterBudget_room (hlive hon))
    · have hsettle := started_again hy hin (Or.inr (Or.inl rfl)) rfl
      exact hsettle.tally (afterBudget_room (hlive hsettle))
  · exact hy

/-- A start that has been admitted (R113). -/
theorem startTray_started {h : TrayId} {s : State} (ha : admission s s.trays[h] = .start) : Started h s (startTray h s) := by
  have hroom : s.kT + s.trays[h].cfg.alloc + s.trays[h].cfg.surge ≤ s.budget.c :=
    (Nat.le_add_right _ _).trans ((Nat.le_add_right _ _).trans (admission_start ha).2.1)
  obtain ⟨hbegin, hin⟩ := beginInrush_started (s := spaced s) (h := h) hroom
  have hs : Started h (spaced s) (startTray h s) := entryPg_started hbegin hin
  exact ⟨(run_side s _).trans hs.side, hs.tray, hs.others,
    ⟨hs.run.direction, hs.run.scope, hs.run.state, hs.run.startQueue, hs.run.stopQueue, hs.run.members⟩, hs.records, hs.kinds, hs.room⟩

/-! ### An evaluation of the start rule -/

/-- The tray is as it was, or was started out of the start queue. -/
def StartedOrSame (s t : State) (j : TrayId) : Prop :=
  t.trays[j] = s.trays[j] ∨ (j ∈ s.run.startQueue ∧ j ∉ t.run.startQueue ∧ Entered s.trays[j] t.trays[j])

/-- What starts out of the start queue do, and the end of the run after them (R111 to R114). -/
structure StartsTaken (s t : State) : Prop where
  side : TraySideOnly s t
  tray : ∀ j, StartedOrSame s t j
  direction : t.run.direction = s.run.direction
  scope : t.run.scope = s.run.scope
  startQueue : t.run.startQueue.Sublist s.run.startQueue
  stopQueue : t.run.stopQueue.Sublist s.run.stopQueue
  members : t.run.members.Sublist s.run.members
  state : (t.run.state = s.run.state ∧ NoneOfKind .runDone s t) ∨ (t.run.state = .idle ∧ s.run.state ≠ .idle)
  records : s.notices.records <+: t.notices.records
  kinds : ∀ k, k ≠ .trayOn → k ≠ .runDone → NoneOfKind k s t

theorem StartsTaken.refl (s : State) : StartsTaken s s :=
  ⟨.refl s, fun _ => Or.inl rfl, rfl, rfl, .refl _, .refl _, .refl _, Or.inl ⟨rfl, rfl⟩, List.prefix_rfl, fun _ _ _ => rfl⟩

theorem StartsTaken.trans {s t u : State} (h : StartsTaken s t) (k : StartsTaken t u) : StartsTaken s u where
  side := h.side.trans k.side
  tray := fun j => by
    rcases h.tray j with hs | ⟨hq, hout, he⟩
    · rcases k.tray j with kt | ⟨kq, kout, ke⟩
      · exact Or.inl (kt.trans hs)
      · exact Or.inr ⟨h.startQueue.subset kq, kout, hs ▸ ke⟩
    · rcases k.tray j with kt | ⟨kq, -, -⟩
      · exact Or.inr ⟨hq, fun hj => hout (k.startQueue.subset hj), kt ▸ he⟩
      · exact absurd kq hout
  direction := k.direction.trans h.direction
  scope := k.scope.trans h.scope
  startQueue := k.startQueue.trans h.startQueue
  stopQueue := k.stopQueue.trans h.stopQueue
  members := k.members.trans h.members
  state := by
    rcases h.state with ⟨hs, hn⟩ | ⟨hs, hn⟩ <;> rcases k.state with ⟨ks, kn⟩ | ⟨ks, kn⟩
    · exact Or.inl ⟨ks.trans hs, kn.trans hn⟩
    · exact Or.inr ⟨ks, hs ▸ kn⟩
    · exact Or.inr ⟨ks.trans hs, hn⟩
    · exact absurd hs kn
  records := h.records.trans k.records
  kinds := fun x ht hr => (k.kinds x ht hr).trans (h.kinds x ht hr)

theorem Started.taken {h : TrayId} {s t : State} (hs : Started h s t) (hq : h ∈ s.run.startQueue) : StartsTaken s t where
  side := hs.side
  tray := fun j => by
    by_cases hj : j = h
    · subst hj
      exact Or.inr ⟨hq, fun hm => ((mem_without _ _ _).mp (hs.run.startQueue ▸ hm)).2 rfl, hs.tray⟩
    · exact Or.inl (hs.others j hj)
  direction := hs.run.direction
  scope := hs.run.scope
  startQueue := hs.run.startQueue ▸ without_sublist _ _
  stopQueue := hs.run.stopQueue
  members := hs.run.members
  state := Or.inl ⟨hs.run.state, hs.kinds .runDone (by decide)⟩
  records := hs.records
  kinds := fun k ht _ => hs.kinds k ht

theorem Calm.taken {s t : State} (h : Calm s t) (hk : ∀ k, NoneOfKind k s t) : StartsTaken s t where
  side := h.side
  tray := fun _ => Or.inl (by rw [h.trays])
  direction := by rw [h.run]
  scope := by rw [h.run]
  startQueue := by rw [h.run]
  stopQueue := by rw [h.run]
  members := by rw [h.run]
  state := Or.inl ⟨by rw [h.run], hk _⟩
  records := h.records
  kinds := fun k _ _ => hk k

/-- A change of the run record that touches no queue. -/
theorem startsTaken_run {s : State} {r : RunRecord} (hd : r.direction = s.run.direction) (hsc : r.scope = s.run.scope)
    (hst : r.state = s.run.state) (hq : r.startQueue = s.run.startQueue) (hp : r.stopQueue = s.run.stopQueue)
    (hm : r.members = s.run.members) : StartsTaken s { s with run := r } :=
  ⟨run_side s r, fun _ => Or.inl rfl, hd, hsc, hq ▸ .refl _, hp ▸ .refl _, hm ▸ .refl _, Or.inl ⟨hst, rfl⟩, List.prefix_rfl,
    fun _ _ _ => rfl⟩

theorem testUpDone_complete {s : State} (h : upComplete s = true) :
    testUpDone s =
      { post .runDone (some 0) (some (membersIn s .on + 256 * membersIn s .failed)) s with
        run := { s.run with state := .idle, members := [], blocked := none } } := by
  unfold testUpDone
  rw [if_pos h]
  dsimp only
  rw [post_run]

theorem testUpDone_taken (s : State) : StartsTaken s (testUpDone s) := by
  by_cases hc : upComplete s = true
  · have hne : s.run.state ≠ .idle := fun e => by
      simp [upComplete, e] at hc
    have hside := testUpDone_side s
    rw [testUpDone_complete hc] at hside ⊢
    exact ⟨hside, fun _ => Or.inl (post_tray _ _ _ _ _), rfl, rfl, .refl _, .refl _, List.nil_sublist _, Or.inr ⟨rfl, hne⟩,
      post_records _ _ _ _, fun k _ hr => post_noneOfKind _ _ _ hr⟩
  · rw [testUpDone, if_neg hc]
    exact .refl s

theorem startLoop_taken (n : Nat) (s : State) : StartsTaken s (startLoop n s) := by
  induction n generalizing s with
  | zero => exact .refl s
  | succ n ih =>
    unfold startLoop
    split
    · exact startsTaken_run rfl rfl rfl rfl rfl rfl
    · next h rest hq =>
      split
      · exact .refl s
      · exact startsTaken_run rfl rfl rfl rfl rfl rfl
      · next hv =>
        have hmem : h ∈ s.run.startQueue := by rw [hq]; exact List.mem_cons_self
        exact ((startTray_started (startVerdict_start hv).2.2.2.2).taken hmem).trans (ih _)

theorem evalStart_taken (s : State) : StartsTaken s (evalStart s) := by
  unfold evalStart
  split
  · exact (startLoop_taken _ s).trans (testUpDone_taken _)
  · exact .refl s

end Sys2Proof.Machine
end

section
/-! PROOFS. What budget and sequencer leave alone after a change of trays, and the stop rule (R75, R76, R86 to R88, R112, R114,
R117). -/
namespace Sys2Proof.Machine

/-! ### A turn of budget and sequencer -/

/-- The run record keeps its run, or the run is over; no queue gains a tray. -/
structure RunShrinks (s t : State) : Prop where
  direction : t.run.direction = s.run.direction
  scope : t.run.scope = s.run.scope
  startQueue : t.run.startQueue.Sublist s.run.startQueue
  stopQueue : t.run.stopQueue.Sublist s.run.stopQueue
  members : t.run.members.Sublist s.run.members
  state : (t.run.state = s.run.state ∧ NoneOfKind .runDone s t) ∨ (t.run.state = .idle ∧ s.run.state ≠ .idle)

theorem RunShrinks.of_eq {s t : State} (h : t.run = s.run) (hk : NoneOfKind .runDone s t) : RunShrinks s t := by
  constructor
  case state => exact Or.inl ⟨by rw [h], hk⟩
  all_goals rw [h]

theorem RunShrinks.trans {s t u : State} (h : RunShrinks s t) (k : RunShrinks t u) : RunShrinks s u where
  direction := k.direction.trans h.direction
  scope := k.scope.trans h.scope
  startQueue := k.startQueue.trans h.startQueue
  stopQueue := k.stopQueue.trans h.stopQueue
  members := k.members.trans h.members
  state := by
    rcases h.state with ⟨hs, hn⟩ | ⟨hs, hn⟩ <;> rcases k.state with ⟨ks, kn⟩ | ⟨ks, kn⟩
    · exact Or.inl ⟨ks.trans hs, kn.trans hn⟩
    · exact Or.inr ⟨ks, hs ▸ kn⟩
    · exact Or.inr ⟨ks.trans hs, hn⟩
    · exact absurd hs kn

theorem StartsTaken.shrinks {s t : State} (h : StartsTaken s t) : RunShrinks s t :=
  ⟨h.direction, h.scope, h.startQueue, h.stopQueue, h.members, h.state⟩

theorem syncRun_shrinks (i : TrayId) (t : Tray) (s : State) : RunShrinks s (putTray i t s) :=
  ⟨rfl, rfl, syncRun_startQueue _ _ _, syncRun_stopQueue _ _ _, syncRun_members _ _ _, Or.inl ⟨rfl, rfl⟩⟩

/-- Budget or sequencer may change the tray: it stands in a queue of the run, or EN is asserted. -/
def Touchable (s : State) (j : TrayId) : Prop :=
  j ∈ s.run.startQueue ∨ j ∈ s.run.stopQueue ∨ s.trays[j].enable = true

/-- What budget and sequencer can do, one after the other. -/
structure RackTurn (s t : State) : Prop where
  side : TraySideOnly s t
  tray : ∀ j, t.trays[j] = s.trays[j] ∨ Touchable s j
  run : RunShrinks s t
  records : s.notices.records <+: t.notices.records

theorem RackTurn.refl (s : State) : RackTurn s s :=
  ⟨.refl s, fun _ => Or.inl rfl, .of_eq rfl rfl, List.prefix_rfl⟩

theorem RackTurn.trans {s t u : State} (h : RackTurn s t) (k : RackTurn t u) : RackTurn s u where
  side := h.side.trans k.side
  tray := fun j => by
    rcases h.tray j with ht | ht
    · rcases k.tray j with kt | kq | kp | ke
      · exact Or.inl (kt.trans ht)
      · exact Or.inr (Or.inl (h.run.startQueue.subset kq))
      · exact Or.inr (Or.inr (Or.inl (h.run.stopQueue.subset kp)))
      · exact Or.inr (Or.inr (Or.inr (ht ▸ ke)))
    · exact Or.inr ht
  run := h.run.trans k.run
  records := h.records.trans k.records

/-- A tray that neither budget nor sequencer may change stays as it is. -/
theorem RackTurn.same {s t : State} (h : RackTurn s t) {j : TrayId} (hj : ¬ Touchable s j) : t.trays[j] = s.trays[j] :=
  (h.tray j).resolve_right hj

theorem Calm.turn {s t : State} (h : Calm s t) : RackTurn s t :=
  ⟨h.side, fun _ => Or.inl (by rw [h.trays]), .of_eq h.run (h.kinds _ (by decide) (by decide)), h.records⟩

theorem StartsTaken.turn {s t : State} (h : StartsTaken s t) : RackTurn s t :=
  ⟨h.side, fun j => (h.tray j).imp id fun hj => Or.inl hj.1, h.shrinks, h.records⟩

/-! ### A deficit -/

theorem deficitShedOne_shrinks (i : TrayId) (s : State) : RunShrinks s (deficitShedOne i s) := by
  have hpost : RunShrinks (putTray i (shedTray s.trays[i]) s) (deficitShedOne i s) :=
    .of_eq (post_run _ _ _ _) (post_noneOfKind _ _ _ (by decide))
  exact (syncRun_shrinks _ _ _).trans hpost

theorem deficitShedOne_other {i j : TrayId} (hj : j ≠ i) (s : State) : (deficitShedOne i s).trays[j] = s.trays[j] :=
  (post_tray _ _ _ _ _).trans ((putTray_get _ _ _ _).trans (if_neg fun e => hj e.symm))

theorem deficitShed_other {l : List TrayId} {j : TrayId} (hj : j ∉ l) (s : State) : (deficitShed l s).trays[j] = s.trays[j] := by
  induction l generalizing s with
  | nil => rfl
  | cons i l ih =>
    obtain ⟨hi, hl⟩ := not_or.mp fun h => hj (List.mem_cons.mpr h)
    unfold deficitShed
    split
    · rfl
    · exact (ih hl _).trans (deficitShedOne_other hi s)

theorem deficitShed_shrinks (l : List TrayId) (s : State) : RunShrinks s (deficitShed l s) := by
  induction l generalizing s with
  | nil => exact .of_eq rfl rfl
  | cons i l ih =>
    unfold deficitShed
    split
    · exact .of_eq rfl rfl
    · exact (deficitShedOne_shrinks i s).trans (ih _)

theorem deficitShed_records (l : List TrayId) (s : State) : s.notices.records <+: (deficitShed l s).notices.records := by
  induction l generalizing s with
  | nil => exact List.prefix_rfl
  | cons i l ih =>
    unfold deficitShed
    split
    · exact List.prefix_rfl
    · have hpost : s.notices.records <+: (deficitShedOne i s).notices.records :=
        post_records .shedTray (some i.val) (some s.trays[i].countedLive) (putTray i (shedTray s.trays[i]) s)
      exact hpost.trans (ih _)

theorem deficitCandidate_enable {t : Tray} (h : deficitCandidate t = true) : t.enable = true := by
  simp only [deficitCandidate, Bool.and_eq_true] at h
  exact h.1.1

/-- A deficit changes trays whose EN is asserted, and no others (R87). -/
theorem deficitShed_turn (s : State) : RackTurn s (deficitShed (deficitCandidates s) s) where
  side := deficitShed_side _ s
  tray := fun j => by
    by_cases hj : j ∈ deficitCandidates s
    · exact Or.inr (Or.inr (Or.inr (deficitCandidate_enable (mem_deficitCandidates.mp hj))))
    · exact Or.inl (deficitShed_other hj s)
  run := deficitShed_shrinks _ s
  records := deficitShed_records _ s

theorem evalDeficit_turn (s : State) : RackTurn s (evalDeficit s) := by
  unfold evalDeficit
  dsimp only
  split
  · exact .refl s
  · split
    · exact (setDeficit_tallied _ _ s).calm.turn
    · exact (((deficitStart_calm s).turn.trans (deficitShed_turn _)).trans (deficitFinish_calm _).turn).trans
        (recomputeGrants_tallied _).calm.turn

theorem afterBudget_turn (s0 s : State) : RackTurn s (afterBudget s0 s) := by
  have hgrants : Tallied s (if s.kT = s0.kT then s else recomputeGrants s) := by
    split
    · exact .refl s
    · exact recomputeGrants_tallied s
  unfold afterBudget
  dsimp only
  split
  · exact hgrants.calm.turn
  · exact hgrants.calm.turn.trans (evalDeficit_turn _)

/-! ### The stop rule -/

theorem stopTray_enable (t : Tray) : (stopTray t).enable = false := by
  unfold stopTray
  split <;> simp_all [Tray.enable, enterOff, enterStopping]

theorem Tray.stoppable_enable {t : Tray} (h : t.stoppable = true) : t.enable = true := by
  simp only [Tray.stoppable, Bool.and_eq_true] at h
  exact h.1.1

theorem stopTray_stoppable (t : Tray) : (stopTray t).stoppable = false :=
  Bool.eq_false_iff.mpr fun h => Bool.false_ne_true ((stopTray_enable t).symm.trans (Tray.stoppable_enable h))

theorem stopHead_turn {h : TrayId} {s : State} (hh : h ∈ s.run.stopQueue) : RackTurn s (stopHead h s) := by
  have hput : RackTurn s (putTray h (stopTray s.trays[h]) s) :=
    ⟨putTray_side _ _ _, fun j => by
      rw [putTray_get]
      split
      · next e => exact Or.inr (Or.inr (Or.inl (e ▸ hh)))
      · exact Or.inl rfl, syncRun_shrinks _ _ _, List.prefix_rfl⟩
  have hturn := hput.trans (afterBudget_turn s _)
  unfold stopHead
  dsimp only
  generalize afterBudget s (putTray h (stopTray s.trays[h]) s) = u at hturn
  refine hturn.trans ⟨run_side _ _, fun _ => Or.inl rfl, ?_, List.prefix_rfl⟩
  exact ⟨rfl, rfl, .refl _, .refl _, .refl _, Or.inl ⟨rfl, rfl⟩⟩

theorem stopLoop_turn (n : Nat) (s : State) : RackTurn s (stopLoop n s) := by
  induction n generalizing s with
  | zero => exact .refl s
  | succ n ih =>
    unfold stopLoop
    split
    · exact .refl s
    · next h rest hq =>
      split
      · exact .refl s
      · exact (stopHead_turn (by rw [hq]; exact List.mem_cons_self)).trans (ih _)

theorem testDownDone_complete {s : State} (h : downComplete s = true) :
    testDownDone s =
      { post .runDone (some 1) (some s.run.stoppedCount) s with run := { s.run with state := .idle, stoppedCount := 0 } } := by
  unfold testDownDone
  rw [if_pos h]
  dsimp only
  rw [post_run]

theorem testDownDone_turn (s : State) : RackTurn s (testDownDone s) := by
  by_cases hc : downComplete s = true
  · have hne : s.run.state ≠ .idle := fun e => by
      simp [downComplete, e] at hc
    have hside := testDownDone_side s
    rw [testDownDone_complete hc] at hside ⊢
    exact ⟨hside, fun _ => Or.inl (post_tray _ _ _ _ _), ⟨rfl, rfl, .refl _, .refl _, .refl _, Or.inr ⟨rfl, hne⟩⟩,
      post_records _ _ _ _⟩
  · rw [testDownDone, if_neg hc]
    exact .refl s

theorem evalStop_turn (s : State) : RackTurn s (evalStop s) := by
  unfold evalStop
  split
  · exact (stopLoop_turn _ s).trans (testDownDone_turn _)
  · exact .refl s

theorem seqAfter_turn (s0 s : State) : RackTurn s (seqAfter s0 s) := by
  unfold seqAfter
  split
  · exact testDownDone_turn s
  · split
    · exact (evalStart_taken s).turn.trans (testUpDone_taken _).turn
    · exact (testUpDone_taken s).turn

/-- What follows a change of trays. -/
theorem propagate_turn (s0 s : State) : RackTurn s (propagate s0 s) :=
  (afterBudget_turn s0 s).trans (seqAfter_turn s0 _)

/-! ### A notice that comes first -/

theorem NoticeNext.then_more {n : Notice} {s t u : State} (h : NoticeNext n s t) (hmore : t.notices.records <+: u.notices.records) :
    NoticeNext n s u := fun hroom => (h hroom).trans hmore

theorem NoticeIn.of_next {n : Notice} {s t : State} (h : NoticeNext n s t) (hmore : s.notices.records <+: t.notices.records) :
    NoticeIn n t := fun hroom =>
  (h (lt_of_le_of_lt hmore.length_le hroom)).subset (List.mem_append_right _ List.mem_cons_self)

end Sys2Proof.Machine
end

section
/-! PROOFS. The control of single trays (R7, R15, R21 to R27). -/
namespace Sys2Proof.Machine

theorem replying_side {s t : State} (h : TraySideOnly s t) (r : Request) (a : Answer) :
    TraySideOnly (replying r a s) (replying r a t) := by
  have hhli : (replying r a t).hli = (replying r a s).hli := by
    unfold replying
    rw [h.hli]
  exact ⟨h.time, h.pins, h.mbc, h.rects, h.bbus, h.capacity, h.floorEff, h.ilc, h.channels, h.loops, h.stagedScan, h.nextScan, h.test,
    hhli, h.store, h.params, h.held, h.freeCount, h.pending⟩

/-! ### A tray that has left the run -/

theorem not_stoppable_of_not_enable {t : Tray} (h : t.enable = false) : t.stoppable = false :=
  Bool.eq_false_iff.mpr fun hs => Bool.false_ne_true (h.symm.trans (Tray.stoppable_enable hs))

theorem putTray_not_startQueue {i : TrayId} {t : Tray} {s : State} (hq : t.state ≠ .queued) :
    i ∉ (putTray i t s).run.startQueue := by
  simp only [putTray, syncRun, if_neg hq, mem_without]
  exact fun h => h.2 rfl

theorem putTray_not_stopQueue {i : TrayId} {t : Tray} {s : State} (hs : t.stoppable = false) :
    i ∉ (putTray i t s).run.stopQueue := by
  simp only [putTray, syncRun, if_neg (Bool.eq_false_iff.mp hs), mem_without]
  exact fun h => h.2 rfl

theorem putTray_not_members {i : TrayId} {t : Tray} {s : State} (h : t.state = .off ∨ t.owner = .manual) :
    i ∉ (putTray i t s).run.members := by
  simp only [putTray, syncRun, if_pos h, mem_without]
  exact fun h => h.2 rfl

/-- A tray without EN that is not QUEUED is out of reach of budget and sequencer. -/
theorem putTray_untouchable {i : TrayId} {t : Tray} {s : State} (he : t.enable = false) (hq : t.state ≠ .queued) :
    ¬ Touchable (putTray i t s) i := by
  rintro (h | h | h)
  · exact putTray_not_startQueue hq h
  · exact putTray_not_stopQueue (not_stoppable_of_not_enable he) h
  · rw [putTray_get, if_pos rfl] at h
    exact Bool.false_ne_true (he.symm.trans h)

/-- The tray keeps its record through what follows. -/
theorem propagate_putTray {i : TrayId} {t : Tray} {s : State} (s0 : State) (he : t.enable = false) (hq : t.state ≠ .queued) :
    (propagate s0 (putTray i t s)).trays[i] = t :=
  ((propagate_turn s0 _).same (putTray_untouchable he hq)).trans ((putTray_get _ _ _ _).trans (if_pos rfl))

theorem propagate_side_putTray (i : TrayId) (t : Tray) (s s0 : State) : TraySideOnly s (propagate s0 (putTray i t s)) :=
  (putTray_side _ _ _).trans (propagate_side _ _)

/-! ### A change of no consequence -/

/-- Nothing has come about at which the budget or the start rule is evaluated. -/
structure NoEvent (s0 s : State) : Prop where
  kT : s.kT = s0.kT
  kLive : s.kLive = s0.kLive
  inrush : ∀ j : TrayId, s0.trays[j].state = .inrush → s.trays[j].state = .inrush
  startQueue : s.run.startQueue = s0.run.startQueue

theorem NoEvent.afterBudget {s0 s : State} (h : NoEvent s0 s) : afterBudget s0 s = s := by
  unfold Machine.afterBudget
  dsimp only
  rw [if_pos h.kT, if_pos h.kLive]

theorem NoEvent.startEvent {s0 s : State} (h : NoEvent s0 s) : startEvent s0 s = false := by
  have hinrush : (allTrays.any fun i => s0.trays[i].state == .inrush && s.trays[i].state != .inrush) = false :=
    List.any_eq_false.mpr fun i _ hi => by
      obtain ⟨h0, h1⟩ := Bool.and_eq_true_iff.mp hi
      exact bne_iff_ne.mp h1 (h.inrush i (beq_iff_eq.mp h0))
  have hjoined : (s0.run.startQueue.any fun i => !s0.run.startQueue.contains i) = false :=
    List.any_eq_false.mpr fun i hi => by simpa using hi
  unfold Machine.startEvent
  rw [h.kT, hinrush, h.startQueue, hjoined, bne_self_eq_false, decide_eq_false (Nat.lt_irrefl _)]
  rfl

/-- Only the completion test follows. -/
theorem NoEvent.propagate {s0 s : State} (h : NoEvent s0 s) :
    propagate s0 s = match s.run.direction with | .down => testDownDone s | .up => testUpDone s := by
  unfold Machine.propagate seqAfter
  rw [h.afterBudget, h.startEvent]
  cases s.run.direction <;> rfl

theorem testDownDone_trays (s : State) : (testDownDone s).trays = s.trays := by
  by_cases hc : downComplete s = true
  · rw [testDownDone_complete hc]
    exact post_trays _ _ _ _
  · rw [testDownDone, if_neg hc]

theorem testUpDone_trays (s : State) : (testUpDone s).trays = s.trays := by
  by_cases hc : upComplete s = true
  · rw [testUpDone_complete hc]
    exact post_trays _ _ _ _
  · rw [testUpDone, if_neg hc]

theorem testDownDone_startQueue (s : State) : (testDownDone s).run.startQueue = s.run.startQueue := by
  by_cases hc : downComplete s = true
  · rw [testDownDone_complete hc]
  · rw [testDownDone, if_neg hc]

theorem testUpDone_startQueue (s : State) : (testUpDone s).run.startQueue = s.run.startQueue := by
  by_cases hc : upComplete s = true
  · rw [testUpDone_complete hc]
  · rw [testUpDone, if_neg hc]

theorem NoEvent.trays {s0 s : State} (h : NoEvent s0 s) : (Machine.propagate s0 s).trays = s.trays := by
  rw [h.propagate]
  split
  · exact testDownDone_trays s
  · exact testUpDone_trays s

theorem NoEvent.queue {s0 s : State} (h : NoEvent s0 s) : (Machine.propagate s0 s).run.startQueue = s.run.startQueue := by
  rw [h.propagate]
  split
  · exact testDownDone_startQueue s
  · exact testUpDone_startQueue s

/-- A tray whose state and load stay as they are brings nothing about. -/
theorem noEvent_putTray {i : TrayId} {t : Tray} {s : State} (hplace : i ∈ s.run.startQueue → s.trays[i].state = .queued)
    (hstate : t.state = s.trays[i].state)
    (hcause : t.cause = s.trays[i].cause) (halloc : t.cfg.alloc = s.trays[i].cfg.alloc) (hsurge : t.cfg.surge = s.trays[i].cfg.surge) :
    NoEvent s (putTray i t s) where
  kT := by
    have hcounted : t.counted = s.trays[i].counted := by simp only [Tray.counted, hstate, hcause, halloc, hsurge]
    have h := kT_putTray i t s
    rw [hcounted] at h
    exact Nat.add_right_cancel h
  kLive := by
    have hcounted : t.countedLive = s.trays[i].countedLive := by
      simp only [Tray.countedLive, Tray.counted, hstate, hcause, halloc, hsurge]
    have h := kLive_putTray i t s
    rw [hcounted] at h
    exact Nat.add_right_cancel h
  inrush := fun j hj => by
    rw [putTray_get]
    split
    · next e => subst e; exact hstate.trans hj
    · exact hj
  startQueue := by
    simp only [putTray, syncRun]
    split
    · rfl
    · next hq => exact without_eq_self fun hi => hq (hstate.trans (hplace hi))

theorem propagate_noEvent_trays {i : TrayId} {t : Tray} {s : State} (hplace : placeLaw s i) (hstate : t.state = s.trays[i].state)
    (hcause : t.cause = s.trays[i].cause) (halloc : t.cfg.alloc = s.trays[i].cfg.alloc) (hsurge : t.cfg.surge = s.trays[i].cfg.surge) :
    (propagate s (putTray i t s)).trays = s.trays.set i t :=
  (noEvent_putTray hplace.1.mp hstate hcause halloc hsurge).trays

end Sys2Proof.Machine
end

section
/-! PROOFS. TRAY-CONTROL and CLEAR-FAULT (R21 to R27). -/
namespace Sys2Proof.Machine

/-! ### TRAY-CONTROL by its action code -/

/-- What TRAY-CONTROL does with a tray, by its action code (R21). -/
def trayAction (action : Nat) (i : TrayId) (s : State) : Answer × State :=
  match action with
  | 0 => trayOn i s
  | 1 => trayOff i s
  | 2 => trayHold i s
  | 3 => trayUnhold i s
  | 4 => trayPin i s
  | 5 => trayUnpin i s
  | 6 => trayOwnerAuto i s
  | 7 => trayOwnerManual i s
  | _ => refuse .badIndex s

theorem answerTrayControl_val (i : TrayId) (action : Nat) (s : State) : answerTrayControl i action s = trayAction action i s :=
  onTray_val i _ s

theorem answerTrayControl_badIndex {n : Nat} (hn : 24 ≤ n) (action : Nat) (s : State) :
    answerTrayControl n action s = refuse .badIndex s := onTray_badIndex hn _ s

/-! ### Off -/

theorem trayOff_wrongState {i : TrayId} {s : State}
    (h : s.trays[i].state = .off ∨ s.trays[i].state = .stopping ∨ s.trays[i].state = .failed) :
    trayOff i s = refuse .wrongState s := by
  refine if_pos ?_
  rcases h with h | h | h <;> simp only [Tray.enable, h] <;> rfl

theorem not_off_iff {t : Tray} : (!(t.state == .queued || t.enable)) = false ↔ t.state = .queued ∨ t.state = .inrush ∨ t.state = .on := by
  simp only [Tray.enable, Bool.not_eq_false', Bool.or_eq_true, beq_iff_eq]

theorem trayOff_pinned {i : TrayId} {s : State}
    (h : s.trays[i].state = .queued ∨ s.trays[i].state = .inrush ∨ s.trays[i].state = .on) (hp : s.trays[i].cfg.pinned = true) :
    trayOff i s = refuse .pinned s :=
  (if_neg (Bool.eq_false_iff.mp (not_off_iff.mpr h))).trans (if_pos hp)

theorem trayOff_taken {i : TrayId} {s : State}
    (h : s.trays[i].state = .queued ∨ s.trays[i].state = .inrush ∨ s.trays[i].state = .on) (hp : s.trays[i].cfg.pinned = false) :
    trayOff i s = ack (propagate s (putTray i (stopTray s.trays[i]) s)) :=
  (if_neg (Bool.eq_false_iff.mp (not_off_iff.mpr h))).trans (if_neg (Bool.eq_false_iff.mp hp))

theorem stopTray_queued {t : Tray} (h : t.state = .queued) : stopTray t = enterOff t := by
  unfold stopTray
  rw [h]

theorem stopTray_running {t : Tray} (h : t.state = .inrush ∨ t.state = .on) : stopTray t = enterStopping t := by
  unfold stopTray
  rcases h with h | h <;> rw [h]

theorem stopTray_notQueued (t : Tray) : (stopTray t).state ≠ .queued := by
  unfold stopTray
  split <;> simp_all [enterOff, enterStopping]

theorem trayOff_outcome {i : TrayId} {s t : State} (ht : t = propagate s (putTray i (stopTray s.trays[i]) s)) :
    TraySideOnly s t ∧ t.trays[i] = stopTray s.trays[i] ∧ i ∉ t.run.startQueue ∧ i ∉ t.run.stopQueue ∧
      (s.trays[i].state = .queued → i ∉ t.run.members) := by
  have hrun := (propagate_turn s (putTray i (stopTray s.trays[i]) s)).run
  rw [← ht] at hrun
  refine ⟨ht ▸ propagate_side_putTray _ _ _ _, ht ▸ propagate_putTray _ (stopTray_enable _) (stopTray_notQueued _),
    fun hi => putTray_not_startQueue (stopTray_notQueued _) (hrun.startQueue.subset hi),
    fun hi => putTray_not_stopQueue (stopTray_stoppable _) (hrun.stopQueue.subset hi),
    fun hq hi => putTray_not_members (Or.inl ?_) (hrun.members.subset hi)⟩
  rw [stopTray_queued hq]
  rfl

/-- Settles O29. -/
theorem hostStop : Obligations.HostStop := by
  intro s tag n i hready _
  refine ⟨fun hn => ?_, fun h => ?_, fun h hp => ?_, fun h hp => ?_, fun h hp => ?_⟩
  · exact request_of_answer hready (answerTrayControl_badIndex hn 1 _)
  · exact request_of_answer hready ((answerTrayControl_val i 1 _).trans (trayOff_wrongState (by exact h)))
  · exact request_of_answer hready ((answerTrayControl_val i 1 _).trans (trayOff_pinned (by exact h) (by exact hp)))
  all_goals
    have hany : s.trays[i].state = .queued ∨ s.trays[i].state = .inrush ∨ s.trays[i].state = .on := by tauto
    have hanswer := request_of_answer (kind := 0x13) (tag := tag) (body := .trayControl i 1) hready
      ((answerTrayControl_val i 1 _).trans (trayOff_taken (s := asked ⟨0x13, tag, .trayControl i 1⟩ s) hany hp))
    obtain ⟨hside, htray, hstart, hstop, hmembers⟩ := trayOff_outcome (Eq.refl
      (propagate (asked ⟨0x13, tag, .trayControl i 1⟩ s)
        (putTray i (stopTray (asked ⟨0x13, tag, .trayControl i 1⟩ s).trays[i]) (asked ⟨0x13, tag, .trayControl i 1⟩ s))))
    generalize propagate _ _ = t at *
  · exact ⟨_, hanswer, replying_side hside _ _, htray.trans (stopTray_queued h), hstart, hmembers h⟩
  · exact ⟨_, hanswer, replying_side hside _ _, htray.trans (stopTray_running h), hstop⟩

/-! ### Hold, pin and owner -/

theorem trayHold_eq (i : TrayId) (s : State) : trayHold i s = ack (propagate s (putTray i (holdTray s.trays[i]) s)) := rfl

theorem trayOwnerManual_eq (i : TrayId) (s : State) :
    trayOwnerManual i s = ack (propagate s (putTray i (makeManual s.trays[i]) s)) := rfl

theorem holdTray_queued {t : Tray} (h : t.state = .queued) :
    holdTray t = enterOff { t with locks := { t.locks with hold := true } } := if_pos h

theorem holdTray_notQueued {t : Tray} (h : t.state ≠ .queued) :
    holdTray t = { t with locks := { t.locks with hold := true } } := if_neg h

theorem makeManual_queued {t : Tray} (h : t.state = .queued) : makeManual t = enterOff { t with owner := .manual } := if_pos h

theorem makeManual_notQueued {t : Tray} (h : t.state ≠ .queued) : makeManual t = { t with owner := .manual } := if_neg h

theorem makeManual_owner (t : Tray) : (makeManual t).owner = .manual := by
  unfold makeManual
  dsimp only
  split <;> rfl

theorem makeManual_stoppable (t : Tray) : (makeManual t).stoppable = false := by
  rw [Tray.stoppable, makeManual_owner]
  simp

theorem trayPin_busy {i : TrayId} {s : State} (h : s.store.saving ≠ none) : trayPin i s = refuse .busy s :=
  if_pos (saveInFlight_of_ne s h)

theorem trayUnpin_busy {i : TrayId} {s : State} (h : s.store.saving ≠ none) : trayUnpin i s = refuse .busy s :=
  if_pos (saveInFlight_of_ne s h)

theorem trayPin_taken {i : TrayId} {s : State} (h : s.store.saving = none) :
    trayPin i s = ack (propagate s (putTray i (setPinned true s.trays[i]) s)) :=
  if_neg (Bool.eq_false_iff.mp (saveInFlight_of_none s h))

theorem setPinned_stoppable (t : Tray) : (setPinned true t).stoppable = false := by
  simp [Tray.stoppable, setPinned]

theorem unpin_stoppable {t : Tray} (h : t.stoppable = true) : (setPinned false t).stoppable = true := by
  simp only [Tray.stoppable, Bool.and_eq_true] at h
  simp only [Tray.stoppable, setPinned, Bool.not_false, Bool.and_true, Bool.and_eq_true]
  exact h.1

/-- Without a save the tray may be stopped again by a DOWN run (R25). -/
theorem trayUnpin_taken {i : TrayId} {s : State} (h : s.store.saving = none) (hplace : placeLaw s i) :
    trayUnpin i s = ack { s with trays := s.trays.set i (setPinned false s.trays[i]) } :=
  (if_neg (Bool.eq_false_iff.mp (saveInFlight_of_none s h))).trans
    (congrArg ack (putTray_eq_set i _ s hplace rfl rfl unpin_stoppable))

theorem trayUnhold_eq {i : TrayId} {s : State} (hplace : placeLaw s i) :
    trayUnhold i s =
      ack { s with trays := s.trays.set i { s.trays[i] with locks := { s.trays[i].locks with hold := false } } } :=
  congrArg ack (putTray_eq_set i { s.trays[i] with locks := { s.trays[i].locks with hold := false } } s hplace rfl rfl fun h => h)

theorem trayOwnerAuto_eq {i : TrayId} {s : State} (hplace : placeLaw s i) :
    trayOwnerAuto i s = ack { s with trays := s.trays.set i { s.trays[i] with owner := .auto } } := by
  obtain ⟨hqueued, -, hstoppable, hmember, -⟩ := hplace
  have hrun : syncRun i { s.trays[i] with owner := .auto } s.run = s.run :=
    syncRun_eq_self i _ s.run (fun hne hi => hne (hqueued.mp hi))
      (fun hno hi => by
        have h := hstoppable hi
        simp only [Tray.stoppable, Bool.and_eq_true] at h
        have hno' : (s.trays[i].enable && (Owner.auto == Owner.auto) && !s.trays[i].cfg.pinned) = false := hno
        rw [h.1.1, h.2] at hno'
        exact Bool.noConfusion hno')
      (fun hor hi => hor.elim (hmember hi).1 Owner.noConfusion)
  exact congrArg (fun r => ack { s with trays := s.trays.set i { s.trays[i] with owner := .auto }, run := r }) hrun

theorem trayHold_outcome {i : TrayId} {s : State} (hplace : placeLaw s i) :
    TraySideOnly s (propagate s (putTray i (holdTray s.trays[i]) s)) ∧
    (s.trays[i].state = .queued →
      (propagate s (putTray i (holdTray s.trays[i]) s)).trays[i] =
          enterOff { s.trays[i] with locks := { s.trays[i].locks with hold := true } } ∧
        i ∉ (propagate s (putTray i (holdTray s.trays[i]) s)).run.startQueue) ∧
    (s.trays[i].state ≠ .queued →
      (propagate s (putTray i (holdTray s.trays[i]) s)).trays =
        s.trays.set i { s.trays[i] with locks := { s.trays[i].locks with hold := true } }) := by
  refine ⟨propagate_side_putTray _ _ _ _, fun hq => ?_, fun hq => ?_⟩
  · rw [holdTray_queued hq]
    exact ⟨propagate_putTray _ rfl TrayState.noConfusion,
      fun hi => putTray_not_startQueue TrayState.noConfusion ((propagate_turn _ _).run.startQueue.subset hi)⟩
  · rw [holdTray_notQueued hq]
    exact propagate_noEvent_trays hplace rfl rfl rfl rfl

theorem trayOwnerManual_outcome {i : TrayId} {s : State} (hplace : placeLaw s i) :
    TraySideOnly s (propagate s (putTray i (makeManual s.trays[i]) s)) ∧
    (s.trays[i].state = .queued →
      (propagate s (putTray i (makeManual s.trays[i]) s)).trays[i] = enterOff { s.trays[i] with owner := .manual } ∧
        i ∉ (propagate s (putTray i (makeManual s.trays[i]) s)).run.startQueue) ∧
    (s.trays[i].state ≠ .queued →
      (propagate s (putTray i (makeManual s.trays[i]) s)).trays = s.trays.set i { s.trays[i] with owner := .manual }) ∧
    i ∉ (propagate s (putTray i (makeManual s.trays[i]) s)).run.stopQueue ∧
    i ∉ (propagate s (putTray i (makeManual s.trays[i]) s)).run.members := by
  have hrun := (propagate_turn s (putTray i (makeManual s.trays[i]) s)).run
  refine ⟨propagate_side_putTray _ _ _ _, fun hq => ?_, fun hq => ?_, fun hi => putTray_not_stopQueue (makeManual_stoppable _) (hrun.stopQueue.subset hi),
    fun hi => putTray_not_members (Or.inr (makeManual_owner _)) (hrun.members.subset hi)⟩
  · rw [makeManual_queued hq]
    exact ⟨propagate_putTray _ rfl TrayState.noConfusion,
      fun hi => putTray_not_startQueue TrayState.noConfusion ((propagate_turn _ _).run.startQueue.subset hi)⟩
  · rw [makeManual_notQueued hq]
    exact propagate_noEvent_trays hplace rfl rfl rfl rfl

theorem trayPin_outcome {i : TrayId} {s : State} (hplace : placeLaw s i) :
    TraySideOnly s (propagate s (putTray i (setPinned true s.trays[i]) s)) ∧
    (propagate s (putTray i (setPinned true s.trays[i]) s)).trays = s.trays.set i (setPinned true s.trays[i]) ∧
    i ∉ (propagate s (putTray i (setPinned true s.trays[i]) s)).run.stopQueue ∧
    (propagate s (putTray i (setPinned true s.trays[i]) s)).run.startQueue = s.run.startQueue := by
  have hevent : NoEvent s (putTray i (setPinned true s.trays[i]) s) := noEvent_putTray hplace.1.mp rfl rfl rfl rfl
  exact ⟨propagate_side_putTray _ _ _ _, hevent.trays, fun hi => putTray_not_stopQueue (setPinned_stoppable _) ((propagate_turn _ _).run.stopQueue.subset hi),
    hevent.queue.trans hevent.startQueue⟩

/-- Settles O30. -/
theorem trayControls : Obligations.TrayControls := by
  intro s tag n i hready hlaw
  obtain ⟨-, -, hplace⟩ := hlaw.1 i
  refine ⟨fun hn => ⟨?_, ?_, ?_, ?_, ?_, ?_⟩, ?_, ?_, ?_, ?_, fun hsave => ⟨?_, ?_⟩, fun hsave => ?_, fun hsave => ?_⟩
  · exact request_of_answer hready (answerTrayControl_badIndex hn 2 _)
  · exact request_of_answer hready (answerTrayControl_badIndex hn 3 _)
  · exact request_of_answer hready (answerTrayControl_badIndex hn 4 _)
  · exact request_of_answer hready (answerTrayControl_badIndex hn 5 _)
  · exact request_of_answer hready (answerTrayControl_badIndex hn 6 _)
  · exact request_of_answer hready (answerTrayControl_badIndex hn 7 _)
  · have hanswer := request_of_answer (kind := 0x13) (tag := tag) (body := .trayControl i 2) hready
      ((answerTrayControl_val i 2 _).trans (trayHold_eq i (asked ⟨0x13, tag, .trayControl i 2⟩ s)))
    obtain ⟨hside, houtcome⟩ := trayHold_outcome (s := asked ⟨0x13, tag, .trayControl i 2⟩ s) hplace
    generalize propagate _ _ = t at *
    exact ⟨_, hanswer, replying_side hside _ _, houtcome⟩
  · exact request_of_answer hready
      ((answerTrayControl_val i 3 _).trans (trayUnhold_eq (s := asked ⟨0x13, tag, .trayControl i 3⟩ s) hplace))
  · exact request_of_answer hready
      ((answerTrayControl_val i 6 _).trans (trayOwnerAuto_eq (s := asked ⟨0x13, tag, .trayControl i 6⟩ s) hplace))
  · have hanswer := request_of_answer (kind := 0x13) (tag := tag) (body := .trayControl i 7) hready
      ((answerTrayControl_val i 7 _).trans (trayOwnerManual_eq i (asked ⟨0x13, tag, .trayControl i 7⟩ s)))
    obtain ⟨hside, houtcome⟩ := trayOwnerManual_outcome (s := asked ⟨0x13, tag, .trayControl i 7⟩ s) hplace
    generalize propagate _ _ = t at *
    exact ⟨_, hanswer, replying_side hside _ _, houtcome⟩
  · exact request_of_answer hready ((answerTrayControl_val i 4 _).trans (trayPin_busy (by exact hsave)))
  · exact request_of_answer hready ((answerTrayControl_val i 5 _).trans (trayUnpin_busy (by exact hsave)))
  · have hanswer := request_of_answer (kind := 0x13) (tag := tag) (body := .trayControl i 4) hready
      ((answerTrayControl_val i 4 _).trans (trayPin_taken (s := asked ⟨0x13, tag, .trayControl i 4⟩ s) hsave))
    obtain ⟨hside, houtcome⟩ := trayPin_outcome (s := asked ⟨0x13, tag, .trayControl i 4⟩ s) hplace
    generalize propagate _ _ = t at *
    exact ⟨_, hanswer, replying_side hside _ _, houtcome⟩
  · exact request_of_answer hready
      ((answerTrayControl_val i 5 _).trans (trayUnpin_taken (s := asked ⟨0x13, tag, .trayControl i 5⟩ s) hsave hplace))

/-! ### CLEAR-FAULT -/

theorem answerClearFault_badIndex {n : Nat} (hn : 24 ≤ n) (s : State) : answerClearFault n s = refuse .badIndex s :=
  onTray_badIndex hn _ s

theorem answerClearFault_wrongState {i : TrayId} {s : State} (h : s.trays[i].state ≠ .failed) :
    answerClearFault i s = refuse .wrongState s := (onTray_val i _ s).trans (if_neg h)

theorem answerClearFault_taken {i : TrayId} {s : State} (h : s.trays[i].state = .failed) :
    answerClearFault i s = ack (clearTray i s) := (onTray_val i _ s).trans (if_pos h)

/-- The part with a FAILED tray OFF and the notice of its PG posted (R27). -/
def clearedTray (i : TrayId) (s : State) : State :=
  if s.trays[i].cause = some .stuckOn ∧ s.pins.pg[i] = true then
    post .trayUnexpectedPg (some i.val) none (putTray i (enterOff s.trays[i]) s)
  else putTray i (enterOff s.trays[i]) s

theorem clearTray_eq (i : TrayId) (s : State) : clearTray i s = propagate s (clearedTray i s) := rfl

theorem clearedTray_side (i : TrayId) (s : State) : TraySideOnly s (clearedTray i s) := by
  unfold clearedTray
  split
  · exact (putTray_side _ _ _).trans (post_side _ _ _ _)
  · exact putTray_side _ _ _

theorem clearedTray_get (i : TrayId) (s : State) : (clearedTray i s).trays[i] = enterOff s.trays[i] := by
  have hget : (putTray i (enterOff s.trays[i]) s).trays[i] = enterOff s.trays[i] := (putTray_get _ _ _ _).trans (if_pos rfl)
  unfold clearedTray
  split
  · rw [post_tray, hget]
  · exact hget

theorem clearedTray_untouchable (i : TrayId) (s : State) : ¬ Touchable (clearedTray i s) i := by
  have hput : ¬ Touchable (putTray i (enterOff s.trays[i]) s) i := putTray_untouchable rfl TrayState.noConfusion
  unfold clearedTray
  split
  · rw [Touchable, post_run, post_tray]
    exact hput
  · exact hput

theorem clearedTray_next {i : TrayId} {s : State} (hstuck : s.trays[i].cause = some .stuckOn) (hpg : s.pins.pg[i] = true) :
    NoticeNext { kind := .trayUnexpectedPg, subject := some i.val, value := none, time := s.time } s (clearedTray i s) := by
  rw [clearedTray, if_pos ⟨hstuck, hpg⟩]
  exact noticeNext_post (by rfl) (by rfl)

theorem clearTray_outcome (i : TrayId) (s : State) :
    TraySideOnly s (clearTray i s) ∧ (clearTray i s).trays[i] = enterOff s.trays[i] ∧
      (s.trays[i].cause = some .stuckOn → s.pins.pg[i] = true →
        NoticeNext { kind := .trayUnexpectedPg, subject := some i.val, value := none, time := s.time } s (clearTray i s)) := by
  have hturn := propagate_turn s (clearedTray i s)
  rw [clearTray_eq]
  exact ⟨(clearedTray_side i s).trans hturn.side, (hturn.same (clearedTray_untouchable i s)).trans (clearedTray_get i s),
    fun hstuck hpg => (clearedTray_next hstuck hpg).then_more hturn.records⟩

/-- Settles O31. -/
theorem clearFault : Obligations.ClearFault := by
  intro s tag n i hready _
  refine ⟨fun hn => ?_, fun h => ?_, fun h => ?_⟩
  · exact request_of_answer hready (answerClearFault_badIndex hn _)
  · exact request_of_answer hready (answerClearFault_wrongState (by exact h))
  · have hanswer := request_of_answer (kind := 0x14) (tag := tag) (body := .clearFault i) hready
      (answerClearFault_taken (s := asked ⟨0x14, tag, .clearFault i⟩ s) h)
    obtain ⟨hside, htray, hnext⟩ := clearTray_outcome i (asked ⟨0x14, tag, .clearFault i⟩ s)
    generalize clearTray i _ = t at *
    exact ⟨_, hanswer, replying_side hside _ _, htray, (congrArg Tray.counted htray).trans rfl, hnext⟩

end Sys2Proof.Machine
end

section
/-! PROOFS. A MANUAL start (R7, R22, R79). -/
namespace Sys2Proof.Machine

/-! ### A change of trays without a deficit -/

theorem startedOrSame_congr {s t u : State} (hs : t.trays = s.trays) (hr : t.run = s.run) {j : TrayId} (h : StartedOrSame t u j) :
    StartedOrSame s u j := by
  rw [StartedOrSame, hs, hr] at h
  exact h

theorem seqAfter_startedOrSame (s0 s : State) (j : TrayId) : StartedOrSame s (seqAfter s0 s) j := by
  unfold seqAfter
  split
  · exact Or.inl (by rw [testDownDone_trays])
  · split
    · exact ((evalStart_taken s).trans (testUpDone_taken _)).tray j
    · exact (testUpDone_taken s).tray j

/-- Where a deficit finds nothing to shed, trays change by starts out of the start queue only. -/
theorem propagate_startedOrSame {s : State} (h : DeficitLaw s) (s0 : State) (j : TrayId) : StartedOrSame s (propagate s0 s) j := by
  have hcalm : Calm s (afterBudget s0 s) := afterBudget_calm h
  exact startedOrSame_congr hcalm.trays hcalm.run (seqAfter_startedOrSame s0 _ j)

theorem StartedOrSame.same {s t : State} {j : TrayId} (h : StartedOrSame s t j) (hj : j ∉ s.run.startQueue) :
    t.trays[j] = s.trays[j] := h.resolve_right fun hq => hj hq.1

theorem deficitLaw_of_room {s : State} (h : s.kT ≤ s.budget.c) : DeficitLaw s := fun _ => Or.inl ((kLive_le_kT s).trans h)

/-! ### The refusals -/

theorem lockedOut_iff {t : Tray} : (!t.locks.isEmpty || t.state == .failed) = true ↔ t.locks ≠ noLockouts ∨ t.state = .failed := by
  have hempty : t.locks.isEmpty = true ↔ t.locks = noLockouts :=
    ⟨Lockouts.isEmpty_eq, fun h => by rw [h]; rfl⟩
  simp only [Bool.or_eq_true, Bool.not_eq_true', ← Bool.not_eq_true, hempty, beq_iff_eq, ne_eq]

theorem trayOn_held {i : TrayId} {s : State} (h : s.ilc.state ≠ .normal) : trayOn i s = refuse .held s := if_pos h

theorem trayOn_lockedOut {i : TrayId} {s : State} (hn : s.ilc.state = .normal)
    (h : s.trays[i].locks ≠ noLockouts ∨ s.trays[i].state = .failed) : trayOn i s = refuse .lockedOut s :=
  (if_neg (not_not_intro hn)).trans (if_pos (lockedOut_iff.mpr h))

section
variable {i : TrayId} {s : State} (hn : s.ilc.state = .normal) (hl : s.trays[i].locks = noLockouts)
include hn hl

theorem trayOn_wrongState (hf : s.trays[i].state ≠ .failed)
    (h : s.trays[i].state ≠ .off ∨ s.trays[i].present = false ∨ s.trays[i].owner = .auto) : trayOn i s = refuse .wrongState s :=
  (if_neg (not_not_intro hn)).trans ((if_neg fun hb => (lockedOut_iff.mp hb).elim (fun h => h hl) hf).trans (if_pos h))

variable (hoff : s.trays[i].state = .off) (hp : s.trays[i].present = true) (ho : s.trays[i].owner = .manual)
include hoff hp ho

theorem trayOn_able :
    trayOn i s =
      if s.params.slots ≤ s.inrushCount then refuse .slotsFull s
      else if admission s s.trays[i] ≠ .start then refuse .noBudget s
      else ack (manualStart i s) := by
  refine (if_neg (not_not_intro hn)).trans ((if_neg fun hb => (lockedOut_iff.mp hb).elim (fun h => h hl) fun h => ?_).trans (if_neg ?_))
  · exact TrayState.noConfusion (hoff.symm.trans h)
  · rintro (h | h | h)
    · exact h hoff
    · exact Bool.false_ne_true (h.symm.trans hp)
    · exact Owner.noConfusion (h.symm.trans ho)

theorem trayOn_slotsFull (h : s.params.slots ≤ s.inrushCount) : trayOn i s = refuse .slotsFull s :=
  (trayOn_able hn hl hoff hp ho).trans (if_pos h)

theorem trayOn_noBudget (hslots : s.inrushCount < s.params.slots)
    (h : s.budget.c < s.kT + s.trays[i].cfg.alloc + s.trays[i].cfg.surge + s.params.margin + s.budget.floorEff ∨
      (s.params.readyMin ≠ 0 ∧ s.tProj s.trays[i].cfg.alloc < s.params.readyMin)) : trayOn i s = refuse .noBudget s := by
  refine (trayOn_able hn hl hoff hp ho).trans ((if_neg (Nat.not_le.mpr hslots)).trans (if_pos fun ha => ?_))
  obtain ⟨-, hc, hr⟩ := admission_start ha
  rcases h with h | ⟨h0, hlt⟩
  · exact Nat.not_lt.mpr hc h
  · exact hr.elim h0 (Nat.not_le.mpr hlt)

theorem trayOn_taken (hslots : s.inrushCount < s.params.slots) (ha : admission s s.trays[i] = .start) :
    trayOn i s = ack (manualStart i s) :=
  (trayOn_able hn hl hoff hp ho).trans ((if_neg (Nat.not_le.mpr hslots)).trans (if_neg (not_not_intro ha)))

end

/-! ### The start -/

theorem manualStart_eq (i : TrayId) (s : State) :
    manualStart i s =
      if (beginInrush i s).pins.pg[i] then propagate (beginInrush i s) (trayPgRise i (beginInrush i s)) else beginInrush i s := by
  unfold manualStart beginInrush
  dsimp only

theorem trayPgRise_settles {i : TrayId} {s : State} {a : Tray} (hin : s.trays[i] = enterInrush a) (hset : a.cfg.settle ≠ 0) :
    trayPgRise i s = putTray i { enterInrush a with timer := .settle a.cfg.settle a.cfg.pgTimeout } s :=
  (trayPgRise_entered hin).trans (if_neg hset)

theorem trayPgRise_reaches {i : TrayId} {s : State} {a : Tray} (hin : s.trays[i] = enterInrush a) (hset : a.cfg.settle = 0) :
    trayPgRise i s = post .trayOn (some i.val) none (putTray i (enterOn a) s) :=
  (trayPgRise_entered hin).trans (if_pos hset)

/-- What a MANUAL start that was admitted leaves (R7, R22). -/
theorem manualStart_outcome {i : TrayId} {s t : State} (hlaw : TrayLaw s) (hoff : s.trays[i].state = .off)
    (ha : admission s s.trays[i] = .start) (ht : t = manualStart i s) :
    TraySideOnly s t ∧ t.trays[i].enable = true ∧
      (s.pins.pg[i] = false →
        t.trays = s.trays.set i (enterInrush s.trays[i]) ∧ t.kT = s.kT + s.trays[i].cfg.alloc + s.trays[i].cfg.surge) ∧
      (s.pins.pg[i] = true → s.trays[i].cfg.settle ≠ 0 →
        t.trays = s.trays.set i
          { enterInrush s.trays[i] with timer := .settle s.trays[i].cfg.settle s.trays[i].cfg.pgTimeout }) ∧
      (s.pins.pg[i] = true → s.trays[i].cfg.settle = 0 → t.trays[i].state = .on) := by
  have hout : i ∉ s.run.startQueue := fun hi =>
    TrayState.noConfusion (hoff.symm.trans ((hlaw.1 i).2.2.1.mp hi))
  have hzero : s.trays[i].counted = 0 := by rw [Tray.counted, hoff]
  have hkT := kT_putTray i (enterInrush s.trays[i]) s
  obtain ⟨hbegin, hin, htallied⟩ : Started i s (beginInrush i s) ∧ (beginInrush i s).trays[i] = enterInrush s.trays[i] ∧
      Tallied (putTray i (enterInrush s.trays[i]) s) (beginInrush i s) := by
    have hroom := (Nat.le_add_right _ _).trans ((Nat.le_add_right _ _).trans (admission_start ha).2.1)
    obtain ⟨hbegin, hin⟩ := beginInrush_started hroom
    exact ⟨hbegin, hin, (beginInrush_tallied hroom).1⟩
  rw [manualStart_eq] at ht
  generalize beginInrush i s = u at *
  generalize hsa : s.trays[i] = a at *
  have hqueue : i ∉ u.run.startQueue := fun hi => hout (by rw [hbegin.run.startQueue] at hi; exact (without_sublist _ _).subset hi)
  have hpg : u.pins.pg[i] = s.pins.pg[i] := by rw [hbegin.side.pins]
  have hset : ∀ b : Tray, (putTray i b u).trays = s.trays.set i b := fun b => by
    rw [putTray, htallied.trays]
    exact Vector.set_set _ _
  by_cases h : s.pins.pg[i] = true
  · rw [if_pos (hpg.trans h)] at ht
    have hside : TraySideOnly s t := ht ▸ hbegin.side.trans ((trayPgRise_side i u).trans (propagate_side u _))
    have hpgFalse : s.pins.pg[i] = false → False := fun h' => Bool.noConfusion (h.symm.trans h')
    by_cases hs : a.cfg.settle = 0
    · rw [trayPgRise_reaches hin hs] at ht
      have hon := (started_again hbegin hin (Or.inr (Or.inr rfl)) hsa).note (some i.val) none
      have hget : (post .trayOn (some i.val) none (putTray i (enterOn a) u)).trays[i] = enterOn a := by
        rw [post_tray, putTray_get, if_pos rfl]
      have hfree : i ∉ (post .trayOn (some i.val) none (putTray i (enterOn a) u)).run.startQueue := by
        rw [hon.run.startQueue, mem_without]
        exact fun h => h.2 rfl
      have htray : t.trays[i] = enterOn a :=
        ht ▸ ((propagate_startedOrSame (deficitLaw_of_room hon.room) u i).same hfree).trans hget
      exact ⟨hside, htray ▸ rfl, fun h' => (hpgFalse h').elim, fun _ h' => absurd hs h', fun _ _ => htray ▸ rfl⟩
    · rw [trayPgRise_settles hin hs] at ht
      have hevent : NoEvent u (putTray i { enterInrush a with timer := .settle a.cfg.settle a.cfg.pgTimeout } u) :=
        noEvent_putTray (fun hi => absurd hi hqueue) (by rw [hin]) (by rw [hin]) (by rw [hin]) (by rw [hin])
      have htrays : t.trays = s.trays.set i { enterInrush a with timer := .settle a.cfg.settle a.cfg.pgTimeout } :=
        ht ▸ hevent.trays.trans (hset _)
      refine ⟨hside, ?_, fun h' => (hpgFalse h').elim, fun _ _ => htrays, fun _ h' => absurd h' hs⟩
      rw [htrays, vector_set_get, if_pos rfl]
      rfl
  · rw [if_neg fun hb => h (hpg.symm.trans hb)] at ht
    subst ht
    refine ⟨hbegin.side, hbegin.tray.enable, fun _ => ⟨htallied.trays, ?_⟩, fun h' => absurd h' h, fun h' => absurd h' h⟩
    rw [kT_congr htallied.trays, ← Nat.add_zero (State.kT _), ← hzero, hkT, Nat.add_assoc]
    rfl

/-- Settles O28. -/
theorem manualStart_obligation : Obligations.ManualStart := by
  intro s tag n i hready hlaw
  refine ⟨fun hn => ?_, fun hn => ?_, fun hn h => ?_, fun hn hl hf h => ?_, fun hn hl hoff hp ho =>
    ⟨fun hslots => ?_, fun hslots h => ?_, fun hslots hc hr => ?_⟩⟩
  · exact request_of_answer hready (answerTrayControl_badIndex hn 0 _)
  · exact request_of_answer hready ((answerTrayControl_val i 0 _).trans (trayOn_held (by exact hn)))
  · exact request_of_answer hready ((answerTrayControl_val i 0 _).trans (trayOn_lockedOut (by exact hn) (by exact h)))
  · exact request_of_answer hready
      ((answerTrayControl_val i 0 _).trans (trayOn_wrongState (by exact hn) (by exact hl) (by exact hf) (by exact h)))
  · exact request_of_answer hready ((answerTrayControl_val i 0 _).trans
      (trayOn_slotsFull (by exact hn) (by exact hl) (by exact hoff) (by exact hp) (by exact ho) (by exact hslots)))
  · exact request_of_answer hready ((answerTrayControl_val i 0 _).trans
      (trayOn_noBudget (by exact hn) (by exact hl) (by exact hoff) (by exact hp) (by exact ho) (by exact hslots) (by exact h)))
  · have ha : admission (asked ⟨0x13, tag, .trayControl i 0⟩ s) s.trays[i] = .start := admission_eq_start hn hc hr
    have hanswer := request_of_answer (kind := 0x13) (tag := tag) (body := .trayControl i 0) hready
      ((answerTrayControl_val i 0 _).trans
        (trayOn_taken (s := asked ⟨0x13, tag, .trayControl i 0⟩ s) hn hl hoff hp ho hslots ha))
    obtain ⟨hside, henable, hwaits, hsettles, hon⟩ := manualStart_outcome (s := asked ⟨0x13, tag, .trayControl i 0⟩ s) hlaw hoff ha
      (Eq.refl (manualStart i (asked ⟨0x13, tag, .trayControl i 0⟩ s)))
    generalize manualStart i _ = t at *
    exact ⟨_, hanswer, replying_side hside _ _, henable, hwaits, hsettles, hon⟩

end Sys2Proof.Machine
end

section
/-! PROOFS. The end of an UP run that has no tray left to start (R114). -/
namespace Sys2Proof.Machine

theorem upComplete_iff {s : State} :
    upComplete s = true ↔
      s.run.direction = .up ∧ (s.run.state = .running ∨ s.run.state = .held) ∧ s.run.startQueue = [] ∧
        ∀ i ∈ s.run.members, s.trays[i].state ≠ .inrush ∧ ¬ (s.trays[i].state = .failed ∧ s.trays[i].retryPending = true) := by
  simp only [upComplete, Bool.and_eq_true, Bool.or_eq_true, beq_iff_eq, List.isEmpty_iff, List.all_eq_true, bne_iff_ne,
    Bool.not_eq_true', ← Bool.not_eq_true, and_assoc]

theorem evalStart_empty {s : State} (hd : s.run.direction = .up) (hr : s.run.state = .running) (hq : s.run.startQueue = []) :
    evalStart s = testUpDone { s with run := { s.run with blocked := none } } := by
  unfold evalStart
  rw [if_pos ⟨hd, hr⟩, hq]
  unfold startLoop
  rw [hq]

theorem evalStart_held {s : State} (hr : s.run.state ≠ .running) : evalStart s = s := if_neg fun h => hr h.2

/-- The run record after the end of an UP run. -/
def endedRun (r : RunRecord) : RunRecord := { r with state := .idle, members := [], blocked := none }

/-- The value of an UP run's RUN-DONE (R114). -/
def upRunValue (s : State) : Nat := membersIn s .on + 256 * membersIn s .failed

/-- What the sequencer makes of an UP run without a start queue whose members have nothing left to wait for. -/
theorem seqAfter_ends {s : State} (s0 : State) (h : upComplete s = true) :
    (seqAfter s0 s).run = endedRun s.run ∧
      (seqAfter s0 s).notices = (post .runDone (some 0) (some (upRunValue s)) s).notices := by
  obtain ⟨hd, hr, hq, -⟩ := upComplete_iff.mp h
  have hdone : ∀ r : RunRecord, r.state = .idle → ∀ t : State, t.run = r → testUpDone t = t := fun r hidle t ht => by
    refine testUpDone_id (Bool.eq_false_iff.mpr fun hc => ?_)
    obtain ⟨-, hr, -⟩ := upComplete_iff.mp hc
    rw [ht, hidle] at hr
    exact hr.elim RunState.noConfusion RunState.noConfusion
  have hsame : (testUpDone s).run = endedRun s.run ∧
      (testUpDone s).notices = (post .runDone (some 0) (some (upRunValue s)) s).notices := by
    rw [testUpDone_complete h]
    exact ⟨rfl, rfl⟩
  unfold seqAfter
  rw [hd]
  dsimp only
  split
  · by_cases hrun : s.run.state = .running
    · have hblocked : upComplete { s with run := { s.run with blocked := none } } = true := h
      have heval : evalStart s =
          { post .runDone (some 0) (some (upRunValue s)) { s with run := { s.run with blocked := none } } with
            run := endedRun s.run } :=
        (evalStart_empty hd hrun hq).trans (testUpDone_complete hblocked)
      rw [heval, hdone (endedRun s.run) rfl _ rfl]
      refine ⟨rfl, ?_⟩
      rw [post_frame (t := { s with run := { s.run with blocked := none } }) (s := s) rfl rfl]
    · rw [evalStart_held hrun]
      exact hsame
  · exact hsame

theorem seqAfter_goesOn {s : State} (s0 : State) (hd : s.run.direction = .up) (hq : s.run.startQueue = [])
    (h : upComplete s = false) :
    (seqAfter s0 s).run.state = s.run.state ∧ (seqAfter s0 s).notices = s.notices := by
  have hsame := testUpDone_id h
  unfold seqAfter
  rw [hd]
  dsimp only
  split
  · by_cases hrun : s.run.state = .running
    · have hblocked : upComplete { s with run := { s.run with blocked := none } } = false := h
      rw [evalStart_empty hd hrun hq, testUpDone_id hblocked, testUpDone_id hblocked]
      exact ⟨rfl, rfl⟩
    · rw [evalStart_held hrun, hsame]
      exact ⟨rfl, rfl⟩
  · rw [hsame]
    exact ⟨rfl, rfl⟩

/-- A change of trays that leaves an UP run without a start queue its record, but for members that went OFF. -/
structure MembersLeft (s w : State) : Prop where
  run : s.run.direction = .up → s.run.startQueue = [] → w.run = { s.run with members := w.run.members }
  members : ∃ keep : TrayId → Bool, w.run.members = s.run.members.filter keep ∧
    ∀ j ∈ s.run.members, keep j = false → w.trays[j].state = .off ∧ w.trays[j].retryPending = false
  retry : ∀ j ∈ s.run.members, w.trays[j].retryPending = true → w.trays[j].state = .failed
  kinds : NoneOfKind .runDone s w
  time : w.time = s.time

theorem membersIn_filter {l : List TrayId} {keep : TrayId → Bool} {trays : Vector Tray 24} {st : TrayState} (hst : st ≠ .off)
    (h : ∀ j ∈ l, keep j = false → trays[j].state = .off) :
    ((l.filter keep).filter fun i => trays[i].state == st) = l.filter fun i => trays[i].state == st := by
  rw [List.filter_filter]
  refine List.filter_congr fun j hj => ?_
  cases hk : keep j with
  | true => rw [Bool.and_true]
  | false =>
    rw [Bool.and_false]
    exact (beq_eq_false_iff_ne.mpr fun e => hst (e.symm.trans (h j hj hk))).symm

/-- The end of an UP run after a change of trays (R114). -/
theorem propagate_upRunEnds {s w : State} (s0 : State) (hd : DeficitLaw w) (h : MembersLeft s w) : UpRunEnds s (propagate s0 w) := by
  intro hup hstate hempty
  have hcalm : Calm w (afterBudget s0 w) := afterBudget_calm hd
  have htrays : (propagate s0 w).trays = w.trays := by
    have hfree : ∀ j, j ∉ w.run.startQueue := fun j => by
      rw [h.run hup hempty, hempty]
      exact List.not_mem_nil
    exact Vector.ext fun j hj => (propagate_startedOrSame hd s0 ⟨j, hj⟩).same (hfree _)
  obtain ⟨keep, hkeep, hgone⟩ := h.members
  have hrun : (afterBudget s0 w).run = { s.run with members := s.run.members.filter keep } := by
    rw [hcalm.run, h.run hup hempty, hkeep]
  have hkinds : NoneOfKind .runDone s (afterBudget s0 w) := (hcalm.kinds _ (by decide) (by decide)).trans h.kinds
  have hcomplete : upComplete (afterBudget s0 w) = true ↔
      ∀ i ∈ s.run.members, w.trays[i].state ≠ .inrush ∧ w.trays[i].retryPending = false := by
    rw [upComplete_iff, hrun, hcalm.trays]
    refine ⟨fun ⟨_, _, _, hall⟩ j hj => ?_, fun hall => ⟨hup, hstate, hempty, fun j hj => ?_⟩⟩
    · cases hk : keep j with
      | false =>
        obtain ⟨hoff, hretry⟩ := hgone j hj hk
        exact ⟨fun e => TrayState.noConfusion (hoff.symm.trans e), hretry⟩
      | true =>
        obtain ⟨hin, hwait⟩ := hall j (List.mem_filter.mpr ⟨hj, hk⟩)
        exact ⟨hin, Bool.eq_false_iff.mpr fun hr => hwait ⟨h.retry j hj hr, hr⟩⟩
    · obtain ⟨hin, hwait⟩ := hall j (List.mem_filter.mp hj).1
      exact ⟨hin, fun hr => Bool.false_ne_true (hwait.symm.trans hr.2)⟩
  rw [htrays]
  unfold propagate
  generalize afterBudget s0 w = b at hcalm hrun hkinds hcomplete
  refine ⟨fun ⟨j, hj, hwait⟩ => ?_, fun hall => ?_⟩
  · have hopen : upComplete b = false := Bool.eq_false_iff.mpr fun hc => by
      obtain ⟨hin, hretry⟩ := hcomplete.mp hc j hj
      exact hwait.elim hin fun hr => Bool.false_ne_true (hretry.symm.trans hr)
    obtain ⟨hst, hn⟩ := seqAfter_goesOn s0 (by rw [hrun]; exact hup) (by rw [hrun]; exact hempty) hopen
    refine ⟨by rw [hst, hrun], ?_⟩
    rw [NoneOfKind, hn]
    exact hkinds
  · obtain ⟨hr, hn⟩ := seqAfter_ends s0 (hcomplete.mpr hall)
    refine ⟨by rw [hr, hrun]; rfl, ?_⟩
    have hvalue : upRunValue b =
        (s.run.members.filter fun i => w.trays[i].state == .on).length +
          256 * (s.run.members.filter fun i => w.trays[i].state == .failed).length := by
      have hoff : ∀ j ∈ s.run.members, keep j = false → w.trays[j].state = .off := fun j hj hk => (hgone j hj hk).1
      rw [upRunValue, membersIn, membersIn, hrun, hcalm.trays, membersIn_filter (by decide) hoff, membersIn_filter (by decide) hoff]
    have htime : b.time = s.time := hcalm.side.time.trans h.time
    rw [← hvalue, ← htime]
    intro hroom
    rw [hn] at hroom ⊢
    have hnext : NoticeNext { kind := .runDone, subject := some 0, value := some (upRunValue b), time := b.time } b
        (post .runDone (some 0) (some (upRunValue b)) b) := noticeNext_post rfl rfl
    exact NoticeIn.of_next hnext (post_records _ _ _ _) hroom

/-! ### One tray changed -/

theorem retryPending_failed {s : State} (h : TrayLaw s) {j : TrayId} (hr : s.trays[j].retryPending = true) :
    s.trays[j].state = .failed := by
  obtain ⟨hfits, -⟩ := (h.1 j).2.1
  revert hfits hr
  unfold Tray.retryPending timerFits
  cases s.trays[j].timer <;> cases s.trays[j].state <;> simp

/-- Storing one record leaves an UP run its members, but for a tray that went OFF. -/
theorem membersLeft_putTray {s : State} (h : TrayLaw s) {i : TrayId} {x : Tray} (howner : x.owner = s.trays[i].owner)
    (hoff : x.state = .off → x.retryPending = false) (hretry : x.retryPending = true → x.state = .failed) :
    MembersLeft s (putTray i x s) := by
  have hget : ∀ j, (putTray i x s).trays[j] = if i = j then x else s.trays[j] := fun j => putTray_get _ _ _ _
  refine ⟨fun hup hempty => ?_, ⟨fun j => !(decide (j = i) && decide (x.state = .off)), ?_, fun j hj hk => ?_⟩, fun j hj hr => ?_, rfl, rfl⟩
  · have hstop : s.run.stopQueue = [] := by
      by_contra hne
      exact Direction.noConfusion (hup.symm.trans (h.2.2.2.2 hne).1)
    simp only [putTray, syncRun, hempty, hstop, without, List.filter_nil, ite_self]
  · have hmanual : x.owner = .manual → i ∉ s.run.members := fun hm hi => by
      have hauto := ((h.1 i).2.2.2.2.2.1 hi).2
      rw [← howner, hm] at hauto
      exact Owner.noConfusion hauto
    simp only [putTray, syncRun]
    by_cases ho : x.state = .off
    · rw [if_pos (Or.inl ho)]
      refine List.filter_congr fun j _ => ?_
      simp [ho, bne, beq_eq_decide]
    · have hall : (s.run.members.filter fun j => !(decide (j = i) && decide (x.state = .off))) = s.run.members :=
        List.filter_eq_self.mpr fun j _ => by simp [ho]
      rw [hall]
      split
      · next hor => exact without_eq_self (hmanual (hor.resolve_left ho))
      · rfl
  · simp only [Bool.not_eq_false', Bool.and_eq_true, decide_eq_true_eq] at hk
    rw [hget, if_pos hk.1.symm]
    exact ⟨hk.2, hoff hk.2⟩
  · rw [hget] at hr ⊢
    split at hr
    · next e => rw [if_pos e]; exact hretry hr
    · next e => rw [if_neg e]; exact retryPending_failed h hr

theorem MembersLeft.post {s w : State} (h : MembersLeft s w) {k : NoticeKind} (hk : k ≠ .runDone) (x v : Option Nat) :
    MembersLeft s (post k x v w) where
  run := by rw [post_run]; exact h.run
  members := by
    obtain ⟨keep, hkeep, hgone⟩ := h.members
    refine ⟨keep, by rw [post_run]; exact hkeep, fun j => ?_⟩
    rw [post_tray]
    exact hgone j
  retry := fun j => by
    rw [post_tray]
    exact h.retry j
  kinds := (post_noneOfKind _ _ _ hk.symm).trans h.kinds
  time := (post_time _ _ _ _).trans h.time

theorem DeficitLaw.post {s : State} (h : DeficitLaw s) (k : NoticeKind) (x v : Option Nat) : DeficitLaw (post k x v s) :=
  h.of_trays (post_side _ _ _ _) (post_trays _ _ _ _)

end Sys2Proof.Machine
end

section
/-! PROOFS. The edges of PG and the timers of INRUSH (R8 to R10, R12, R13). -/
namespace Sys2Proof.Machine

/-! ### An edge or an expiry that changes one tray -/

/-- What follows where nothing has come about and no run is over. -/
theorem NoEvent.propagate_id {s0 s : State} (h : NoEvent s0 s) (ho : OpenLaw s) : Machine.propagate s0 s = s := by
  rw [h.propagate]
  split
  · exact testDownDone_id ho.2
  · exact testUpDone_id ho.1

theorem noEvent_refl (s : State) : NoEvent s s := ⟨rfl, rfl, fun _ h => h, rfl⟩

theorem noEvent_post (k : NoticeKind) (x v : Option Nat) (s : State) : NoEvent s (post k x v s) where
  kT := kT_congr (post_trays _ _ _ _)
  kLive := kLive_congr (post_trays _ _ _ _)
  inrush := fun j hj => by rw [post_tray]; exact hj
  startQueue := by rw [post_run]

theorem OpenLaw.congr {s t : State} (h : OpenLaw s) (ht : t.trays = s.trays) (hr : t.run = s.run) : OpenLaw t :=
  ⟨(upComplete_congr ht hr).trans h.1, by rw [downComplete, hr]; exact h.2⟩

theorem OpenLaw.post {s : State} (h : OpenLaw s) (k : NoticeKind) (x v : Option Nat) : OpenLaw (post k x v s) :=
  h.congr (post_trays _ _ _ _) (post_run _ _ _ _)

/-- A tray in INRUSH whose timer changes leaves an open run open. -/
theorem OpenLaw.set_inrush {s : State} (h : OpenLaw s) {i : TrayId} {x : Tray} (hx : x.state = .inrush) : OpenLaw { s with trays := s.trays.set i x } := by
  refine ⟨Bool.eq_false_iff.mpr fun hc => ?_, h.2⟩
  refine Bool.false_ne_true (h.1.symm.trans (upComplete_iff.mpr ?_))
  obtain ⟨hd, hst, hq, hall⟩ := upComplete_iff.mp hc
  refine ⟨hd, hst, hq, fun j hj => ?_⟩
  have hj' := hall j hj
  have hget : (s.trays.set i x)[j] = if i = j then x else s.trays[j] := vector_set_get _ _ _ _
  by_cases e : i = j
  · rw [hget, if_pos e] at hj'
    exact absurd hx hj'.1
  · rw [hget, if_neg e] at hj'
    exact hj'

/-- A new timer of a tray that stays in INRUSH changes nothing else. -/
theorem propagate_timer {s : State} (h : TrayLaw s) (ho : OpenLaw s) {i : TrayId} (hs : s.trays[i].state = .inrush) (m : TrayTimer) :
    propagate s (putTray i { s.trays[i] with timer := m } s) =
      { s with trays := s.trays.set i { s.trays[i] with timer := m } } := by
  obtain ⟨-, -, hplace⟩ := h.1 i
  have hput : putTray i { s.trays[i] with timer := m } s = { s with trays := s.trays.set i { s.trays[i] with timer := m } } :=
    putTray_eq_set i _ s hplace rfl rfl fun h => h
  have hopen : OpenLaw (putTray i { s.trays[i] with timer := m } s) := by
    rw [hput]
    exact ho.set_inrush hs
  have hevent : NoEvent s (putTray i { s.trays[i] with timer := m } s) := noEvent_putTray hplace.1.mp rfl rfl rfl rfl
  exact (hevent.propagate_id hopen).trans hput

/-! ### The trays of the timers -/

section
variable {s : State} (h : TrayLaw s) {i : TrayId}
include h

theorem inrush_of_wait {left : Nat} (ht : s.trays[i].timer = .inrushWait left) : s.trays[i].state = .inrush := by
  obtain ⟨hfits, -⟩ := (h.1 i).2.1
  rw [ht] at hfits
  revert hfits
  cases s.trays[i].state <;> simp [timerFits]

theorem inrush_of_settle {left paused : Nat} (ht : s.trays[i].timer = .settle left paused) : s.trays[i].state = .inrush := by
  obtain ⟨hfits, -⟩ := (h.1 i).2.1
  rw [ht] at hfits
  revert hfits
  cases s.trays[i].state <;> simp [timerFits]

theorem stopping_of_stop {left : Nat} (ht : s.trays[i].timer = .stop left) : s.trays[i].state = .stopping := by
  obtain ⟨hfits, -⟩ := (h.1 i).2.1
  rw [ht] at hfits
  revert hfits
  cases s.trays[i].state <;> simp [timerFits]

theorem failed_of_discharge {left : Nat} (ht : s.trays[i].timer = .discharge left) : s.trays[i].state = .failed := by
  obtain ⟨hfits, -⟩ := (h.1 i).2.1
  rw [ht] at hfits
  revert hfits
  cases s.trays[i].state <;> simp [timerFits]

theorem failed_of_cause {c : FailureCause} (hc : s.trays[i].cause = some c) : s.trays[i].state = .failed :=
  (h.1 i).2.1.2.1.mp (by rw [hc]; rfl)

end

/-! ### A PG rise -/

theorem trayPgRise_wait {i : TrayId} {s : State} {left : Nat} (hs : s.trays[i].state = .inrush)
    (ht : s.trays[i].timer = .inrushWait left) (hset : s.trays[i].cfg.settle ≠ 0) :
    trayPgRise i s = putTray i { s.trays[i] with timer := .settle s.trays[i].cfg.settle left } s := by
  unfold trayPgRise
  dsimp only
  rw [hs, ht]
  exact if_neg hset

theorem trayPgRise_on {i : TrayId} {s : State} {left : Nat} (hs : s.trays[i].state = .inrush)
    (ht : s.trays[i].timer = .inrushWait left) (hset : s.trays[i].cfg.settle = 0) : trayPgRise i s = reachOn i s := by
  unfold trayPgRise
  dsimp only
  rw [hs, ht]
  exact if_pos hset

theorem trayPgRise_unexpected {i : TrayId} {s : State}
    (h : s.trays[i].state = .off ∨ s.trays[i].state = .queued ∨ (s.trays[i].state = .failed ∧ s.trays[i].cause ≠ some .stuckOn)) :
    trayPgRise i s = post .trayUnexpectedPg (some i.val) none s := by
  unfold trayPgRise
  dsimp only
  rcases h with h | h | ⟨h, hc⟩ <;> rw [h]
  exact if_neg hc

theorem trayPgRise_ignored {i : TrayId} {s : State}
    (h : s.trays[i].state = .on ∨ s.trays[i].state = .stopping ∨ (s.trays[i].state = .failed ∧ s.trays[i].cause = some .stuckOn)) :
    trayPgRise i s = s := by
  unfold trayPgRise
  dsimp only
  rcases h with h | h | ⟨h, hc⟩ <;> rw [h]
  exact if_pos hc

/-! ### A PG fall -/

theorem trayPgFall_settling {i : TrayId} {s : State} {left paused : Nat} (hs : s.trays[i].state = .inrush)
    (ht : s.trays[i].timer = .settle left paused) :
    trayPgFall i s = putTray i { s.trays[i] with timer := .inrushWait paused } s := by
  unfold trayPgFall
  dsimp only
  rw [hs, ht]

theorem trayPgFall_on {i : TrayId} {s : State} (hs : s.trays[i].state = .on) : trayPgFall i s = failTray i .pgLost s := by
  unfold trayPgFall
  dsimp only
  rw [hs]

theorem trayPgFall_stuck {i : TrayId} {s : State} (hs : s.trays[i].state = .failed) (hc : s.trays[i].cause = some .stuckOn) :
    trayPgFall i s = putTray i (enterOff s.trays[i]) s := by
  unfold trayPgFall
  dsimp only
  rw [hs]
  exact if_pos hc

theorem trayPgFall_ignored {i : TrayId} {s : State} {left : Nat}
    (h : s.trays[i].state = .off ∨ s.trays[i].state = .queued ∨ s.trays[i].state = .stopping ∨
      (s.trays[i].state = .inrush ∧ s.trays[i].timer = .inrushWait left) ∨
      (s.trays[i].state = .failed ∧ s.trays[i].cause ≠ some .stuckOn)) : trayPgFall i s = s := by
  unfold trayPgFall
  dsimp only
  rcases h with h | h | h | ⟨h, ht⟩ | ⟨h, hc⟩ <;> rw [h]
  · rw [ht]
  · exact if_neg hc

/-! ### ON is reached -/

theorem enterOn_candidate {t : Tray} (hs : t.state = .inrush) (h : deficitCandidate (enterOn t) = true) : deficitCandidate t = true := by
  simp only [deficitCandidate, Bool.and_eq_true] at h ⊢
  have hclass : (enterOn t).cfg = t.cfg := rfl
  rw [hclass] at h
  have henable : t.enable = true := by rw [Tray.enable, hs]; rfl
  exact ⟨⟨henable, h.1.2⟩, h.2⟩

theorem enterOn_live {t : Tray} (hs : t.state = .inrush) : (enterOn t).countedLive ≤ t.countedLive := by
  have hon : (enterOn t).countedLive = t.cfg.alloc := rfl
  have hin : t.countedLive = t.cfg.alloc + t.cfg.surge := by simp only [Tray.countedLive, Tray.counted, hs, reduceCtorEq, if_false]
  rw [hon, hin]
  exact Nat.le_add_right _ _

/-- A tray in INRUSH reaches ON: its notice is the first, and the start rule and the completion test follow (R8, R114). -/
theorem reachOn_outcome {s : State} (h : TrayLaw s) (hd : DeficitLaw s) {i : TrayId} (hs : s.trays[i].state = .inrush) {t : State}
    (ht : t = propagate s (reachOn i s)) :
    TraySideOnly s t ∧ t.trays[i] = enterOn s.trays[i] ∧
      NoticeNext { kind := .trayOn, subject := some i.val, value := none, time := s.time } s t ∧ UpRunEnds s t := by
  have hget : (reachOn i s).trays[i] = enterOn s.trays[i] := by
    rw [reachOn, post_tray, putTray_get, if_pos rfl]
  have hout : i ∉ (reachOn i s).run.startQueue := by
    rw [reachOn, post_run]
    exact putTray_not_startQueue TrayState.noConfusion
  have hput : MembersLeft s (putTray i (enterOn s.trays[i]) s) :=
    membersLeft_putTray h rfl (fun _ => rfl) fun e => absurd (show false = true from e) Bool.noConfusion
  have hleft : MembersLeft s (reachOn i s) := by
    rw [reachOn]
    exact hput.post (by decide) _ _
  have hnext : NoticeNext { kind := .trayOn, subject := some i.val, value := none, time := s.time } s (reachOn i s) := by
    rw [reachOn]
    exact noticeNext_post (by rfl) (by rfl)
  have hlaw : DeficitLaw (reachOn i s) := by
    rw [reachOn]
    exact (hd.putTray (enterOn_live hs) (enterOn_candidate hs)).post _ _ _
  have hside := reachOn_side i s
  generalize reachOn i s = w at *
  have hturn := propagate_turn s w
  have htray := ((propagate_startedOrSame hlaw s i).same hout).trans hget
  have hends := propagate_upRunEnds s hlaw hleft
  rw [← ht] at hturn htray hends
  exact ⟨hside.trans hturn.side, htray, hnext.then_more hturn.records, hends⟩

/-! ### A tray that fails -/

theorem willRetry_iff {c : FailureCause} {t : Tray} (hc : c ≠ .stuckOn) :
    willRetry c t = true ↔ t.owner = .auto ∧ t.retriesUsed < t.cfg.retries := by
  simp only [willRetry, Bool.and_eq_true, bne_iff_ne, ne_eq, beq_iff_eq, decide_eq_true_eq, hc, not_false_eq_true, true_and]

theorem enterFailed_eq {c : FailureCause} (hc : c ≠ .stuckOn) (t : Tray) :
    enterFailed c t =
      { t with
        state := .failed, cause := some c
        timer := if t.owner = .auto ∧ t.retriesUsed < t.cfg.retries then .discharge t.cfg.stopTime else .idle } := by
  simp only [enterFailed, willRetry_iff hc]

theorem enterFailed_enable (c : FailureCause) (t : Tray) : (enterFailed c t).enable = false := rfl

theorem enterFailed_live (c : FailureCause) {t : Tray} (hs : t.state = .inrush ∨ t.state = .on ∨ c ≠ .stuckOn) :
    (enterFailed c t).countedLive ≤ t.countedLive := by
  have hfailed : (enterFailed c t).countedLive = if c = .stuckOn then t.cfg.alloc else 0 := by
    simp only [Tray.countedLive, Tray.counted, enterFailed, reduceCtorEq, if_false, Option.some.injEq]
  rw [hfailed]
  by_cases hc : c = .stuckOn
  · rw [if_pos hc]
    rcases hs with hs | hs | hs
    · simp only [Tray.countedLive, Tray.counted, hs, reduceCtorEq, if_false]
      exact Nat.le_add_right _ _
    · simp only [Tray.countedLive, Tray.counted, hs, reduceCtorEq, if_false, le_refl]
    · exact absurd hc hs
  · rw [if_neg hc]
    exact Nat.zero_le _

theorem not_candidate_of_not_enable {t : Tray} (h : t.enable = false) : ¬ deficitCandidate t = true := fun hc =>
  Bool.false_ne_true (h.symm.trans (deficitCandidate_enable hc))

theorem failTray_cases (i : TrayId) (c : FailureCause) (s : State) :
    (willRetry c s.trays[i] = true ∧ failTray i c s = putTray i (enterFailed c s.trays[i]) s) ∨
      (willRetry c s.trays[i] = false ∧
        failTray i c s = post .trayFailed (some i.val) (some (failureCauseCode c)) (putTray i (enterFailed c s.trays[i]) s)) := by
  cases hr : willRetry c s.trays[i] with
  | true => exact Or.inl ⟨rfl, if_pos hr⟩
  | false => exact Or.inr ⟨rfl, if_neg (Bool.eq_false_iff.mp hr)⟩

/-- A tray that fails: its own notice, if there is to be no retry, is the first, and the completion test follows (R10, R114). -/
theorem failTray_outcome {s : State} (h : TrayLaw s) {i : TrayId} {c : FailureCause} {t : State}
    (ht : t = propagate s (failTray i c s)) :
    TraySideOnly s t ∧ t.trays[i] = enterFailed c s.trays[i] ∧
      (willRetry c s.trays[i] = false →
        NoticeNext { kind := .trayFailed, subject := some i.val, value := some (failureCauseCode c), time := s.time } s t) ∧
      (c ≠ .stuckOn → DeficitLaw s → UpRunEnds s t) := by
  have hput : MembersLeft s (putTray i (enterFailed c s.trays[i]) s) :=
    membersLeft_putTray h rfl (fun e => absurd e TrayState.noConfusion) fun _ => rfl
  have hfree : ¬ Touchable (putTray i (enterFailed c s.trays[i]) s) i := putTray_untouchable rfl TrayState.noConfusion
  have hget : (putTray i (enterFailed c s.trays[i]) s).trays[i] = enterFailed c s.trays[i] := (putTray_get _ _ _ _).trans (if_pos rfl)
  have hlaw : c ≠ .stuckOn → DeficitLaw s → DeficitLaw (putTray i (enterFailed c s.trays[i]) s) := fun hc hd =>
    hd.putTray (enterFailed_live c (Or.inr (Or.inr hc))) fun hcand => absurd hcand (not_candidate_of_not_enable (enterFailed_enable c _))
  have hnext : NoticeNext { kind := .trayFailed, subject := some i.val, value := some (failureCauseCode c), time := s.time } s
      (post .trayFailed (some i.val) (some (failureCauseCode c)) (putTray i (enterFailed c s.trays[i]) s)) :=
    noticeNext_post (by rfl) (by rfl)
  have hfailed : TraySideOnly s (failTray i c s) := failTray_side i c s
  have hturn := propagate_turn s (failTray i c s)
  rcases failTray_cases i c s with ⟨hr, hw⟩ | ⟨hr, hw⟩
  · rw [hw] at ht hturn hfailed
    generalize putTray i (enterFailed c s.trays[i]) s = w at *
    have htray := (hturn.same hfree).trans hget
    have hends := fun hc hd => propagate_upRunEnds s (hlaw hc hd) hput
    rw [← ht] at hturn htray hends
    exact ⟨hfailed.trans hturn.side, htray, fun hno => Bool.noConfusion (hr.symm.trans hno), hends⟩
  · rw [hw] at ht hturn hfailed
    generalize putTray i (enterFailed c s.trays[i]) s = w at *
    have hfree' : ¬ Touchable (post .trayFailed (some i.val) (some (failureCauseCode c)) w) i := by
      rw [Touchable, post_run, post_tray]
      exact hfree
    have htray := (hturn.same hfree').trans ((post_tray _ _ _ _ _).trans hget)
    have hends := fun hc hd => propagate_upRunEnds s ((hlaw hc hd).post .trayFailed (some i.val) (some (failureCauseCode c)))
      (hput.post (by decide) (some i.val) (some (failureCauseCode c)))
    rw [← ht] at hturn htray hends
    exact ⟨hfailed.trans hturn.side, htray, fun _ => hnext.then_more hturn.records, hends⟩

theorem not_willRetry {c : FailureCause} {t : Tray} (h : t.owner = .manual ∨ t.cfg.retries ≤ t.retriesUsed) :
    willRetry c t = false := by
  rcases h with h | h
  · simp [willRetry, h]
  · simp [willRetry, Nat.not_lt.mpr h]

/-! ### The statements -/

/-- Settles O32. -/
theorem pgEdges : Obligations.PgEdges := by
  intro s i left paused hfree hlaw hopen
  have hrise : ∀ {t : State}, propagate (setPgPin i true s) (trayPgRise i (setPgPin i true s)) = t →
      exec (.pgRise i) s = .next t := fun {t} h =>
    (awake_free (pgRises i) (s := setPgPin i true s) hfree).trans (congrArg _ h)
  have hfall : ∀ {t : State}, propagate (setPgPin i false s) (trayPgFall i (setPgPin i false s)) = t →
      exec (.pgFall i) s = .next t := fun {t} h =>
    (awake_free (pgFalls i) (s := setPgPin i false s) hfree).trans (congrArg _ h)
  have hopenR : OpenLaw (setPgPin i true s) := hopen
  have hopenF : OpenLaw (setPgPin i false s) := hopen
  have hlawR : TrayLaw (setPgPin i true s) := hlaw
  have hlawF : TrayLaw (setPgPin i false s) := hlaw
  refine ⟨fun ht hset => ?_, fun ht hset hd => ?_, fun h => ?_, fun h => ?_, fun ht => ?_, fun hs => ?_, fun hc => ?_, fun h => ?_⟩
  · have hs := inrush_of_wait hlaw ht
    exact hrise ((congrArg (propagate _) (trayPgRise_wait (s := setPgPin i true s) hs ht hset)).trans
      (propagate_timer hlawR hopenR hs _))
  · have hs := inrush_of_wait hlaw ht
    have heq := trayPgRise_on (s := setPgPin i true s) hs ht hset
    exact ⟨_, hrise rfl, reachOn_outcome hlawR hd hs (congrArg (propagate _) heq)⟩
  · have heq : propagate (setPgPin i true s) (trayPgRise i (setPgPin i true s)) =
        post .trayUnexpectedPg (some i.val) none (setPgPin i true s) := by
      rw [trayPgRise_unexpected (s := setPgPin i true s) h]
      exact (noEvent_post _ _ _ _).propagate_id (hopenR.post _ _ _)
    refine ⟨_, hrise heq, ?_, noticeNext_post (by rfl) (by rfl)⟩
    rw [post_eq]
    rfl
  · have hignored : trayPgRise i (setPgPin i true s) = setPgPin i true s :=
      trayPgRise_ignored (s := setPgPin i true s) (h.imp id (Or.imp id fun hc => ⟨failed_of_cause hlaw hc, hc⟩))
    exact hrise ((congrArg (propagate _) hignored).trans ((noEvent_refl _).propagate_id hopenR))
  · have hs := inrush_of_settle hlaw ht
    exact hfall ((congrArg (propagate _) (trayPgFall_settling (s := setPgPin i false s) hs ht)).trans
      (propagate_timer hlawF hopenF hs _))
  · obtain ⟨hside, htray, hnext, hends⟩ := failTray_outcome hlawF (i := i)
      (congrArg (propagate (setPgPin i false s)) (trayPgFall_on (s := setPgPin i false s) hs))
    exact ⟨_, hfall rfl, hside, htray.trans (enterFailed_eq (by decide) _), fun h => hnext (not_willRetry h), hends (by decide)⟩
  · have heq := trayPgFall_stuck (s := setPgPin i false s) (failed_of_cause hlaw hc) hc
    refine ⟨_, hfall (congrArg (propagate _) heq), propagate_side_putTray _ _ _ _, propagate_putTray _ rfl TrayState.noConfusion⟩
  · have hignored : trayPgFall i (setPgPin i false s) = setPgPin i false s :=
      trayPgFall_ignored (s := setPgPin i false s) (left := left)
        (h.imp id (Or.imp id (Or.imp id (Or.imp (fun ht => ⟨inrush_of_wait hlaw ht, ht⟩) id))))
    exact hfall ((congrArg (propagate _) hignored).trans ((noEvent_refl _).propagate_id hopenF))

theorem inrushWaitEnds_eq {i : TrayId} {s : State} {left : Nat} (hs : s.trays[i].state = .inrush)
    (ht : s.trays[i].timer = .inrushWait left) : inrushWaitEnds i s = propagate s (failTray i .noPg s) := by
  unfold inrushWaitEnds
  rw [hs, ht]

theorem settleEnds_eq {i : TrayId} {s : State} {left paused : Nat} (hs : s.trays[i].state = .inrush)
    (ht : s.trays[i].timer = .settle left paused) : settleEnds i s = propagate s (reachOn i s) := by
  unfold settleEnds
  rw [hs, ht]

theorem inrushWaitEnds_other {i : TrayId} {s : State} (hs : s.trays[i].state ≠ .inrush) : inrushWaitEnds i s = s := by
  unfold inrushWaitEnds
  split
  · next h _ => exact absurd h hs
  · rfl

theorem settleEnds_other {i : TrayId} {s : State} (hs : s.trays[i].state ≠ .inrush) : settleEnds i s = s := by
  unfold settleEnds
  split
  · next h _ => exact absurd h hs
  · rfl

/-- Settles O33. -/
theorem inrushTimers : Obligations.InrushTimers := by
  intro s i left paused hfree hlaw
  refine ⟨fun ht => ?_, fun ht hd => ?_, fun hs => ⟨?_, ?_⟩⟩
  · obtain ⟨hside, htray, hnext, hends⟩ := failTray_outcome hlaw (i := i) (inrushWaitEnds_eq (inrush_of_wait hlaw ht) ht)
    have hfailed := htray.trans (enterFailed_eq (by decide) _)
    refine ⟨_, awake_free (inrushWaitEnds i) hfree, hside, hfailed, ?_, ?_, fun h => hnext (not_willRetry h), fun _ => hends (by decide)⟩
    · rw [htray]
      rfl
    · rw [htray]
      rfl
  · obtain ⟨hside, htray, hnext, hends⟩ := reachOn_outcome hlaw hd (inrush_of_settle hlaw ht)
      (settleEnds_eq (inrush_of_settle hlaw ht) ht)
    refine ⟨_, awake_free (settleEnds i) hfree, hside, htray, ?_, ?_, hnext, fun _ => hends⟩
    · rw [htray]
      rfl
    · rw [htray]
      rfl
  · exact (awake_free (inrushWaitEnds i) hfree).trans (congrArg _ (inrushWaitEnds_other hs))
  · exact (awake_free (settleEnds i) hfree).trans (congrArg _ (settleEnds_other hs))

end Sys2Proof.Machine
end

section
/-! PROOFS. The stop timer, the discharge wait and the presence of a tray (R10 to R12, R14). -/
namespace Sys2Proof.Machine

/-! ### A tray without EN and the budget -/

/-- The tray keeps its record and its places in the start queue and among the members. -/
def KeepsPlace (j : TrayId) (s t : State) : Prop :=
  t.trays[j] = s.trays[j] ∧ (j ∈ s.run.startQueue → j ∈ t.run.startQueue) ∧ (j ∈ s.run.members → j ∈ t.run.members)

theorem KeepsPlace.refl (j : TrayId) (s : State) : KeepsPlace j s s := ⟨rfl, id, id⟩

theorem KeepsPlace.trans {j : TrayId} {s t u : State} (h : KeepsPlace j s t) (k : KeepsPlace j t u) : KeepsPlace j s u :=
  ⟨k.1.trans h.1, fun hj => k.2.1 (h.2.1 hj), fun hj => k.2.2 (h.2.2 hj)⟩

theorem Calm.keepsPlace {s t : State} (h : Calm s t) (j : TrayId) : KeepsPlace j s t := by
  refine ⟨by rw [h.trays], fun hj => ?_, fun hj => ?_⟩ <;> rw [h.run] <;> exact hj

theorem putTray_keepsPlace {i j : TrayId} (h : j ≠ i) (x : Tray) (s : State) : KeepsPlace j s (putTray i x s) := by
  have hkeep : ∀ (p : Prop) [Decidable p] (l : List TrayId), j ∈ l → j ∈ (if p then l else without i l) := fun p _ l hj => by
    split
    · exact hj
    · exact (mem_without _ _ _).mpr ⟨hj, h⟩
  have hdrop : ∀ (p : Prop) [Decidable p] (l : List TrayId), j ∈ l → j ∈ (if p then without i l else l) := fun p _ l hj => by
    split
    · exact (mem_without _ _ _).mpr ⟨hj, h⟩
    · exact hj
  exact ⟨(putTray_get _ _ _ _).trans (if_neg fun e => h e.symm), hkeep _ _, hdrop _ _⟩

theorem post_keepsPlace (k : NoticeKind) (x v : Option Nat) (s : State) (j : TrayId) : KeepsPlace j s (post k x v s) := by
  refine ⟨post_tray _ _ _ _ _, fun hj => ?_, fun hj => ?_⟩ <;> rw [post_run] <;> exact hj

theorem deficitShed_keepsPlace {l : List TrayId} {j : TrayId} (hj : j ∉ l) (s : State) : KeepsPlace j s (deficitShed l s) := by
  induction l generalizing s with
  | nil => exact .refl j s
  | cons i l ih =>
    obtain ⟨hi, hl⟩ := not_or.mp fun h => hj (List.mem_cons.mpr h)
    unfold deficitShed
    split
    · exact .refl j s
    · exact ((putTray_keepsPlace hi _ s).trans (post_keepsPlace _ _ _ _ j)).trans (ih hl _)

theorem evalDeficit_keepsPlace {s : State} {j : TrayId} (hj : s.trays[j].enable = false) : KeepsPlace j s (evalDeficit s) := by
  have hout : j ∉ deficitCandidates (deficitStart s) := fun hc => by
    rw [deficitCandidates_congr (deficitStart_calm s).trays] at hc
    exact not_candidate_of_not_enable hj (mem_deficitCandidates.mp hc)
  unfold evalDeficit
  dsimp only
  split
  · exact .refl j s
  · split
    · exact (setDeficit_tallied _ _ s).calm.keepsPlace j
    · exact ((((deficitStart_calm s).keepsPlace j).trans (deficitShed_keepsPlace hout _)).trans
        ((deficitFinish_calm _).keepsPlace j)).trans ((recomputeGrants_tallied _).calm.keepsPlace j)

theorem afterBudget_keepsPlace {s : State} {j : TrayId} (hj : s.trays[j].enable = false) (s0 : State) :
    KeepsPlace j s (afterBudget s0 s) := by
  have hgrants : Tallied s (if s.kT = s0.kT then s else recomputeGrants s) := by
    split
    · exact .refl s
    · exact recomputeGrants_tallied s
  unfold afterBudget
  dsimp only
  split
  · exact hgrants.calm.keepsPlace j
  · exact (hgrants.calm.keepsPlace j).trans (evalDeficit_keepsPlace (by rw [hgrants.trays]; exact hj))

/-! ### The retry -/

/-- In an UP run that does not run, a tray that has joined waits in the start queue. -/
theorem seqAfter_waits {s : State} (s0 : State) (hd : s.run.direction = .up) (hr : s.run.state ≠ .running) (hq : s.run.startQueue ≠ []) :
    seqAfter s0 s = s := by
  have hopen : testUpDone s = s := testUpDone_id (Bool.eq_false_iff.mpr fun hc => hq (upComplete_iff.mp hc).2.2.1)
  unfold seqAfter
  rw [hd]
  dsimp only
  rw [evalStart_held hr, hopen, ite_self]

theorem seqAfter_taken {s : State} (s0 : State) (hd : s.run.direction = .up) : StartsTaken s (seqAfter s0 s) := by
  unfold seqAfter
  rw [hd]
  dsimp only
  split
  · exact (evalStart_taken s).trans (testUpDone_taken _)
  · exact testUpDone_taken s

theorem Entered.cause {a b : Tray} (h : Entered a b) : b.cause = a.cause := by
  rcases h with h | h | h <;> subst h <;> rfl

theorem Entered.retriesUsed {a b : Tray} (h : Entered a b) : b.state = .on ∨ b.retriesUsed = a.retriesUsed := by
  rcases h with h | h | h <;> subst h
  · exact Or.inr rfl
  · exact Or.inr rfl
  · exact Or.inl rfl

/-- What a retry leaves: the tray waits in the start queue of a run that does not run, or has been started (R11). -/
theorem retry_outcome {s : State} (h : TrayLaw s) {i : TrayId} (hf : s.trays[i].state = .failed) (ho : s.trays[i].owner = .auto)
    (hd : s.run.direction = .up) {t : State} (ht : t = propagate s (retryTray i s)) :
    TraySideOnly s t ∧ t.trays[i].state ≠ .failed ∧ t.trays[i].cause = none ∧
      (s.run.state ≠ .running → t.trays[i] = retried s.trays[i] ∧ i ∈ t.run.startQueue ∧ i ∈ t.run.members) ∧
      (t.trays[i].state = .on ∨ t.trays[i].retriesUsed = s.trays[i].retriesUsed + 1) := by
  obtain ⟨-, -, hplace⟩ := h.1 i
  have hside := retryTray_side i s
  have heq := retryTray_eq hplace hf ho
  have hget : (retryTray i s).trays[i] = retried s.trays[i] := by
    rw [heq]
    exact (vector_set_get _ _ _ _).trans (if_pos rfl)
  have hqueue : i ∈ (retryTray i s).run.startQueue := by
    rw [heq]
    exact (mem_insertOrdered _ _ _ _).mpr (Or.inl rfl)
  have hmember : i ∈ (retryTray i s).run.members := by
    rw [heq]
    exact List.mem_filter.mpr ⟨mem_allTrays i, by simp⟩
  have hrun : (retryTray i s).run.direction = s.run.direction ∧ (retryTray i s).run.state = s.run.state := by
    rw [heq]
    exact ⟨rfl, rfl⟩
  generalize retryTray i s = w at *
  generalize s.trays[i] = a at *
  have hidle : w.trays[i].enable = false := by rw [hget]; rfl
  obtain ⟨hkept, hstart, hmembers⟩ := afterBudget_keepsPlace hidle s
  have hbudget := afterBudget_turn s w
  have hprop := propagate_side s w
  unfold propagate at ht hprop
  generalize afterBudget s w = b at *
  have hdir : b.run.direction = .up := hbudget.run.direction.trans (hrun.1.trans hd)
  have hb : b.trays[i] = retried a := hkept.trans hget
  refine ⟨ht ▸ hside.trans hprop, ?_⟩
  have htaken := (seqAfter_taken s hdir).tray i
  rw [← ht, StartedOrSame, hb] at htaken
  have hwaits : s.run.state ≠ .running → t = b := fun hne => by
    rw [ht]
    refine seqAfter_waits s hdir (fun e => ?_) (List.ne_nil_of_mem (hstart hqueue))
    rcases hbudget.run.state with ⟨hst, -⟩ | ⟨hst, -⟩
    · exact hne (hrun.2.symm.trans (hst.symm.trans e))
    · exact RunState.noConfusion (hst.symm.trans e)
  have hlast : s.run.state ≠ .running → t.trays[i] = retried a ∧ i ∈ t.run.startQueue ∧ i ∈ t.run.members := fun hne => by
    rw [hwaits hne]
    exact ⟨hb, hstart hqueue, hmembers hmember⟩
  rcases htaken with htray | ⟨-, -, hentered⟩
  · rw [htray]
    exact ⟨TrayState.noConfusion, rfl, fun hne => ⟨rfl, (hlast hne).2⟩, Or.inr rfl⟩
  · refine ⟨fun e => ?_, hentered.cause, hlast, hentered.retriesUsed⟩
    rcases hentered.state with hs | hs <;> exact TrayState.noConfusion (hs.symm.trans e)

/-! ### A tray that goes OFF -/

theorem membersLeft_off {s : State} (h : TrayLaw s) {i : TrayId} {x : Tray} (howner : x.owner = s.trays[i].owner) (ht : x.timer = .idle) : MembersLeft s (putTray i x s) := by
  have hretry : x.retryPending = false := by rw [Tray.retryPending, ht]
  exact membersLeft_putTray h howner (fun _ => hretry) fun e => Bool.noConfusion (hretry.symm.trans e)

theorem DeficitLaw.putTray_off {s : State} (h : DeficitLaw s) {i : TrayId} {x : Tray} (hoff : x.state = .off) :
    DeficitLaw (Machine.putTray i x s) := by
  have hlive : x.countedLive = 0 := by rw [Tray.countedLive, Tray.counted, hoff, ite_self]
  refine h.putTray (hlive ▸ Nat.zero_le _) fun hc => absurd hc (not_candidate_of_not_enable ?_)
  rw [Tray.enable, hoff]
  rfl

/-- The stop timer of a tray whose PG has fallen (R12). -/
theorem stopOff_outcome {s : State} (h : TrayLaw s) {i : TrayId} {t : State}
    (ht : t = propagate s (putTray i (enterOff s.trays[i]) s)) :
    TraySideOnly s t ∧ t.trays[i] = enterOff s.trays[i] ∧ (DeficitLaw s → UpRunEnds s t) := by
  have hside := propagate_side_putTray i (enterOff s.trays[i]) s s
  have htray := propagate_putTray (i := i) (t := enterOff s.trays[i]) (s := s) s rfl TrayState.noConfusion
  have hleft : MembersLeft s (putTray i (enterOff s.trays[i]) s) := membersLeft_off h rfl rfl
  have hlaw : DeficitLaw s → DeficitLaw (putTray i (enterOff s.trays[i]) s) := fun hd => hd.putTray_off (by rfl)
  have hends := fun hd => propagate_upRunEnds s (hlaw hd) hleft
  rw [← ht] at hside htray hends
  exact ⟨hside, htray, hends⟩

theorem stopEnds_off {i : TrayId} {s : State} {left : Nat} (hs : s.trays[i].state = .stopping) (ht : s.trays[i].timer = .stop left)
    (hpg : s.pins.pg[i] = false) : stopEnds i s = propagate s (putTray i (enterOff s.trays[i]) s) := by
  unfold stopEnds
  rw [hs, ht]
  dsimp only
  rw [if_neg (Bool.eq_false_iff.mp hpg)]

theorem stopEnds_stuck {i : TrayId} {s : State} {left : Nat} (hs : s.trays[i].state = .stopping) (ht : s.trays[i].timer = .stop left)
    (hpg : s.pins.pg[i] = true) : stopEnds i s = propagate s (failTray i .stuckOn s) := by
  unfold stopEnds
  rw [hs, ht]
  dsimp only
  rw [if_pos hpg]

theorem stopEnds_other {i : TrayId} {s : State} (hs : s.trays[i].state ≠ .stopping) : stopEnds i s = s := by
  unfold stopEnds
  split
  · next h _ => exact absurd h hs
  · rfl

theorem enterFailed_stuck (t : Tray) : enterFailed .stuckOn t = { t with state := .failed, cause := some .stuckOn, timer := .idle } := rfl

/-! ### The discharge wait -/

theorem retryAllowed_iff {s : State} {t : Tray} :
    retryAllowed s t = true ↔ t.owner = .auto ∧ t.locks = noLockouts ∧ s.run.direction = .up ∧ s.run.state ≠ .idle := by
  have hempty : t.locks.isEmpty = true ↔ t.locks = noLockouts := ⟨Lockouts.isEmpty_eq, fun h => by rw [h]; rfl⟩
  simp only [retryAllowed, upRunExists, Bool.and_eq_true, beq_iff_eq, bne_iff_ne, hempty, and_assoc]

theorem dischargeEnds_retry {i : TrayId} {s : State} {left : Nat} (hs : s.trays[i].state = .failed)
    (ht : s.trays[i].timer = .discharge left) (hr : retryAllowed s s.trays[i] = true) :
    dischargeEnds i s = propagate s (retryTray i s) := by
  unfold dischargeEnds
  rw [hs, ht]
  dsimp only
  rw [if_pos hr]

theorem dischargeEnds_abandon {i : TrayId} {s : State} {left : Nat} (hs : s.trays[i].state = .failed)
    (ht : s.trays[i].timer = .discharge left) (hr : retryAllowed s s.trays[i] = false) :
    dischargeEnds i s = propagate s (abandonRetry i s) := by
  unfold dischargeEnds
  rw [hs, ht]
  dsimp only
  rw [if_neg (Bool.eq_false_iff.mp hr)]

theorem dischargeEnds_idle {i : TrayId} {s : State} (ht : s.trays[i].timer = .idle) : dischargeEnds i s = s := by
  unfold dischargeEnds
  split
  · next h => exact TrayTimer.noConfusion (ht.symm.trans h)
  · rfl

/-- A FAILED tray that waits no longer. -/
def unwaited (t : Tray) : Tray := { t with timer := .idle }

theorem abandonRetry_eq (i : TrayId) (s : State) :
    abandonRetry i s =
      post .trayFailed (some i.val) (s.trays[i].cause.map failureCauseCode) (putTray i (unwaited s.trays[i]) s) := rfl

/-- A retry that is abandoned is reported first (R11). -/
theorem abandonRetry_outcome {s : State} (h : TrayLaw s) {i : TrayId} (hs : s.trays[i].state = .failed) {t : State}
    (ht : t = propagate s (abandonRetry i s)) :
    TraySideOnly s t ∧ t.trays[i] = unwaited s.trays[i] ∧
      NoticeNext { kind := .trayFailed, subject := some i.val, value := s.trays[i].cause.map failureCauseCode, time := s.time } s t ∧
      (DeficitLaw s → UpRunEnds s t) := by
  have henable : Tray.enable (unwaited s.trays[i]) = false := by
    have hstate : (unwaited s.trays[i]).state = s.trays[i].state := rfl
    rw [Tray.enable, hstate, hs]
    rfl
  have hlive : Tray.countedLive (unwaited s.trays[i]) = s.trays[i].countedLive := rfl
  have hcand : deficitCandidate (unwaited s.trays[i]) = true → deficitCandidate s.trays[i] = true := fun hc =>
    absurd hc (not_candidate_of_not_enable henable)
  have hleft : MembersLeft s (putTray i (unwaited s.trays[i]) s) :=
    membersLeft_putTray h rfl (fun e => absurd (hs.symm.trans e) TrayState.noConfusion)
      fun e => absurd (show false = true from e) Bool.noConfusion
  have hnotQueued : s.trays[i].state ≠ .queued := fun e => TrayState.noConfusion (hs.symm.trans e)
  have hfree : ¬ Touchable (putTray i (unwaited s.trays[i]) s) i := putTray_untouchable henable hnotQueued
  have hget : (putTray i (unwaited s.trays[i]) s).trays[i] = unwaited s.trays[i] :=
    (putTray_get _ _ _ _).trans (if_pos rfl)
  have hlaw : DeficitLaw s → DeficitLaw (putTray i (unwaited s.trays[i]) s) := fun hd =>
    hd.putTray (Nat.le_of_eq hlive) hcand
  have hput : TraySideOnly s (putTray i (unwaited s.trays[i]) s) := putTray_side _ _ _
  have hnotices : (putTray i (unwaited s.trays[i]) s).notices = s.notices := rfl
  have htime : (putTray i (unwaited s.trays[i]) s).time = s.time := rfl
  rw [abandonRetry_eq] at ht
  generalize putTray i (unwaited s.trays[i]) s = w at *
  generalize s.trays[i].cause.map failureCauseCode = v at *
  have hfree' : ¬ Touchable (post .trayFailed (some i.val) v w) i := by
    rw [Touchable, post_run, post_tray]
    exact hfree
  have hnext : NoticeNext { kind := .trayFailed, subject := some i.val, value := v, time := s.time } s
      (post .trayFailed (some i.val) v w) := noticeNext_post hnotices htime
  have hside := hput.trans (post_side .trayFailed (some i.val) v w)
  have hget' := (post_tray .trayFailed (some i.val) v w i).trans hget
  have hlaw' := fun hd => (hlaw hd).post .trayFailed (some i.val) v
  have hleft' := hleft.post (k := .trayFailed) (by decide) (some i.val) v
  generalize post .trayFailed (some i.val) v w = u at *
  have hturn := propagate_turn s u
  have htray := (hturn.same hfree').trans hget'
  have hends := fun hd => propagate_upRunEnds s (hlaw' hd) hleft'
  rw [← ht] at hturn htray hends
  exact ⟨hside.trans hturn.side, htray, hnext.then_more hturn.records, hends⟩

/-- Settles O34. -/
theorem stopAndRetryTimers : Obligations.StopAndRetryTimers := by
  intro s i left hfree hlaw
  refine ⟨fun ht hpg => ?_, fun ht hpg => ?_, fun ht ho hl hd hr => ?_, fun ht hno => ?_, fun hs => ?_, fun ht => ?_⟩
  · obtain ⟨hside, htray, hends⟩ := stopOff_outcome hlaw (stopEnds_off (stopping_of_stop hlaw ht) ht hpg)
    exact ⟨_, awake_free (stopEnds i) hfree, hside, htray, (congrArg Tray.counted htray).trans rfl, fun _ => hends⟩
  · obtain ⟨hside, htray, hnext, -⟩ := failTray_outcome hlaw (i := i) (stopEnds_stuck (stopping_of_stop hlaw ht) ht hpg)
    exact ⟨_, awake_free (stopEnds i) hfree, hside, htray, (congrArg Tray.counted htray).trans rfl, hnext rfl⟩
  · exact ⟨_, awake_free (dischargeEnds i) hfree, retry_outcome hlaw (failed_of_discharge hlaw ht) ho hd
      (dischargeEnds_retry (failed_of_discharge hlaw ht) ht (retryAllowed_iff.mpr ⟨ho, hl, hd, hr⟩))⟩
  · have hrefused : retryAllowed s s.trays[i] = false := Bool.eq_false_iff.mpr fun hr => by
      obtain ⟨ho, hl, hd, hst⟩ := retryAllowed_iff.mp hr
      rcases hno with h | h | h | h
      · exact Owner.noConfusion (h.symm.trans ho)
      · exact h hl
      · exact Direction.noConfusion (h.symm.trans hd)
      · exact hst h
    obtain ⟨hside, htray, hnext, hends⟩ := abandonRetry_outcome hlaw (failed_of_discharge hlaw ht)
      (dischargeEnds_abandon (failed_of_discharge hlaw ht) ht hrefused)
    exact ⟨_, awake_free (dischargeEnds i) hfree, hside, htray, hnext, fun _ => hends⟩
  · exact (awake_free (stopEnds i) hfree).trans (congrArg _ (stopEnds_other hs))
  · exact (awake_free (dischargeEnds i) hfree).trans (congrArg _ (dischargeEnds_idle ht))

/-! ### Presence -/

/-- A tray that is taken out (R14). -/
theorem presenceLost_outcome {s : State} (h : TrayLaw s) (i : TrayId) {t : State} (ht : t = presenceLost i s) :
    TraySideOnly s t ∧ t.trays[i] = removeTray s.trays[i] ∧ i ∉ t.run.startQueue ∧ i ∉ t.run.stopQueue ∧ i ∉ t.run.members ∧
      NoticeNext { kind := .trayRemoved, subject := some i.val, value := none, time := s.time } s t ∧
      (DeficitLaw s → UpRunEnds s t) := by
  have hleft : MembersLeft s (putTray i (removeTray s.trays[i]) s) := membersLeft_off h rfl rfl
  have hlaw : DeficitLaw s → DeficitLaw (putTray i (removeTray s.trays[i]) s) := fun hd => hd.putTray_off (by rfl)
  have hfree : ¬ Touchable (putTray i (removeTray s.trays[i]) s) i := putTray_untouchable rfl TrayState.noConfusion
  have hget : (putTray i (removeTray s.trays[i]) s).trays[i] = removeTray s.trays[i] := (putTray_get _ _ _ _).trans (if_pos rfl)
  have hstart : i ∉ (putTray i (removeTray s.trays[i]) s).run.startQueue := putTray_not_startQueue TrayState.noConfusion
  have hstop : i ∉ (putTray i (removeTray s.trays[i]) s).run.stopQueue := putTray_not_stopQueue rfl
  have hmember : i ∉ (putTray i (removeTray s.trays[i]) s).run.members := putTray_not_members (Or.inl rfl)
  have hput : TraySideOnly s (putTray i (removeTray s.trays[i]) s) := putTray_side _ _ _
  have hnotices : (putTray i (removeTray s.trays[i]) s).notices = s.notices := rfl
  have htime : (putTray i (removeTray s.trays[i]) s).time = s.time := rfl
  unfold presenceLost at ht
  generalize putTray i (removeTray s.trays[i]) s = w at *
  have hfree' : ¬ Touchable (post .trayRemoved (some i.val) none w) i := by
    rw [Touchable, post_run, post_tray]
    exact hfree
  have hnext : NoticeNext { kind := .trayRemoved, subject := some i.val, value := none, time := s.time } s
      (post .trayRemoved (some i.val) none w) := noticeNext_post hnotices htime
  have hturn := propagate_turn s (post .trayRemoved (some i.val) none w)
  have htray := (hturn.same hfree').trans ((post_tray _ _ _ _ _).trans hget)
  have hends := fun hd => propagate_upRunEnds s ((hlaw hd).post .trayRemoved (some i.val) none)
    (hleft.post (by decide) (some i.val) none)
  have hrun := hturn.run
  rw [← ht] at hturn htray hends hrun
  rw [← post_run .trayRemoved (some i.val) none w] at hstart hstop hmember
  exact ⟨(hput.trans (post_side _ _ _ _)).trans hturn.side, htray, fun hi => hstart (hrun.startQueue.subset hi),
    fun hi => hstop (hrun.stopQueue.subset hi), fun hi => hmember (hrun.members.subset hi), hnext.then_more hturn.records, hends⟩

/-- Settles O35. -/
theorem trayPresence : Obligations.TrayPresence := by
  intro s i hfree hlaw
  have hlaw' : TrayLaw (setPresencePin i false s) := hlaw
  obtain ⟨-, -, hplace⟩ := hlaw.1 i
  refine ⟨?_, ?_⟩
  · obtain ⟨hside, htray, hstart, hstop, hmember, hnext, hends⟩ := presenceLost_outcome hlaw' i rfl
    exact ⟨_, awake_free (presenceLost i) (s := setPresencePin i false s) hfree, hside, htray, hstart, hstop, hmember, hnext, fun _ => hends⟩
  · exact (awake_free (presenceBack i) (s := setPresencePin i true s) hfree).trans (congrArg _
      (putTray_eq_set i { s.trays[i] with present := true } (setPresencePin i true s) hplace rfl rfl fun h => h))

end Sys2Proof.Machine
end

section
/-! PROOFS. The runs' own commands: suspend, resume, cancel (R120 to R122). -/
namespace Sys2Proof.Machine

/-! ### An UP run is dissolved -/

theorem putTrays_cons (x : TrayId) (l : List TrayId) (f : Tray → Tray) (s : State) :
    putTrays (x :: l) f s = putTrays l f (putTray x (f s.trays[x]) s) := rfl

/-- Several trays stored: a tray of the list has the function's value, any other is left. -/
theorem putTrays_get {l : List TrayId} (hl : l.Nodup) (f : Tray → Tray) (s : State) (j : TrayId) :
    (putTrays l f s).trays[j] = if j ∈ l then f s.trays[j] else s.trays[j] := by
  induction l generalizing s with
  | nil => rfl
  | cons x l ih =>
    obtain ⟨hx, hl⟩ := List.nodup_cons.mp hl
    rw [putTrays_cons, ih hl, putTray_get]
    by_cases hj : x = j
    · subst hj
      simp [hx]
    · simp [hj, Ne.symm hj]

/-- Storing trays touches the trays and the run record only. -/
theorem putTrays_frame (l : List TrayId) (f : Tray → Tray) (s : State) :
    putTrays l f s = { s with trays := (putTrays l f s).trays, run := (putTrays l f s).run } := by
  induction l generalizing s with
  | nil => rfl
  | cons x l ih =>
    rw [putTrays_cons]
    exact ih _

/-- The record of a run whose queue and members are let go. -/
def letGo (r : RunRecord) : RunRecord := { r with startQueue := [], members := [] }

theorem letGo_syncRun {i : TrayId} {t : Tray} {r : RunRecord} (h : i ∉ r.stopQueue) : letGo (syncRun i t r) = letGo r := by
  have hstop : (syncRun i t r).stopQueue = r.stopQueue := by
    simp only [syncRun, without_eq_self h, ite_self]
  show ({ syncRun i t r with startQueue := [], members := [] } : RunRecord) = _
  rw [letGo, ← hstop]
  rfl

theorem letGo_putTrays {l : List TrayId} (f : Tray → Tray) {s : State} (h : s.run.stopQueue = []) :
    letGo (putTrays l f s).run = letGo s.run := by
  induction l generalizing s with
  | nil => rfl
  | cons x l ih =>
    have hlet : letGo (putTray x (f s.trays[x]) s).run = letGo s.run := letGo_syncRun (h ▸ List.not_mem_nil)
    have hstop : (letGo (putTray x (f s.trays[x]) s).run).stopQueue = (letGo s.run).stopQueue := by rw [hlet]
    exact (ih (hstop.trans h)).trans hlet

/-- A dissolved run: its QUEUED trays are OFF, and nobody is in it (R119, R122). -/
theorem dissolveUp_eq {s : State} (h : TrayLaw s) (hs : s.run.stopQueue = []) :
    dissolveUp s =
      { s with
        trays := Vector.ofFn fun i => if s.trays[i].state = .queued then enterOff s.trays[i] else s.trays[i]
        run := letGo s.run } := by
  obtain ⟨htrays, hnodup, -⟩ := h
  have htable : (putTrays s.run.startQueue enterOff s).trays =
      Vector.ofFn fun i => if s.trays[i].state = .queued then enterOff s.trays[i] else s.trays[i] := by
    refine Vector.ext fun j hj => ?_
    have hget := putTrays_get hnodup enterOff s ⟨j, hj⟩
    rw [Vector.getElem_ofFn]
    simp only [(htrays ⟨j, hj⟩).2.2.1] at hget
    exact hget
  unfold dissolveUp
  dsimp only
  rw [putTrays_frame s.run.startQueue enterOff s, htable]
  exact congrArg (fun r => ({ s with trays := _, run := r } : State)) (letGo_putTrays enterOff hs)

/-! ### The answers -/

theorem cancelRun_idle {s : State} (h : s.run.state = .idle) : cancelRun s = s := by
  unfold cancelRun
  rw [h]

theorem cancelRun_down {s : State} (h : s.run.state ≠ .idle) (hd : s.run.direction = .down) :
    cancelRun s = { s with run := { s.run with state := .idle, stopQueue := [], stoppedCount := 0, blocked := none } } := by
  unfold cancelRun
  rw [hd]
  cases hr : s.run.state
  case idle => exact absurd hr h
  all_goals rfl

theorem cancelRun_up {s : State} (h : s.run.state ≠ .idle) (hd : s.run.direction = .up) :
    cancelRun s = { dissolveUp s with run := { (dissolveUp s).run with state := .idle, blocked := none } } := by
  unfold cancelRun
  rw [hd]
  cases hr : s.run.state
  case idle => exact absurd hr h
  all_goals rfl

/-! ### One evaluation of the start rule -/

theorem upComplete_waiting {s : State} (h : s.run.startQueue ≠ []) : upComplete s = false := by
  have hempty : s.run.startQueue.isEmpty = false := by simpa using h
  simp only [upComplete, hempty, Bool.and_false, Bool.false_and]

theorem startVerdict_slots {s : State} (h : TrayId) (hs : s.params.slots ≤ s.inrushCount) : startVerdict s h = .blocked .slots :=
  if_pos hs

theorem startVerdict_spacing {s : State} (h : TrayId) (hs : s.inrushCount < s.params.slots) (ht : s.run.startSpacing ≠ none) :
    startVerdict s h = .blocked .spacing :=
  (if_neg (Nat.not_le.mpr hs)).trans (if_pos (Option.isSome_iff_ne_none.mpr ht))

section
variable {s : State} {h : TrayId} {rest : List TrayId} (hd : s.run.direction = .up) (hr : s.run.state = .running)
  (hq : s.run.startQueue = h :: rest)
include hd hr hq

theorem evalStart_head : evalStart s = testUpDone (startLoop (rest.length + 1 + 1) s) := by
  have hlen : s.run.startQueue.length = rest.length + 1 := by rw [hq]; rfl
  unfold evalStart
  rw [if_pos ⟨hd, hr⟩, hlen]

/-- A head that a condition blocks leaves the reason, and nothing else (R111). -/
theorem evalStart_blocked {why : Blocked} (hv : startVerdict s h = .blocked why) :
    evalStart s = { s with run := { s.run with blocked := some why } } := by
  have hloop : startLoop (rest.length + 1 + 1) s = { s with run := { s.run with blocked := some why } } := by
    unfold startLoop
    rw [hq]
    simp only [hv]
  rw [evalStart_head hd hr hq, hloop]
  exact testUpDone_id (upComplete_waiting fun he => List.cons_ne_nil h rest (hq.symm.trans he))

/-- Outside NORMAL nothing is recorded (R111). -/
theorem evalStart_notNormal (hv : startVerdict s h = .notNormal) : evalStart s = s := by
  have hloop : startLoop (rest.length + 1 + 1) s = s := by
    unfold startLoop
    rw [hq]
    simp only [hv]
  rw [evalStart_head hd hr hq, hloop]
  exact testUpDone_id (upComplete_waiting fun he => List.cons_ne_nil h rest (hq.symm.trans he))

end

/-! ### The answers -/

theorem resumeRun_down {s : State} (hd : s.run.direction = .down) :
    resumeRun s = evalStop { s with run := { s.run with state := .running } } := by
  unfold resumeRun
  rw [hd]

theorem resumeRun_up {s : State} (hd : s.run.direction = .up) :
    resumeRun s =
      if s.ilc.state = .normal then evalStart { s with run := { s.run with state := .running } }
      else testUpDone { s with run := { s.run with state := .held } } := by
  unfold resumeRun
  rw [hd]

/-- A run made to go on from `u` keeps its direction and scope, or is done. -/
theorem RackTurn.resumed {s u t : State} (h : RackTurn u t) (hside : TraySideOnly s u) (hd : u.run.direction = s.run.direction)
    (hsc : u.run.scope = s.run.scope) (hst : u.run.state ≠ .suspended) :
    TraySideOnly s t ∧ t.run.state ≠ .suspended ∧ t.run.direction = s.run.direction ∧ t.run.scope = s.run.scope := by
  refine ⟨hside.trans h.side, ?_, h.run.direction.trans hd, h.run.scope.trans hsc⟩
  rcases h.run.state with ⟨he, -⟩ | ⟨he, -⟩
  · exact fun hs => hst (he.symm.trans hs)
  · exact fun hs => RunState.noConfusion (he.symm.trans hs)

theorem resumeRun_outcome (s : State) :
    TraySideOnly s (resumeRun s) ∧ (resumeRun s).run.state ≠ .suspended ∧
      (resumeRun s).run.direction = s.run.direction ∧ (resumeRun s).run.scope = s.run.scope := by
  cases hd : s.run.direction with
  | down =>
    rw [resumeRun_down hd, ← hd]
    exact (evalStop_turn _).resumed (run_side _ _) rfl rfl RunState.noConfusion
  | up =>
    rw [resumeRun_up hd, ← hd]
    split
    · exact (evalStart_taken _).turn.resumed (run_side _ _) rfl rfl RunState.noConfusion
    · exact (testUpDone_taken _).turn.resumed (run_side _ _) rfl rfl RunState.noConfusion

theorem downComplete_waiting {s : State} (h : s.run.stopQueue ≠ []) : downComplete s = false := by
  have hempty : s.run.stopQueue.isEmpty = false := by simpa using h
  simp only [downComplete, hempty, Bool.and_false]

/-- While the stop spacing timer runs no tray is stopped (R117). -/
theorem evalStop_spaced {s : State} (hd : s.run.direction = .down) (hr : s.run.state = .running) (hq : s.run.stopQueue ≠ [])
    (ht : s.run.stopSpacing ≠ none) : evalStop s = s := by
  have hloop : ∀ n, stopLoop n s = s := fun n => by
    cases n with
    | zero => rfl
    | succ n =>
      unfold stopLoop
      split
      · rfl
      · exact if_pos (Option.isSome_iff_ne_none.mpr ht)
  unfold evalStop
  rw [if_pos ⟨hd, hr⟩, hloop]
  exact testDownDone_id (downComplete_waiting hq)

/-- A DOWN run without trays is done at once (R117). -/
theorem evalStop_empty {s : State} (hd : s.run.direction = .down) (hr : s.run.state = .running) (hq : s.run.stopQueue = []) :
    evalStop s =
      { post .runDone (some 1) (some s.run.stoppedCount) s with run := { s.run with state := .idle, stoppedCount := 0 } } := by
  have hloop : ∀ n, stopLoop n s = s := fun n => by
    cases n with
    | zero => rfl
    | succ n =>
      unfold stopLoop
      rw [hq]
  have hdone : downComplete s = true := by simp [downComplete, hd, hr, hq]
  unfold evalStop
  rw [if_pos ⟨hd, hr⟩, hloop]
  exact testDownDone_complete hdone

theorem answerRunResume_suspended {s : State} (h : s.run.state = .suspended) : answerRunResume s = ack (resumeRun s) := if_pos h

/-- The first condition that blocks a start while the spacing timer runs (R111). -/
theorem startVerdict_spaced {s : State} (h : TrayId) (ht : s.run.startSpacing ≠ none) :
    startVerdict s h = .blocked (if s.params.slots ≤ s.inrushCount then .slots else .spacing) := by
  split
  · next hs => exact startVerdict_slots h hs
  · next hs => exact startVerdict_spacing h (Nat.not_le.mp hs) ht

/-- A notice does not look at the run record. -/
theorem post_rerun (k : NoticeKind) (x v : Option Nat) (s : State) (r r' : RunRecord) :
    { post k x v { s with run := r } with run := r' } = { post k x v s with run := r' } := by
  unfold post
  dsimp only
  split <;> rfl

section
variable {s : State} (hd : s.run.direction = .down)
include hd

theorem resumeRun_down_spaced (hq : s.run.stopQueue ≠ []) (ht : s.run.stopSpacing ≠ none) :
    resumeRun s = { s with run := { s.run with state := .running } } :=
  (resumeRun_down hd).trans (evalStop_spaced (by exact hd) rfl (by exact hq) (by exact ht))

theorem resumeRun_down_empty (hq : s.run.stopQueue = []) :
    resumeRun s =
      { post .runDone (some 1) (some s.run.stoppedCount) s with run := { s.run with state := .idle, stoppedCount := 0 } } := by
  rw [resumeRun_down hd, evalStop_empty (by exact hd) rfl (by exact hq)]
  exact post_rerun _ _ _ _ _ _

end

section
variable {s : State} (hd : s.run.direction = .up) (hq : s.run.startQueue ≠ [])
include hd hq

theorem resumeRun_up_held (hn : s.ilc.state ≠ .normal) : resumeRun s = { s with run := { s.run with state := .held } } := by
  rw [resumeRun_up hd, if_neg hn]
  exact testUpDone_id (upComplete_waiting hq)

theorem resumeRun_up_spaced (hn : s.ilc.state = .normal) (ht : s.run.startSpacing ≠ none) :
    resumeRun s =
      { s with run := { s.run with
          state := .running, blocked := some (if s.params.slots ≤ s.inrushCount then .slots else .spacing) } } := by
  obtain ⟨h, rest, hcons⟩ := List.exists_cons_of_ne_nil hq
  rw [resumeRun_up hd, if_pos hn]
  exact evalStart_blocked (by exact hd) rfl (by exact hcons) (startVerdict_spaced h (by exact ht))

end

/-- A cancelled UP run (R122). -/
theorem cancelRun_up_eq {s : State} (hlaw : TrayLaw s) (h : s.run.state ≠ .idle) (hd : s.run.direction = .up) :
    cancelRun s =
      { s with
        trays := Vector.ofFn fun i => if s.trays[i].state = .queued then enterOff s.trays[i] else s.trays[i]
        run := { s.run with state := .idle, startQueue := [], members := [], blocked := none } } := by
  have hstop : s.run.stopQueue = [] := by
    by_contra hne
    exact Direction.noConfusion (hd.symm.trans (hlaw.2.2.2.2 hne).1)
  rw [cancelRun_up h hd, dissolveUp_eq hlaw hstop]
  rfl

/-- Settles O49. -/
theorem runControl : Obligations.RunControl := by
  intro s tag hready hlaw
  have hsuspend := fun {t : State} {a : Answer} (h : answerRunSuspend (asked ⟨0x22, tag, .runSuspend⟩ s) = (a, t)) =>
    request_of_answer (kind := 0x22) (tag := tag) (body := .runSuspend) hready h
  have hresume := fun {t : State} {a : Answer} (h : answerRunResume (asked ⟨0x23, tag, .runResume⟩ s) = (a, t)) =>
    request_of_answer (kind := 0x23) (tag := tag) (body := .runResume) hready h
  have hgo := fun {t : State} (hs : s.run.state = .suspended) (h : resumeRun (asked ⟨0x23, tag, .runResume⟩ s) = t) =>
    hresume ((answerRunResume_suspended (s := asked ⟨0x23, tag, .runResume⟩ s) hs).trans (congrArg ack h))
  have hcancel := fun {t : State} (h : cancelRun (asked ⟨0x24, tag, .runCancel⟩ s) = t) =>
    request_of_answer (kind := 0x24) (tag := tag) (body := .runCancel) hready (congrArg ack h)
  refine ⟨fun h => hsuspend (if_neg h), fun h => hsuspend (if_pos h), fun h => hresume (if_neg h), fun h => ?_,
    fun h hd hq ht => ?_, fun h hd hq => ?_, fun h hd hn hq => ?_, fun h hd hn hq ht => ?_,
    fun h => hcancel (cancelRun_idle h), fun h hd => hcancel (cancelRun_down h hd), fun h hd => ?_⟩
  · obtain ⟨hside, hoff, hdir, hscope⟩ := resumeRun_outcome (asked ⟨0x23, tag, .runResume⟩ s)
    exact ⟨_, hgo h rfl, replying_side hside _ _, hoff, hdir, hscope⟩
  · exact hgo h (resumeRun_down_spaced (by exact hd) (by exact hq) (by exact ht))
  · have hnote : post .runDone (some 1) (some s.run.stoppedCount) (asked ⟨0x23, tag, .runResume⟩ s) =
        asked ⟨0x23, tag, .runResume⟩ (post .runDone (some 1) (some s.run.stoppedCount) s) := post_asked _ _ _ _ s
    refine (hgo h (resumeRun_down_empty (by exact hd) (by exact hq))).trans ?_
    exact congrArg (fun u => Host.Outcome.next (replying _ _ { u with run := { s.run with state := .idle, stoppedCount := 0 } })) hnote
  · exact hgo h (resumeRun_up_held (by exact hd) (by exact hq) (by exact hn))
  · exact hgo h (resumeRun_up_spaced (by exact hd) (by exact hq) (by exact hn) (by exact ht))
  · exact hcancel (cancelRun_up_eq (by exact hlaw) (by exact h) (by exact hd))

end Sys2Proof.Machine
end

section
/-! PROOFS. The start rule (R79, R111 to R113). -/
namespace Sys2Proof.Machine

/-! ### The loop, head by head -/

theorem startLoop_nil {s : State} (hq : s.run.startQueue = []) (n : Nat) :
    startLoop (n + 1) s = { s with run := { s.run with blocked := none } } := by
  unfold startLoop
  rw [hq]

section
variable {s : State} {h : TrayId} {rest : List TrayId} (hq : s.run.startQueue = h :: rest)
include hq

theorem startLoop_blocked {why : Blocked} (hv : startVerdict s h = .blocked why) (n : Nat) :
    startLoop (n + 1) s = { s with run := { s.run with blocked := some why } } := by
  unfold startLoop
  rw [hq]
  simp only [hv]

theorem startLoop_start (hv : startVerdict s h = .start) (n : Nat) : startLoop (n + 1) s = startLoop n (startTray h s) := by
  rw [startLoop, hq]
  simp only [hv]

end

/-! ### The verdict -/

theorem rankGateOpen_iff {s : State} {h : TrayId} :
    rankGateOpen s h = true ↔ ∀ i : TrayId, s.trays[i].state = .inrush → s.trays[h].cfg.rank ≤ s.trays[i].cfg.rank := by
  have hbody : ∀ i : TrayId, (!(s.trays[i].state == .inrush && decide (s.trays[i].cfg.rank < s.trays[h].cfg.rank))) = true ↔
      (s.trays[i].state = .inrush → s.trays[h].cfg.rank ≤ s.trays[i].cfg.rank) := fun i => by
    rw [Bool.not_eq_true', Bool.and_eq_false_imp, beq_iff_eq]
    simp only [decide_eq_false_iff_not, Nat.not_lt]
  simp only [rankGateOpen, List.all_eq_true, hbody, mem_allTrays, true_implies]

section
variable {s : State} {h : TrayId} (hs : s.inrushCount < s.params.slots) (ht : s.run.startSpacing = none)
include hs ht

theorem startVerdict_gate : startVerdict s h = if !rankGateOpen s h then .blocked .rankGate else admission s s.trays[h] := by
  unfold startVerdict
  rw [if_neg (Nat.not_le.mpr hs), ht]
  rfl

theorem startVerdict_rankGate (hg : ∃ i : TrayId, s.trays[i].state = .inrush ∧ s.trays[i].cfg.rank < s.trays[h].cfg.rank) :
    startVerdict s h = .blocked .rankGate := by
  obtain ⟨i, hi, hlt⟩ := hg
  have hclosed : rankGateOpen s h = false :=
    Bool.eq_false_iff.mpr fun ho => Nat.not_le.mpr hlt (rankGateOpen_iff.mp ho i hi)
  rw [startVerdict_gate hs ht, hclosed]
  rfl

theorem startVerdict_admission (hg : ∀ i : TrayId, s.trays[i].state = .inrush → s.trays[h].cfg.rank ≤ s.trays[i].cfg.rank) :
    startVerdict s h = admission s s.trays[h] := by
  rw [startVerdict_gate hs ht, rankGateOpen_iff.mpr hg]
  rfl

end

theorem admission_notNormal {s : State} {t : Tray} (h : s.ilc.state ≠ .normal) : admission s t = .notNormal := if_pos h

theorem admission_budget {s : State} {t : Tray} (h : s.ilc.state = .normal)
    (hc : s.budget.c < s.kT + t.cfg.alloc + t.cfg.surge + s.params.margin + s.budget.floorEff) :
    admission s t = .blocked .budget := (if_neg (not_not_intro h)).trans (if_pos hc)

theorem admission_readiness {s : State} {t : Tray} (h : s.ilc.state = .normal)
    (hc : s.kT + t.cfg.alloc + t.cfg.surge + s.params.margin + s.budget.floorEff ≤ s.budget.c)
    (h0 : s.params.readyMin ≠ 0) (hr : s.tProj t.cfg.alloc < s.params.readyMin) : admission s t = .blocked .readiness :=
  (if_neg (not_not_intro h)).trans ((if_neg (Nat.not_lt.mpr hc)).trans (if_pos ⟨h0, hr⟩))

/-! ### A start -/

theorem inrushCount_eq (s : State) : s.inrushCount = (allTrays.map fun i => if s.trays[i].state = .inrush then 1 else 0).sum := by
  unfold State.inrushCount
  induction allTrays with
  | nil => rfl
  | cons i l ih =>
    rw [List.filter_cons, List.map_cons, List.sum_cons, ← ih]
    by_cases hi : s.trays[i].state = .inrush
    · rw [if_pos (beq_iff_eq.mpr hi), if_pos hi, List.length_cons, Nat.add_comm]
    · rw [if_neg (fun hb => hi (beq_iff_eq.mp hb)), if_neg hi, Nat.zero_add]

theorem inrushCount_congr {s t : State} (h : t.trays = s.trays) : t.inrushCount = s.inrushCount := by
  unfold State.inrushCount
  rw [h]

/-- One more tray in INRUSH (R108). -/
theorem inrushCount_entered {h : TrayId} {s : State} (hh : s.trays[h].state ≠ .inrush) :
    (putTray h (enterInrush s.trays[h]) s).inrushCount = s.inrushCount + 1 := by
  have hsum := sum_replace (i := h) (f := fun i => if s.trays[i].state = .inrush then 1 else 0)
    (g := fun i => if (putTray h (enterInrush s.trays[h]) s).trays[i].state = .inrush then 1 else 0) fun j hj => by
      simp only [putTray_get, if_neg (Ne.symm hj)]
  have hnew : (putTray h (enterInrush s.trays[h]) s).trays[h].state = .inrush := by rw [putTray_get, if_pos rfl]; rfl
  simp only [if_neg hh, if_pos hnew] at hsum
  rw [inrushCount_eq, inrushCount_eq]
  omega

/-- The run record after the start of the head `h` of the queue, with spacing time `time` (R113). -/
def headStarted (rest : List TrayId) (time : Nat) (r : RunRecord) : RunRecord :=
  { r with startQueue := rest, startSpacing := some time }

theorem entryPg_low {h : TrayId} {y : State} (hpg : y.pins.pg[h] = false) : entryPg h y = y := if_neg (Bool.eq_false_iff.mp hpg)

/-- The entry to INRUSH of a start: trays, run record and pins (R7, R113). -/
theorem beginInrush_spaced {h : TrayId} {s : State} (hroom : s.kT + s.trays[h].cfg.alloc + s.trays[h].cfg.surge ≤ s.budget.c) :
    (beginInrush h (spaced s)).trays = (putTray h (enterInrush s.trays[h]) s).trays ∧
      (beginInrush h (spaced s)).run = syncRun h (enterInrush s.trays[h]) (spaced s).run ∧
      (beginInrush h (spaced s)).pins = s.pins := by
  have hbegin := (beginInrush_tallied (s := spaced s) (h := h) hroom).1
  exact ⟨hbegin.trays, hbegin.run, hbegin.side.pins⟩

section
variable {s : State} {h : TrayId} {rest : List TrayId} (hlaw : TrayLaw s) (hq : s.run.startQueue = h :: rest)
include hlaw hq

theorem head_queued : s.trays[h].state = .queued :=
  (hlaw.1 h).2.2.1.mp (by rw [hq]; exact List.mem_cons_self)

theorem head_member : h ∈ s.run.members :=
  (hlaw.1 h).2.2.2.1 (by rw [hq]; exact List.mem_cons_self)

variable (hd : s.run.direction = .up)
include hd

theorem syncRun_headStarted {time : Nat} (htime : time ≠ 0) (hsp : s.params.startSpacing = time) :
    syncRun h (enterInrush s.trays[h]) (spaced s).run = headStarted rest time s.run := by
  obtain ⟨htrays, hnodup, -, -, hstop⟩ := hlaw
  have hstopNil : s.run.stopQueue = [] := by
    by_contra hne
    exact Direction.noConfusion (hd.symm.trans (hstop hne).1)
  obtain ⟨-, -, hmember, -⟩ := (htrays h).2.2.2
  have hauto := (hmember ((htrays h).2.2.2.1 (by rw [hq]; exact List.mem_cons_self))).2
  have hrest : without h s.run.startQueue = rest := by
    rw [hq] at hnodup ⊢
    obtain ⟨hnot, -⟩ := List.nodup_cons.mp hnodup
    rw [without, List.filter_cons_of_neg (by simp)]
    exact without_eq_self hnot
  have hstays : ¬ ((enterInrush s.trays[h]).state = .off ∨ (enterInrush s.trays[h]).owner = .manual) := by
    rintro (he | he)
    · exact TrayState.noConfusion he
    · exact Owner.noConfusion (hauto.symm.trans he)
  simp only [syncRun, spaced, if_neg (enterInrush_notQueued _), if_neg hstays, hrest, hsp, spacingStart, if_neg htime, hstopNil,
    headStarted]
  simp [without]

/-- The start of the head, PG low: INRUSH with its full wait, and the spacing begun (R7, R113). -/
theorem startTray_low (ha : admission s s.trays[h] = .start) (hpg : s.pins.pg[h] = false) (hsp : s.params.startSpacing ≠ 0) :
    (startTray h s).trays = s.trays.set h (enterInrush s.trays[h]) ∧
      (startTray h s).run = headStarted rest s.params.startSpacing s.run ∧
      (startTray h s).kT = s.kT + s.trays[h].cfg.alloc + s.trays[h].cfg.surge ∧
      (startTray h s).inrushCount = s.inrushCount + 1 := by
  have hqueued := head_queued hlaw hq
  have hcounted : s.trays[h].counted = 0 := by rw [Tray.counted, hqueued]
  have hkT := kT_putTray h (enterInrush s.trays[h]) s
  have hcount := inrushCount_entered (h := h) (s := s) (by rw [hqueued]; exact TrayState.noConfusion)
  have hrun := syncRun_headStarted hlaw hq hd hsp rfl
  obtain ⟨htrays, hruns, hpins⟩ := beginInrush_spaced (s := s) (h := h)
    ((Nat.le_add_right _ _).trans ((Nat.le_add_right _ _).trans (admission_start ha).2.1))
  have hlow : startTray h s = beginInrush h (spaced s) := (startTray_eq h s).trans (entryPg_low (by rw [hpins]; exact hpg))
  rw [← hlow] at htrays hruns
  rw [hcounted, Nat.add_zero] at hkT
  refine ⟨htrays, hruns.trans hrun, (kT_congr htrays).trans ?_, (inrushCount_congr htrays).trans hcount⟩
  exact hkT.trans (Nat.add_assoc _ _ _).symm

end

/-- The part with this blocked reason. -/
def blockedOn (why : Option Blocked) (s : State) : State := { s with run := { s.run with blocked := why } }

/-- The reason on which the loop comes to rest after one start, while the spacing runs (R111, R113). -/
theorem startLoop_rests {s y : State} {rest : List TrayId} {time : Nat} (hy : y.run = headStarted rest time s.run) (n : Nat) :
    startLoop (n + 1) y =
      blockedOn (if rest = [] then none else if y.params.slots ≤ y.inrushCount then some .slots else some .spacing) y := by
  have hqueue : y.run.startQueue = rest := by rw [hy]; rfl
  have hspacing : y.run.startSpacing ≠ none := by rw [hy]; exact Option.some_ne_none _
  cases rest with
  | nil => exact startLoop_nil hqueue n
  | cons k rest =>
    rw [startLoop_blocked hqueue (startVerdict_spaced k hspacing), if_neg (List.cons_ne_nil _ _)]
    split <;> rfl

/-- The part with the start spacing timer run out. -/
def unspaced (s : State) : State := { s with run := { s.run with startSpacing := none } }

theorem startSpacingEnds_runs {s : State} (h : s.run.startSpacing ≠ none) : startSpacingEnds s = evalStart (unspaced s) :=
  if_pos (Option.isSome_iff_ne_none.mpr h)

theorem evalStart_other {s : State} (h : s.run.direction = .down ∨ s.run.state ≠ .running) : evalStart s = s :=
  if_neg fun hr => h.elim (fun hd => Direction.noConfusion (hd.symm.trans hr.1)) fun hs => hs hr.2

/-- A head that meets all conditions is started, whatever comes after it (R113). -/
theorem evalStart_starts {s : State} {h : TrayId} {rest : List TrayId} (hd : s.run.direction = .up) (hr : s.run.state = .running)
    (hq : s.run.startQueue = h :: rest) (hv : startVerdict s h = .start) :
    TraySideOnly s (evalStart s) ∧ (evalStart s).trays[h].enable = true ∧ h ∉ (evalStart s).run.startQueue := by
  have hstarted := startTray_started (startVerdict_start hv).2.2.2.2
  have htaken := (startLoop_taken (rest.length + 1) (startTray h s)).trans (testUpDone_taken _)
  rw [← startLoop_start hq hv, ← evalStart_head hd hr hq] at htaken
  have hout : h ∉ (startTray h s).run.startQueue := fun hm =>
    ((mem_without _ _ _).mp (hstarted.run.startQueue ▸ hm)).2 rfl
  refine ⟨hstarted.side.trans htaken.side, ?_, fun hm => hout (htaken.startQueue.subset hm)⟩
  rw [StartedOrSame.same (htaken.tray h) hout]
  exact hstarted.tray.enable

/-- The next head after one start: while the spacing runs, it stays where it is (R111, R113). -/
theorem evalStart_starts_one {s : State} {h : TrayId} {rest : List TrayId} (hlaw : TrayLaw s) (hd : s.run.direction = .up)
    (hr : s.run.state = .running) (hq : s.run.startQueue = h :: rest) (hv : startVerdict s h = .start) (hpg : s.pins.pg[h] = false)
    (hsp : s.params.startSpacing ≠ 0) :
    (evalStart s).trays = s.trays.set h (enterInrush s.trays[h]) ∧
      (evalStart s).kT = s.kT + s.trays[h].cfg.alloc + s.trays[h].cfg.surge ∧
      (evalStart s).run =
        { headStarted rest s.params.startSpacing s.run with
          blocked :=
            if rest = [] then none else if s.params.slots ≤ s.inrushCount + 1 then some .slots else some .spacing } := by
  obtain ⟨htrays, hrun, hkT, hcount⟩ := startTray_low hlaw hq hd (startVerdict_start hv).2.2.2.2 hpg hsp
  have hparams : (startTray h s).params = s.params := (startTray_started (startVerdict_start hv).2.2.2.2).side.params
  have hmember : h ∈ s.run.members := head_member hlaw hq
  rw [evalStart_head hd hr hq, startLoop_start hq hv]
  generalize startTray h s = y at *
  rw [startLoop_rests hrun, hparams, hcount]
  have hopen : ∀ b, upComplete (blockedOn b y) = false := fun b => by
    refine Bool.eq_false_iff.mpr fun hc => ?_
    obtain ⟨-, -, -, hall⟩ := upComplete_iff.mp hc
    refine (hall h (by show h ∈ y.run.members; rw [hrun]; exact hmember)).1 ?_
    show y.trays[h].state = .inrush
    rw [htrays]
    simp [enterInrush]
  rw [testUpDone_id (hopen _), ← hrun]
  exact ⟨htrays, hkT, rfl⟩

/-- Settles O50. -/
theorem startRule : Obligations.StartRule := by
  intro s h rest hfree hlaw hopen
  have hgo := fun (ht : s.run.startSpacing ≠ none) =>
    (awake_free startSpacingEnds hfree).trans (congrArg Host.Outcome.next (startSpacingEnds_runs ht))
  refine ⟨fun ht => (awake_free startSpacingEnds hfree).trans (congrArg _ (if_neg (by simp [ht]))),
    fun ht ho => (hgo ht).trans (congrArg _ (evalStart_other (by exact ho))), fun ht hd hr => ⟨fun hq => ?_, fun hq => ?_⟩⟩
  · exact (hgo ht).trans (congrArg _ ((evalStart_empty (by exact hd) (by exact hr) (by exact hq)).trans
      (testUpDone_id (by exact hopen.1))))
  have hblocked := fun {why : Blocked} (hv : startVerdict (unspaced s) h = .blocked why) =>
    (hgo ht).trans (congrArg Host.Outcome.next (evalStart_blocked (s := unspaced s) hd hr hq hv))
  refine ⟨fun hs => hblocked (startVerdict_slots h (by exact hs)), fun hs hg => hblocked (startVerdict_rankGate hs rfl hg),
    fun hs hg => ?_⟩
  have hverdict : startVerdict (unspaced s) h = admission (unspaced s) s.trays[h] := startVerdict_admission hs rfl hg
  refine ⟨fun hn => ?_, fun hn hc => hblocked (hverdict.trans (admission_budget hn hc)),
    fun hn hc h0 hm => hblocked (hverdict.trans (admission_readiness hn hc h0 hm)), fun hn hc hm => ?_⟩
  · exact (hgo ht).trans (congrArg _ (evalStart_notNormal (s := unspaced s) hd hr hq (hverdict.trans (admission_notNormal hn))))
  · have hstart := hverdict.trans (admission_eq_start hn hc hm)
    obtain ⟨hside, henable, hout⟩ := evalStart_starts (s := unspaced s) hd hr hq hstart
    exact ⟨_, hgo ht, (run_side s _).trans hside, henable, hout, fun hpg hsp =>
      evalStart_starts_one (s := unspaced s) hlaw hd hr hq hstart hpg hsp⟩

end Sys2Proof.Machine
end

section
/-! PROOFS. Trays that join an UP run, and the automatic power-up run (R6, R109, R110, R118, R181). -/
namespace Sys2Proof.Machine

/-! ### Trays that join -/

/-- The tray waiting in the start queue. -/
def enqueued (t : Tray) : Tray := { t with state := .queued }

/-- What trays that join the start queue change (R6, R109, R110). -/
structure JoinedAll (l : List TrayId) (s t : State) : Prop where
  side : TraySideOnly s t
  tray : ∀ j : TrayId, t.trays[j] = if j ∈ l then enqueued s.trays[j] else s.trays[j]
  queue : ∀ j, j ∈ t.run.startQueue ↔ j ∈ l ∨ j ∈ s.run.startQueue
  members : ∀ j, j ∈ t.run.members ↔ j ∈ l ∨ j ∈ s.run.members
  direction : t.run.direction = s.run.direction
  state : t.run.state = s.run.state
  scope : t.run.scope = s.run.scope
  notices : t.notices = s.notices
  order : s.run.startQueue.Pairwise (StartsFirst s) → t.run.startQueue.Pairwise (StartsFirst s)

theorem JoinedAll.cfg {l : List TrayId} {s t : State} (h : JoinedAll l s t) (j : TrayId) : t.trays[j].cfg = s.trays[j].cfg := by
  rw [h.tray j]
  split <;> rfl

theorem startsFirst_congr {s t : State} (h : ∀ j : TrayId, t.trays[j].cfg = s.trays[j].cfg) : StartsFirst t = StartsFirst s := by
  funext a b
  simp only [StartsFirst, h]

theorem joinQueue_joined (i : TrayId) (s : State) : JoinedAll [i] s (joinQueue i s) := by
  have htray : ∀ j : TrayId, (joinQueue i s).trays[j] = if j ∈ [i] then enqueued s.trays[j] else s.trays[j] := fun j => by
    rw [joinQueue_get]
    by_cases hj : i = j
    · subst hj
      simp [enqueued]
    · rw [if_neg hj, if_neg fun hm => hj (List.mem_singleton.mp hm).symm]
  have hcfg : ∀ j : TrayId, (joinQueue i s).trays[j].cfg = s.trays[j].cfg := fun j => by
    rw [htray]
    split <;> rfl
  have hqueue : (joinQueue i s).run.startQueue =
      insertOrdered (startsBefore (joinQueue i s).trays) i (without i s.run.startQueue) := rfl
  refine ⟨joinQueue_side i s, htray, fun j => ?_, fun j => ?_, rfl, rfl, rfl, rfl, fun ho => ?_⟩
  · rw [hqueue, mem_insertOrdered, mem_without, List.mem_singleton]
    tauto
  · have hmembers : (joinQueue i s).run.members =
        allTrays.filter fun j => j == i || (putTray i (enqueued s.trays[i]) s).run.members.contains j := rfl
    have hold : ∀ x : TrayId, x ≠ i → (x ∈ (putTray i (enqueued s.trays[i]) s).run.members ↔ x ∈ s.run.members) := fun x hx => by
      show x ∈ (syncRun i (enqueued s.trays[i]) s.run).members ↔ _
      unfold syncRun
      dsimp only
      split
      · rw [mem_without]
        exact and_iff_left hx
      · rfl
    rw [hmembers, List.mem_filter, Bool.or_eq_true, beq_iff_eq, List.contains_iff_mem, and_iff_right (mem_allTrays j),
      List.mem_singleton]
    by_cases hj : j = i
    · simp only [hj, true_or]
    · simp only [hj, false_or, hold j hj]
  · rw [hqueue, ← startsFirst_congr hcfg]
    refine pairwise_insertOrdered (startsBefore_strict _) (fun hm => ((mem_without _ _ _).mp hm).2 rfl) ?_
    rw [startsFirst_congr hcfg]
    exact ho.sublist (without_sublist _ _)

theorem JoinedAll.trans {l k : List TrayId} {s t u : State} (h : JoinedAll l s t) (g : JoinedAll k t u) : JoinedAll (l ++ k) s u where
  side := h.side.trans g.side
  tray := fun j => by
    rw [g.tray, h.tray]
    by_cases hk : j ∈ k <;> by_cases hl : j ∈ l <;> simp [hk, hl, enqueued]
  queue := fun j => by rw [g.queue, h.queue, List.mem_append]; tauto
  members := fun j => by rw [g.members, h.members, List.mem_append]; tauto
  direction := g.direction.trans h.direction
  state := g.state.trans h.state
  scope := g.scope.trans h.scope
  notices := g.notices.trans h.notices
  order := fun ho => by
    rw [← startsFirst_congr h.cfg]
    refine g.order ?_
    rw [startsFirst_congr h.cfg]
    exact h.order ho

theorem joinAll_joined (l : List TrayId) (s : State) : JoinedAll l s (joinAll l s) := by
  induction l generalizing s with
  | nil => exact ⟨.refl s, fun j => by simp [joinAll], by simp [joinAll], by simp [joinAll], rfl, rfl, rfl, rfl, id⟩
  | cons i l ih => exact (joinQueue_joined i s).trans (ih (joinQueue i s))

/-! ### Trays taken up by an UP run -/

/-- A tray of the list waits, or has been started; one outside the list and the start queue is as it was (R118). -/
theorem joined_evalStart {l : List TrayId} {s t : State} (h : JoinedAll l s t) :
    StartsTaken t (evalStart t) ∧ (∀ j ∈ l, Joined (evalStart t).trays[j]) ∧
      (∀ j, j ∉ l → j ∉ s.run.startQueue → (evalStart t).trays[j] = s.trays[j]) := by
  have htaken := evalStart_taken t
  refine ⟨htaken, fun j hj => ?_, fun j hj hq => ?_⟩
  · have hwaits : t.trays[j].state = .queued := by rw [h.tray j, if_pos hj]; rfl
    rcases htaken.tray j with he | ⟨-, -, he⟩
    · rw [he]
      exact Or.inl hwaits
    · exact Or.inr he.state
  · have hout : j ∉ t.run.startQueue := fun hm => ((h.queue j).mp hm).elim hj hq
    rw [StartedOrSame.same (htaken.tray j) hout, h.tray j, if_neg hj]

/-- The part as a new UP run finds it (R118, R181). -/
def newUp (scope : Scope) (s : State) : State :=
  { s with run := { s.run with direction := .up, state := .running, scope := scope, startQueue := [], stopQueue := [], members := [],
                               blocked := none }
           store := { s.store with autoPending := false } }

theorem createUp_eq (scope : Scope) (l : List TrayId) (s : State) : createUp scope l s = evalStart (joinAll l (newUp scope s)) := rfl

/-- The part without the auto-start mark. -/
def inHand (s : State) : State := { s with store := { s.store with autoPending := false } }

/-- A new UP run (R118). -/
theorem createUp_outcome (scope : Scope) (l : List TrayId) (s : State) :
    TraySideOnly (inHand s) (createUp scope l s) ∧ (createUp scope l s).run.direction = .up ∧
      (createUp scope l s).run.scope = scope ∧ (∀ j ∈ l, Joined (createUp scope l s).trays[j]) ∧
      (∀ j, j ∉ l → (createUp scope l s).trays[j] = s.trays[j]) ∧
      (createUp scope l s).run.startQueue.Pairwise (StartsFirst s) := by
  have hjoin := joinAll_joined l (newUp scope s)
  obtain ⟨htaken, hin, hout⟩ := joined_evalStart hjoin
  have hside : TraySideOnly (inHand s) (newUp scope s) := run_side (inHand s) _
  rw [createUp_eq]
  exact ⟨(hside.trans hjoin.side).trans htaken.side, htaken.direction.trans hjoin.direction, htaken.scope.trans hjoin.scope, hin,
    fun j hj => hout j hj List.not_mem_nil, (hjoin.order List.Pairwise.nil).sublist htaken.startQueue⟩

theorem mem_eligibleIn {s : State} {scope : Scope} {i : TrayId} :
    i ∈ eligibleIn s scope ↔ inScope s.trays scope i = true ∧ joins s.trays[i] = true := by
  rw [eligibleIn, List.mem_filter, Bool.and_eq_true, Tray.eligible_eq_joins, and_iff_right (mem_allTrays i)]

theorem channelsSampled_iff {s : State} :
    channelsSampled s = true ↔ ∀ c : ChannelId, s.channels[c].cfg.enabled = true → s.channels[c].cfg.nC ≤ s.channels[c].samples := by
  simp only [channelsSampled, List.all_eq_true, mem_allChannels, true_implies, Bool.or_eq_true, Bool.not_eq_true', decide_eq_true_eq,
    ← Bool.not_eq_true, ← imp_iff_not_or]

theorem autoStartReady_iff {s : State} :
    autoStartReady s = true ↔
      s.store.autoPending = true ∧ s.mbc.rosterReady = true ∧ channelsSampled s = true ∧ s.ilc.state = .normal ∧ s.run.state = .idle := by
  simp only [autoStartReady, Bool.and_eq_true, beq_iff_eq, and_assoc]

end Sys2Proof.Machine
end

section
/-! PROOFS. The stop rule and the automatic power-up run (R117, R181). -/
namespace Sys2Proof.Machine

/-! ### One stop -/

theorem stopTray_stoppable_eq {t : Tray} (h : t.stoppable = true) : stopTray t = enterStopping t := by
  have he := Tray.stoppable_enable h
  unfold stopTray
  cases hs : t.state <;> simp [Tray.enable, hs] at he ⊢

theorem enterStopping_countedLive (t : Tray) : (enterStopping t).countedLive = 0 := rfl

theorem enterStopping_not_candidate (t : Tray) : deficitCandidate (enterStopping t) = false := rfl

/-- A state in which the stop rule can go on: no deficit is open, and the trays of the queue can be stopped (R116). -/
structure CanStop (s : State) : Prop where
  deficit : DeficitLaw s
  nodup : s.run.stopQueue.Nodup
  stoppable : ∀ i ∈ s.run.stopQueue, s.trays[i].stoppable = true

/-- What stops out of the stop queue change, the trays of `l` one after the other (R117). -/
structure Stopped (l : List TrayId) (s t : State) : Prop where
  side : TraySideOnly s t
  tray : ∀ j : TrayId, t.trays[j] = if j ∈ l then enterStopping s.trays[j] else s.trays[j]
  direction : t.run.direction = s.run.direction
  state : t.run.state = s.run.state
  scope : t.run.scope = s.run.scope
  count : t.run.stoppedCount = s.run.stoppedCount + l.length
  startQueue : t.run.startQueue.Sublist s.run.startQueue
  members : t.run.members.Sublist s.run.members
  records : s.notices.records <+: t.notices.records
  kind : NoneOfKind .runDone s t

theorem Stopped.refl (s : State) : Stopped [] s s :=
  ⟨.refl s, fun _ => rfl, rfl, rfl, rfl, rfl, .refl _, .refl _, List.prefix_rfl, rfl⟩

theorem Stopped.trans {l k : List TrayId} {s t u : State} (h : Stopped l s t) (g : Stopped k t u) : Stopped (l ++ k) s u where
  side := h.side.trans g.side
  tray := fun j => by
    rw [g.tray, h.tray]
    by_cases hk : j ∈ k <;> by_cases hl : j ∈ l <;> simp [hk, hl, enterStopping]
  direction := g.direction.trans h.direction
  state := g.state.trans h.state
  scope := g.scope.trans h.scope
  count := by rw [g.count, h.count, List.length_append, Nat.add_assoc]
  startQueue := g.startQueue.trans h.startQueue
  members := g.members.trans h.members
  records := h.records.trans g.records
  kind := g.kind.trans h.kind

/-- One stop of the head: it enters STOPPING, and the rest of the queue can be stopped after it (R117). -/
theorem stopHead_stopped {s : State} {h : TrayId} {rest : List TrayId} (hs : CanStop s) (hq : s.run.stopQueue = h :: rest) :
    Stopped [h] s (stopHead h s) ∧ CanStop (stopHead h s) ∧ (stopHead h s).run.stopQueue = rest ∧
      (stopHead h s).run.stopSpacing = spacingStart s.params.stopSpacing := by
  have hstop : stopTray s.trays[h] = enterStopping s.trays[h] :=
    stopTray_stoppable_eq (hs.stoppable h (by rw [hq]; exact List.mem_cons_self))
  have hlaw : DeficitLaw (putTray h (enterStopping s.trays[h]) s) :=
    hs.deficit.putTray (Nat.zero_le _) fun hc => absurd hc Bool.false_ne_true
  have hshrinks := syncRun_shrinks h (enterStopping s.trays[h]) s
  have hnodup := hs.nodup
  rw [hq] at hnodup
  obtain ⟨hnot, hnodup⟩ := List.nodup_cons.mp hnodup
  have hrest : (putTray h (enterStopping s.trays[h]) s).run.stopQueue = rest := by
    show (syncRun h (enterStopping s.trays[h]) s.run).stopQueue = rest
    rw [syncRun, hq]
    show without h (h :: rest) = rest
    rw [without, List.filter_cons_of_neg (by simp)]
    exact without_eq_self hnot
  have hget : ∀ j : TrayId, (putTray h (enterStopping s.trays[h]) s).trays[j] = if j ∈ [h] then enterStopping s.trays[j] else s.trays[j] :=
    fun j => by
      rw [putTray_get]
      by_cases hj : h = j
      · subst hj
        simp
      · simp [hj, Ne.symm hj]
  have hside := putTray_side h (enterStopping s.trays[h]) s
  have hrecords : (putTray h (enterStopping s.trays[h]) s).notices = s.notices := rfl
  have hstate : (putTray h (enterStopping s.trays[h]) s).run.state = s.run.state := rfl
  have hcount : (putTray h (enterStopping s.trays[h]) s).run.stoppedCount = s.run.stoppedCount := rfl
  unfold stopHead
  dsimp only
  rw [hstop]
  generalize putTray h (enterStopping s.trays[h]) s = w at *
  have hcalm : Calm w (afterBudget s w) := afterBudget_calm hlaw
  generalize afterBudget s w = y at *
  have hrun := hcalm.run
  have hfinal : ∀ j : TrayId, y.trays[j] = if j ∈ [h] then enterStopping s.trays[j] else s.trays[j] := fun j => by
    rw [hcalm.trays]
    exact hget j
  refine ⟨⟨(hside.trans hcalm.side).trans (run_side y _), hfinal, ?_, ?_, ?_, ?_, ?_, ?_, ?_, ?_⟩, ⟨?_, ?_, fun i hi => ?_⟩, ?_, rfl⟩
  · exact (congrArg RunRecord.direction hrun).trans hshrinks.direction
  · exact (congrArg RunRecord.state hrun).trans hstate
  · exact (congrArg RunRecord.scope hrun).trans hshrinks.scope
  · exact congrArg (· + 1) ((congrArg RunRecord.stoppedCount hrun).trans hcount)
  · exact (congrArg RunRecord.startQueue hrun) ▸ hshrinks.startQueue
  · exact (congrArg RunRecord.members hrun) ▸ hshrinks.members
  · exact hrecords ▸ hcalm.records
  · have hkind := hcalm.kinds .runDone NoticeKind.noConfusion NoticeKind.noConfusion
    rw [NoneOfKind, hrecords] at hkind
    exact hkind
  · exact hlaw.of_trays (hcalm.side.trans (run_side y _)) hcalm.trays
  · show y.run.stopQueue.Nodup
    rw [hrun, hrest]
    exact hnodup
  · have hmem : i ∈ rest := by
      rw [← hrest, ← hrun]
      exact hi
    have hne : i ∉ [h] := fun e => hnot (List.mem_singleton.mp e ▸ hmem)
    show y.trays[i].stoppable = true
    rw [hfinal, if_neg hne]
    exact hs.stoppable i (by rw [hq]; exact List.mem_cons_of_mem h hmem)
  · exact (congrArg RunRecord.stopQueue hrun).trans hrest

/-! ### The loop -/

section
variable {s : State} {h : TrayId} {rest : List TrayId} (hq : s.run.stopQueue = h :: rest) (ht : s.run.stopSpacing = none)
include hq ht

theorem stopLoop_head (n : Nat) : stopLoop (n + 1) s = stopLoop n (stopHead h s) := by
  rw [stopLoop, hq]
  simp only [ht, Option.isSome_none, Bool.false_eq_true, if_false]

end

theorem stopLoop_rests {s : State} (h : s.run.stopQueue = [] ∨ s.run.stopSpacing ≠ none) (n : Nat) : stopLoop n s = s := by
  cases n with
  | zero => rfl
  | succ n =>
    unfold stopLoop
    split
    · rfl
    · next hq => exact if_pos (Option.isSome_iff_ne_none.mpr (h.resolve_left (by rw [hq]; exact List.cons_ne_nil _ _)))

/-- With a spacing to wait for, one tray is stopped (R117). -/
theorem stopLoop_one {s : State} {h : TrayId} {rest : List TrayId} (hs : CanStop s) (hq : s.run.stopQueue = h :: rest)
    (ht : s.run.stopSpacing = none) (hsp : s.params.stopSpacing ≠ 0) (n : Nat) :
    Stopped [h] s (stopLoop (n + 1) s) ∧ (stopLoop (n + 1) s).run.stopQueue = rest ∧
      (stopLoop (n + 1) s).run.stopSpacing = some s.params.stopSpacing := by
  obtain ⟨hstopped, -, hrest, hspacing⟩ := stopHead_stopped hs hq
  rw [spacingStart, if_neg hsp] at hspacing
  rw [stopLoop_head hq ht, stopLoop_rests (Or.inr (by rw [hspacing]; exact Option.some_ne_none _))]
  exact ⟨hstopped, hrest, hspacing⟩

/-- Without a spacing the whole queue is stopped at once (R117). -/
theorem stopLoop_all {s : State} (hs : CanStop s) (ht : s.run.stopSpacing = none) (hsp : s.params.stopSpacing = 0) {n : Nat}
    (hn : s.run.stopQueue.length ≤ n) :
    Stopped s.run.stopQueue s (stopLoop n s) ∧ (stopLoop n s).run.stopQueue = [] := by
  generalize hl : s.run.stopQueue = l at *
  induction l generalizing s n with
  | nil =>
    rw [stopLoop_rests (Or.inl hl)]
    exact ⟨.refl s, hl⟩
  | cons h rest ih =>
    obtain ⟨m, rfl⟩ : ∃ m, n = m + 1 := Nat.exists_eq_add_one.mpr (Nat.lt_of_lt_of_le (Nat.zero_lt_succ _) hn)
    obtain ⟨hstopped, hcan, hrest, hspacing⟩ := stopHead_stopped hs hl
    rw [hsp, spacingStart, if_pos rfl] at hspacing
    rw [stopLoop_head hl ht]
    have hagain : (stopHead h s).params.stopSpacing = 0 := by rw [hstopped.side.params, hsp]
    obtain ⟨hall, hempty⟩ := ih hcan hspacing hagain hrest (Nat.le_of_succ_le_succ hn)
    exact ⟨hstopped.trans hall, hempty⟩

/-! ### An evaluation of the stop rule -/

section
variable {s t : State} {l : List TrayId} (hd : s.run.direction = .down) (hr : s.run.state = .running) (h : Stopped l s t)
include hd hr h

/-- The run is done after its last tray (R117). -/
theorem testDownDone_ends (hq : t.run.stopQueue = []) :
    TraySideOnly s (testDownDone t) ∧ (testDownDone t).trays = t.trays ∧
      (testDownDone t).run = { t.run with state := .idle, stoppedCount := 0 } ∧
      NoticeIn
        { kind := .runDone, subject := some 1, value := some (s.run.stoppedCount + l.length), time := s.time } (testDownDone t) := by
  have hdone : downComplete t = true := by simp [downComplete, h.direction.trans hd, h.state.trans hr, hq]
  have hnext : NoticeNext { kind := .runDone, subject := some 1, value := some t.run.stoppedCount, time := t.time } t
      (post .runDone (some 1) (some t.run.stoppedCount) t) := noticeNext_post (by rfl) (by rfl)
  rw [h.count, h.side.time] at hnext
  have hside := testDownDone_side t
  rw [testDownDone_complete hdone, h.count] at hside ⊢
  exact ⟨h.side.trans hside, post_trays _ _ _ _, rfl, NoticeIn.of_next hnext (post_records _ _ _ _)⟩

end

theorem canStop_of_laws {s : State} (h : TrayLaw s) (hd : DeficitLaw s) : CanStop s where
  deficit := hd
  nodup := h.2.2.1
  stoppable := fun i hi => (h.1 i).2.2.2.2.1 hi

theorem evalStop_queue {s : State} {h : TrayId} {rest : List TrayId} (hd : s.run.direction = .down) (hr : s.run.state = .running)
    (hq : s.run.stopQueue = h :: rest) : evalStop s = testDownDone (stopLoop (rest.length + 1 + 1) s) := by
  unfold evalStop
  rw [if_pos ⟨hd, hr⟩, hq]
  rfl

theorem stopped_table {s t : State} {h : TrayId} (h' : Stopped [h] s t) : t.trays = s.trays.set h (enterStopping s.trays[h]) := by
  refine Vector.ext fun j hj => ?_
  have hget := h'.tray ⟨j, hj⟩
  rw [Vector.getElem_set]
  by_cases he : h = ⟨j, hj⟩
  · subst he
    simpa using hget
  · rw [if_neg fun e => he (Fin.ext e)]
    rw [if_neg fun e => he (List.mem_singleton.mp e).symm] at hget
    exact hget

section
variable {s : State} {h : TrayId} {rest : List TrayId} (hcan : CanStop s) (hd : s.run.direction = .down)
  (hr : s.run.state = .running) (hq : s.run.stopQueue = h :: rest) (ht : s.run.stopSpacing = none)
include hcan hd hr hq ht

/-- The stop rule with a spacing: one tray stops (R117). -/
theorem evalStop_one (hsp : s.params.stopSpacing ≠ 0) :
    TraySideOnly s (evalStop s) ∧ (evalStop s).trays = s.trays.set h (enterStopping s.trays[h]) ∧
      (evalStop s).run.stopQueue = rest ∧ (evalStop s).run.stopSpacing = some s.params.stopSpacing ∧
      (rest ≠ [] → (evalStop s).run.state = .running ∧ (evalStop s).run.stoppedCount = s.run.stoppedCount + 1 ∧
        NoneOfKind .runDone s (evalStop s)) ∧
      (rest = [] → (evalStop s).run.state = .idle ∧ (evalStop s).run.stoppedCount = 0 ∧
        NoticeIn
          { kind := .runDone, subject := some 1, value := some (s.run.stoppedCount + 1), time := s.time } (evalStop s)) := by
  obtain ⟨hstopped, hrest, hspacing⟩ := stopLoop_one hcan hq ht hsp (rest.length + 1)
  rw [evalStop_queue hd hr hq]
  have htable := stopped_table hstopped
  generalize stopLoop _ s = t at *
  by_cases hempty : rest = []
  · obtain ⟨hside, htrays, hrun, hnotice⟩ := testDownDone_ends hd hr hstopped (hrest.trans hempty)
    rw [hrun]
    exact ⟨hside, htrays.trans htable, hrest, hspacing, fun hne => absurd hempty hne, fun _ => ⟨rfl, rfl, hnotice⟩⟩
  · rw [testDownDone_id (downComplete_waiting (hrest ▸ hempty))]
    exact ⟨hstopped.side, htable, hrest, hspacing, fun _ => ⟨hstopped.state.trans hr, hstopped.count, hstopped.kind⟩,
      fun he => absurd he hempty⟩

/-- The stop rule without a spacing: the whole queue stops (R117). -/
theorem evalStop_all (hsp : s.params.stopSpacing = 0) :
    TraySideOnly s (evalStop s) ∧ (evalStop s).run.state = .idle ∧ (evalStop s).run.stopQueue = [] ∧
      NoticeIn
        { kind := .runDone, subject := some 1, value := some (s.run.stoppedCount + s.run.stopQueue.length), time := s.time }
        (evalStop s) ∧
      ∀ i : TrayId, (evalStop s).trays[i] = if i ∈ s.run.stopQueue then enterStopping s.trays[i] else s.trays[i] := by
  have hlen : s.run.stopQueue.length ≤ rest.length + 1 + 1 := by
    rw [hq]
    exact Nat.le_succ _
  obtain ⟨hstopped, hempty⟩ := stopLoop_all hcan ht hsp hlen
  rw [evalStop_queue hd hr hq]
  generalize stopLoop _ s = t at *
  obtain ⟨hside, htrays, hrun, hnotice⟩ := testDownDone_ends hd hr hstopped hempty
  rw [hrun, htrays]
  exact ⟨hside, rfl, hempty, hnotice, hstopped.tray⟩

end

/-! ### The two obligations' commands -/

/-- The part with the stop spacing timer run out. -/
def stopUnspaced (s : State) : State := { s with run := { s.run with stopSpacing := none } }

theorem stopSpacingEnds_runs {s : State} (h : s.run.stopSpacing ≠ none) : stopSpacingEnds s = evalStop (stopUnspaced s) :=
  if_pos (Option.isSome_iff_ne_none.mpr h)

theorem evalStop_other {s : State} (h : s.run.direction = .up ∨ s.run.state ≠ .running) : evalStop s = s :=
  if_neg fun hr => h.elim (fun hd => Direction.noConfusion (hd.symm.trans hr.1)) fun hs => hs hr.2

theorem autoStartTest_ready {s : State} (h : autoStartReady s = true) : autoStartTest s = createUp .all (eligibleIn s .all) s := if_pos h

theorem mem_eligibleAll {s : State} {i : TrayId} : i ∈ eligibleIn s .all ↔ joins s.trays[i] = true :=
  mem_eligibleIn.trans (and_iff_right rfl)

/-- Settles O51. -/
theorem stopRuleAndAutoStart : Obligations.StopRuleAndAutoStart := by
  intro s h rest hfree hlaw hdef
  have hcan : CanStop (stopUnspaced s) := ⟨hdef, (canStop_of_laws hlaw hdef).nodup, (canStop_of_laws hlaw hdef).stoppable⟩
  have hgo := fun (ht : s.run.stopSpacing ≠ none) =>
    (awake_free stopSpacingEnds hfree).trans (congrArg Host.Outcome.next (stopSpacingEnds_runs ht))
  refine ⟨fun ht => (awake_free stopSpacingEnds hfree).trans (congrArg _ (if_neg (by simp [ht]))),
    fun ht ho => (hgo ht).trans (congrArg _ (evalStop_other (by exact ho))), fun ht hd hr hq hsp => ?_, fun ht hd hr hq hsp => ?_,
    fun hno => ?_, fun hp hm hn hi hc => ?_⟩
  · obtain ⟨hside, hrest⟩ := evalStop_one hcan hd hr hq rfl hsp
    exact ⟨_, hgo ht, (run_side s _).trans hside, hrest⟩
  · obtain ⟨hside, hrest⟩ := evalStop_all hcan hd hr hq rfl hsp
    exact ⟨_, hgo ht, (run_side s _).trans hside, hrest⟩
  · refine (awake_free autoStartTest hfree).trans (congrArg _ (if_neg fun hready => ?_))
    obtain ⟨hp, hm, hc, hn, hi⟩ := autoStartReady_iff.mp hready
    rcases hno with h | h | h | h | ⟨c, he, hlt⟩
    · exact Bool.false_ne_true (h.symm.trans hp)
    · exact Bool.false_ne_true (h.symm.trans hm)
    · exact h hn
    · exact h hi
    · exact Nat.not_le.mpr hlt (channelsSampled_iff.mp hc c he)
  · obtain ⟨hside, hdir, hscope, hin, hout, -⟩ := createUp_outcome .all (eligibleIn s .all) s
    have hready := autoStartReady_iff.mpr ⟨hp, hm, channelsSampled_iff.mpr hc, hn, hi⟩
    exact ⟨_, (awake_free autoStartTest hfree).trans (congrArg _ (autoStartTest_ready hready)), hside, hdir, hscope,
      fun i hj => hin i (mem_eligibleAll.mpr hj),
      fun i hj => hout i fun hm => Bool.false_ne_true (hj.symm.trans (mem_eligibleAll.mp hm))⟩

end Sys2Proof.Machine
end

section
/-! PROOFS. The host's runs: RUN-UP and RUN-DOWN (R116, R118, R119, R182). -/
namespace Sys2Proof.Machine

/-! ### The scope bytes -/

/-- A length that does not fit the kind of scope (R182). -/
theorem scopeFault_badLength {scope : List Byte}
    (h : scope = [] ∨ (scope.head? = some 0 ∧ scope.length ≠ 1) ∨ (scope.head? = some 1 ∧ scope.length ≠ 3) ∨
      (scope.head? = some 2 ∧
        (scope.length < 2 ∨ 24 < (scope.getD 1 0).toNat ∨ scope.length ≠ 2 + (scope.getD 1 0).toNat))) :
    scopeFault scope = some .badLength := by
  cases scope with
  | nil => rfl
  | cons kind rest =>
    simp only [List.head?_cons, Option.some.injEq, List.length_cons, reduceCtorEq, false_or] at h
    rcases h with ⟨rfl, hl⟩ | ⟨rfl, hl⟩ | ⟨rfl, hl⟩
    · have hne : rest.length ≠ 0 := fun e => hl (by rw [e])
      simp [scopeFault, hne]
    · have hne : rest.length ≠ 2 := fun e => hl (by rw [e])
      simp [scopeFault, hne]
    · cases rest with
      | nil => simp [scopeFault]
      | cons n trays =>
        have hbad : 24 < n.toNat ∨ trays.length + 1 ≠ 1 + n.toNat := by
          simp only [List.length_cons, List.getD_cons_succ, List.getD_cons_zero] at hl
          omega
        simp [scopeFault, hbad]

/-- An undefined kind, or a rank or a tray that does not exist (R182). -/
theorem scopeFault_badIndex {scope : List Byte}
    (h : 2 < (scope.headD 0).toNat ∨ (scope.head? = some 1 ∧ scope.length = 3 ∧ ∃ rank ∈ scope.tail, 15 < rank.toNat) ∨
      (scope.head? = some 2 ∧ (scope.getD 1 0).toNat ≤ 24 ∧ scope.length = 2 + (scope.getD 1 0).toNat ∧
        ∃ tray ∈ scope.drop 2, 23 < tray.toNat)) :
    scopeFault scope = some .badIndex := by
  cases scope with
  | nil => simp at h
  | cons kind rest =>
    simp only [List.headD_cons, List.head?_cons, Option.some.injEq, List.length_cons, List.tail_cons] at h
    rcases h with h | ⟨rfl, hl, hr⟩ | ⟨rfl, hn, hl, ht⟩
    · exact if_pos h
    · have hl' : rest.length = 2 := Nat.succ.inj hl
      simp [scopeFault, hl', hr]
    · cases rest with
      | nil => simp at ht
      | cons n trays =>
        simp only [List.getD_cons_succ, List.getD_cons_zero, List.length_cons, List.drop_succ_cons, List.drop_zero] at hn hl ht
        have hgood : ¬ (24 < n.toNat ∨ trays.length + 1 ≠ 1 + n.toNat) := by omega
        simp [scopeFault, hgood, ht]

theorem scopeFault_ranks {scope : List Byte} (h : scopeFault scope = none) (hk : scope.head? = some 1) :
    ∃ lo hi, scope = [1, lo, hi] := by
  cases scope with
  | nil => cases h
  | cons kind rest =>
    obtain rfl : kind = 1 := Option.some.inj hk
    have hl : rest.length = 2 := by
      by_contra hne
      simp [scopeFault, hne] at h
    obtain ⟨lo, hi, rfl⟩ := List.length_eq_two.mp hl
    exact ⟨lo, hi, rfl⟩

theorem answerRunUp_fault {scope : List Byte} {code : RefusalCode} (h : scopeFault scope = some code) (s : State) :
    answerRunUp scope s = refuse code s := by
  rw [answerRunUp, parseScope_eq, h]

theorem answerRunUp_scope {scope : List Byte} (h : scopeFault scope = none) (s : State) :
    answerRunUp scope s = runUpScope (scopeOf scope) s := by
  rw [answerRunUp, parseScope_eq, h]

theorem answerRunDown_fault {scope : List Byte} {code : RefusalCode} (h : scopeFault scope = some code) (s : State) :
    answerRunDown scope s = refuse code s := by
  rw [answerRunDown, parseScope_eq, h]

theorem answerRunDown_scope {scope : List Byte} (h : scopeFault scope = none) (s : State) :
    answerRunDown scope s = runDownScope (scopeOf scope) s := by
  rw [answerRunDown, parseScope_eq, h]

/-- The trays that a run of the scope takes, in the words of the statements (R118). -/
theorem eligibleIn_scopeOf (scope : List Byte) (s : State) :
    eligibleIn s (scopeOf scope) = allTrays.filter fun i => bytesSelect scope s i && joins s.trays[i] := by
  simp only [eligibleIn, inScope_scopeOf, Tray.eligible_eq_joins]

/-! ### RUN-UP -/

section
variable {scope : Scope} {s : State}

theorem runUpScope_held (hn : s.ilc.state ≠ .normal) : runUpScope scope s = refuse .held s := if_pos hn

variable (hn : s.ilc.state = .normal)
include hn

theorem runUpScope_wrongState (h : (s.run.state ≠ .idle ∧ s.run.direction = .down) ∨ s.run.state = .suspended) :
    runUpScope scope s = refuse .wrongState s := by
  unfold runUpScope
  dsimp only
  rw [if_neg (not_not_intro hn)]
  split
  · rfl
  · next hd => rw [if_pos (h.resolve_left hd)]

theorem runUpScope_idle (hi : s.run.state = .idle) :
    runUpScope scope s = answerData (le8 (eligibleIn s scope).length) (createUp scope (eligibleIn s scope) s) := by
  unfold runUpScope
  dsimp only
  rw [if_neg (not_not_intro hn), if_neg fun h => h.1 hi, if_neg (by rw [hi]; exact RunState.noConfusion), if_pos hi]

theorem runUpScope_running (hr : s.run.state = .running) (hd : s.run.direction = .up) :
    runUpScope scope s = answerData (le8 (eligibleIn s scope).length) (evalStart (joinAll (eligibleIn s scope) s)) := by
  unfold runUpScope
  dsimp only
  rw [if_neg (not_not_intro hn), if_neg fun h => Direction.noConfusion (hd.symm.trans h.2), if_neg (by rw [hr]; exact RunState.noConfusion),
    if_neg (by rw [hr]; exact RunState.noConfusion)]

end

/-- A run without a tray to start is done at once (R114, R118). -/
theorem createUp_nil (scope : Scope) (s : State) :
    createUp scope [] s =
      { post .runDone (some 0) (some 0) s with
        run :=
          { s.run with
            direction := .up, state := .idle, scope := scope, startQueue := [], stopQueue := [], members := [], blocked := none }
        store := { s.store with autoPending := false } } := by
  have hdone : upComplete (blockedOn none (newUp scope s)) = true := rfl
  have hvalue : membersIn (blockedOn none (newUp scope s)) .on + 256 * membersIn (blockedOn none (newUp scope s)) .failed = 0 := rfl
  have hstart : evalStart (newUp scope s) = testUpDone (blockedOn none (newUp scope s)) := evalStart_empty rfl rfl rfl
  have hnote : post .runDone (some 0) (some 0) (blockedOn none (newUp scope s)) =
      { blockedOn none (newUp scope s) with notices := (post .runDone (some 0) (some 0) s).notices } :=
    post_frame (by rfl) (by rfl)
  rw [createUp_eq]
  refine hstart.trans ?_
  rw [testUpDone_complete hdone, hvalue, hnote, post_eq _ _ _ s]
  rfl

theorem joined_running {l : List TrayId} {s : State} :
    TraySideOnly s (evalStart (joinAll l s)) ∧ (evalStart (joinAll l s)).run.direction = s.run.direction ∧
      (evalStart (joinAll l s)).run.scope = s.run.scope ∧ (∀ j ∈ l, Joined (evalStart (joinAll l s)).trays[j]) ∧
      (∀ j, j ∉ l → j ∉ s.run.startQueue → (evalStart (joinAll l s)).trays[j] = s.trays[j]) ∧
      (s.run.startQueue.Pairwise (StartsFirst s) → (evalStart (joinAll l s)).run.startQueue.Pairwise (StartsFirst s)) := by
  have hjoin := joinAll_joined l s
  obtain ⟨htaken, hin, hout⟩ := joined_evalStart hjoin
  exact ⟨hjoin.side.trans htaken.side, htaken.direction.trans hjoin.direction, htaken.scope.trans hjoin.scope, hin, hout,
    fun ho => (hjoin.order ho).sublist htaken.startQueue⟩

/-- Settles O47. -/
theorem runUp : Obligations.RunUp := by
  intro s tag scope i l hready hlaw hdef hl
  have hgo := fun {t : State} {a : Answer} (h : answerRunUp scope (asked ⟨0x20, tag, .runUp scope⟩ s) = (a, t)) =>
    request_of_answer (kind := 0x20) (tag := tag) (body := .runUp scope) hready h
  have hscope := fun {t : State} {a : Answer} (hf : scopeFault scope = none)
    (h : runUpScope (scopeOf scope) (asked ⟨0x20, tag, .runUp scope⟩ s) = (a, t)) => hgo ((answerRunUp_scope hf _).trans h)
  have hfault := fun {code : RefusalCode} (h : scopeFault scope = some code) => hgo (answerRunUp_fault h _)
  have hlist : eligibleIn (asked ⟨0x20, tag, .runUp scope⟩ s) (scopeOf scope) = l := by
    rw [hl]
    exact eligibleIn_scopeOf scope s
  refine ⟨fun h => hfault (scopeFault_badLength h), fun h => hfault (scopeFault_badIndex h), fun ⟨hf, hk⟩ => ?_, fun h => ?_,
    fun hf hn => hscope hf (runUpScope_held hn), fun hf hn h => hscope hf (runUpScope_wrongState hn h),
    fun hf hn hi hnil => ?_, fun hf hn hrun => ?_⟩
  · obtain ⟨lo, hi, rfl⟩ := scopeFault_ranks hf hk
    rw [hl, List.mem_filter, and_iff_right (mem_allTrays i), Bool.and_eq_true, ← Tray.eligible_eq_joins, Tray.eligible_iff]
    simp [-Fin.getElem_fin, bytesSelect, and_assoc]
  · obtain ⟨code, hcode⟩ := Option.isSome_iff_exists.mp h
    rw [hcode]
    exact hfault hcode
  · have hanswer := runUpScope_idle (scope := scopeOf scope) (s := asked ⟨0x20, tag, .runUp scope⟩ s) hn hi
    rw [hlist, hnil, createUp_nil, post_asked] at hanswer
    exact hscope hf hanswer
  · rcases hrun with hi | ⟨hr, hd⟩
    · have hanswer := runUpScope_idle (scope := scopeOf scope) (s := asked ⟨0x20, tag, .runUp scope⟩ s) hn hi
      rw [hlist] at hanswer
      obtain ⟨hside, hdir, hsc, hin, hout, horder⟩ := createUp_outcome (scopeOf scope) l (asked ⟨0x20, tag, .runUp scope⟩ s)
      simp only [hi, if_true]
      exact ⟨_, hscope hf hanswer, replying_side hside _ _, hdir, hsc, hin i, fun hm _ => hout i hm, fun _ => horder⟩
    · have hanswer := runUpScope_running (scope := scopeOf scope) (s := asked ⟨0x20, tag, .runUp scope⟩ s) hn hr hd
      rw [hlist] at hanswer
      obtain ⟨hside, hdir, hsc, hin, hout, horder⟩ := joined_running (l := l) (s := asked ⟨0x20, tag, .runUp scope⟩ s)
      have hnot : s.run.state ≠ .idle := by rw [hr]; exact RunState.noConfusion
      simp only [hnot, if_false]
      exact ⟨_, hscope hf hanswer, replying_side hside _ _, hdir.trans hd, hsc, hin i,
        fun hm hq => hout i hm fun hw => hq ((hlaw.1 i).2.2.1.mp hw), fun ho => horder ho.1⟩

end Sys2Proof.Machine
end

section
/-! PROOFS. RUN-DOWN (R116, R117, R119). -/
namespace Sys2Proof.Machine

/-! ### Ordered lists -/

theorem insertOrdered_perm {α : Type} (before : α → α → Bool) (x : α) (l : List α) : (insertOrdered before x l).Perm (x :: l) := by
  induction l with
  | nil => exact .refl _
  | cons y l ih =>
    unfold insertOrdered
    split
    · exact .refl _
    · exact (ih.cons y).trans (.swap x y l)

theorem ordered_perm {α : Type} (before : α → α → Bool) (l : List α) : (ordered before l).Perm l := by
  induction l with
  | nil => exact .refl _
  | cons x l ih => exact (insertOrdered_perm before x _).trans (ih.cons x)

/-! ### Some trays of the stop queue are stopped -/

/-- However far the stop rule goes, it stops trays of the queue, and no others (R117). -/
theorem stopLoop_some (n : Nat) {s : State} (hs : CanStop s) :
    ∃ l, (∀ j ∈ l, j ∈ s.run.stopQueue) ∧ Stopped l s (stopLoop n s) := by
  induction n generalizing s with
  | zero => exact ⟨[], fun _ h => absurd h List.not_mem_nil, .refl s⟩
  | succ n ih =>
    by_cases hrest : s.run.stopQueue = [] ∨ s.run.stopSpacing ≠ none
    · rw [stopLoop_rests hrest]
      exact ⟨[], fun _ h => absurd h List.not_mem_nil, .refl s⟩
    · obtain ⟨hq, ht⟩ := not_or.mp hrest
      obtain ⟨h, rest, hq⟩ := List.exists_cons_of_ne_nil hq
      obtain ⟨hstopped, hcan, hqueue, -⟩ := stopHead_stopped hs hq
      obtain ⟨l, hl, hmore⟩ := ih hcan
      rw [stopLoop_head hq (Decidable.not_not.mp ht)]
      refine ⟨[h] ++ l, fun j hj => ?_, hstopped.trans hmore⟩
      rw [hq]
      rcases List.mem_append.mp hj with hj | hj
      · exact List.mem_singleton.mp hj ▸ List.mem_cons_self
      · exact List.mem_cons_of_mem h (hqueue ▸ hl j hj)

/-- The test for the end of a DOWN run, in terms of what it leaves (R117). -/
theorem testDownDone_keeps (s : State) :
    (testDownDone s).trays = s.trays ∧ (testDownDone s).run.direction = s.run.direction ∧
      (testDownDone s).run.scope = s.run.scope ∧ (testDownDone s).run.startQueue = s.run.startQueue ∧
      (testDownDone s).run.members = s.run.members ∧
      ((testDownDone s).notices.records.filter fun n => n.kind == .runDone && n.subject == some 0) =
        s.notices.records.filter fun n => n.kind == .runDone && n.subject == some 0 := by
  by_cases h : downComplete s = true
  · rw [testDownDone_complete h]
    refine ⟨post_trays _ _ _ _, rfl, rfl, rfl, rfl, ?_⟩
    dsimp only
    unfold post
    split
    · rw [List.filter_append]
      exact List.append_nil _
    · rfl
  · rw [testDownDone_id (Bool.eq_false_iff.mpr h)]
    exact ⟨rfl, rfl, rfl, rfl, rfl, rfl⟩

theorem noneOfKind_subject {s t : State} {k : NoticeKind} (h : NoneOfKind k s t) (x : Option Nat) :
    (t.notices.records.filter fun n => n.kind == k && n.subject == x) =
      s.notices.records.filter fun n => n.kind == k && n.subject == x := by
  have hsplit : ∀ l : List Notice, (l.filter fun n => n.kind == k && n.subject == x) =
      (l.filter fun n => n.kind == k).filter fun n => n.subject == x := fun l => by
    rw [List.filter_filter]
    exact List.filter_congr fun n _ => Bool.and_comm _ _
  rw [hsplit, hsplit, h]

/-- An evaluation of the stop rule: what it stops, and what it leaves (R117). -/
structure StopsTaken (l : List TrayId) (s t : State) : Prop where
  side : TraySideOnly s t
  tray : ∀ j : TrayId, t.trays[j] = if j ∈ l then enterStopping s.trays[j] else s.trays[j]
  direction : t.run.direction = s.run.direction
  scope : t.run.scope = s.run.scope
  startQueue : t.run.startQueue.Sublist s.run.startQueue
  members : t.run.members.Sublist s.run.members
  records : (t.notices.records.filter fun n => n.kind == .runDone && n.subject == some 0) =
    s.notices.records.filter fun n => n.kind == .runDone && n.subject == some 0

theorem Stopped.done {l : List TrayId} {s t : State} (h : Stopped l s t) : StopsTaken l s (testDownDone t) := by
  obtain ⟨htrays, hdir, hscope, hqueue, hmembers, hrecords⟩ := testDownDone_keeps t
  exact ⟨h.side.trans (testDownDone_side t), fun j => by rw [htrays]; exact h.tray j, hdir.trans h.direction,
    hscope.trans h.scope, hqueue ▸ h.startQueue, hmembers ▸ h.members, hrecords.trans (noneOfKind_subject h.kind _)⟩

theorem evalStop_some {s : State} (hs : CanStop s) : ∃ l, (∀ j ∈ l, j ∈ s.run.stopQueue) ∧ StopsTaken l s (evalStop s) := by
  by_cases hr : s.run.direction = .down ∧ s.run.state = .running
  · obtain ⟨l, hl, hstopped⟩ := stopLoop_some (s.run.stopQueue.length + 1) hs
    have hdone := hstopped.done
    rw [evalStop, if_pos hr]
    exact ⟨l, hl, hdone⟩
  · rw [evalStop, if_neg hr]
    exact ⟨[], fun _ h => absurd h List.not_mem_nil, .refl s, fun _ => rfl, rfl, rfl, .refl _, .refl _, rfl⟩

/-- Without a spacing to wait for, the head of the queue is stopped at once (R117). -/
theorem evalStop_stops_head {s : State} {h : TrayId} {rest : List TrayId} (hs : CanStop s) (hd : s.run.direction = .down)
    (hr : s.run.state = .running) (hq : s.run.stopQueue = h :: rest) (ht : s.run.stopSpacing = none) :
    (evalStop s).trays[h] = enterStopping s.trays[h] := by
  obtain ⟨hstopped, hcan, -, -⟩ := stopHead_stopped hs hq
  obtain ⟨l, -, hmore⟩ := stopLoop_some (rest.length + 1) hcan
  rw [evalStop_queue hd hr hq, stopLoop_head hq ht, (hstopped.trans hmore).done.tray h, if_pos (by simp)]

/-! ### The trays that a DOWN run takes -/

theorem stoppableIn_scopeOf (scope : List Byte) (s : State) :
    stoppableIn s (scopeOf scope) =
      ordered (stopsBefore s.trays) (allTrays.filter fun i => bytesSelect scope s i && stops s.trays[i]) := by
  simp only [stoppableIn, inScope_scopeOf, Tray.stoppable_eq_stops]

theorem mem_stoppableIn {s : State} {scope : Scope} {i : TrayId} :
    i ∈ stoppableIn s scope ↔ inScope s.trays scope i = true ∧ s.trays[i].stoppable = true := by
  rw [stoppableIn, mem_ordered, List.mem_filter, Bool.and_eq_true, and_iff_right (mem_allTrays i)]

/-! ### A DOWN run takes in more trays -/

/-- The part with the merged stop queue (R119). -/
def merged (scope : Scope) (s : State) : State :=
  { s with run := { s.run with
      stopQueue := (mergeStops s scope).foldr (insertOrdered (stopsBefore s.trays)) s.run.stopQueue } }

theorem mem_mergeStops {s : State} {scope : Scope} {i : TrayId} :
    i ∈ mergeStops s scope ↔ i ∈ stoppableIn s scope ∧ i ∉ s.run.stopQueue := by
  rw [mergeStops, List.mem_filter, Bool.not_eq_true', ← Bool.not_eq_true, List.contains_iff_mem]

theorem foldr_insertOrdered_perm {α : Type} (before : α → α → Bool) (l q : List α) :
    (l.foldr (insertOrdered before) q).Perm (l ++ q) := by
  induction l with
  | nil => exact .refl _
  | cons x l ih => exact (insertOrdered_perm before x _).trans (ih.cons x)

theorem merged_queue (scope : Scope) (s : State) : (merged scope s).run.stopQueue.Perm (mergeStops s scope ++ s.run.stopQueue) :=
  foldr_insertOrdered_perm _ _ _

theorem mem_merged {scope : Scope} {s : State} {i : TrayId} :
    i ∈ (merged scope s).run.stopQueue ↔ i ∈ stoppableIn s scope ∨ i ∈ s.run.stopQueue := by
  rw [(merged_queue scope s).mem_iff, List.mem_append, mem_mergeStops]
  tauto

theorem merged_canStop {s : State} (h : CanStop s) (scope : Scope) : CanStop (merged scope s) where
  deficit := h.deficit
  nodup := by
    rw [(merged_queue scope s).nodup_iff]
    exact List.Nodup.append (mergeStops_nodup s scope) h.nodup fun i hi hq => (mem_mergeStops.mp hi).2 hq
  stoppable := fun i hi => by
    rcases mem_merged.mp hi with hi | hi
    · exact (mem_stoppableIn.mp hi).2
    · exact h.stoppable i hi

theorem merged_order {s : State} (h : s.run.stopQueue.Pairwise (StopsFirst s)) (scope : Scope) :
    (merged scope s).run.stopQueue.Pairwise (StopsFirst s) :=
  (pairwise_merge (stopsBefore_strict s) (mergeStops_nodup s scope) (fun _ hi => (mem_mergeStops.mp hi).2) h).1

theorem mergeStops_length {s : State} {scope : Scope} {l : List TrayId} (h : (stoppableIn s scope).Perm l) :
    (mergeStops s scope).length = (l.filter fun j => j ∉ s.run.stopQueue).length := by
  have hsame : ∀ k : List TrayId, (k.filter fun j => !s.run.stopQueue.contains j) = k.filter fun j => decide (j ∉ s.run.stopQueue) :=
    fun k => List.filter_congr fun j _ => by simp
  rw [mergeStops, hsame]
  exact (h.filter _).length_eq

theorem stoppableIn_perm (scope : List Byte) (s : State) :
    (stoppableIn s (scopeOf scope)).Perm (allTrays.filter fun i => bytesSelect scope s i && stops s.trays[i]) := by
  rw [stoppableIn_scopeOf]
  exact ordered_perm _ _

/-! ### A new DOWN run -/

/-- The part as a new DOWN run of the scope finds it (R119). -/
def newDown (scope : Scope) (s : State) : State :=
  { s with run := { s.run with direction := .down, state := .running, scope := scope, startQueue := [],
                               stopQueue := stoppableIn s scope, members := [], stoppedCount := 0, blocked := none }
           store := { s.store with autoPending := false } }

theorem createDown_eq (scope : Scope) (s : State) : createDown scope s = evalStop (newDown scope s) := rfl

theorem newDown_canStop {s : State} (h : DeficitLaw s) (scope : Scope) : CanStop (newDown scope s) :=
  ⟨h, stoppableIn_nodup s scope, fun _ hi => (mem_stoppableIn.mp hi).2⟩

/-- The part without its UP run (R119). -/
def upLetGo (s : State) : State := if s.run.state = .idle then s else dissolveUp s

theorem DeficitLaw.congr {s t : State} (h : DeficitLaw s) (hside : TraySideOnly s t)
    (hlive : ∀ i : TrayId, t.trays[i].countedLive = s.trays[i].countedLive)
    (hcand : ∀ i : TrayId, deficitCandidate t.trays[i] = deficitCandidate s.trays[i]) : DeficitLaw t := by
  intro hn
  have hk : t.kLive = s.kLive := by
    unfold State.kLive
    exact congrArg List.sum (List.map_congr_left fun i _ => hlive i)
  rw [hk, hside.capacity, deficitCandidates_nil]
  refine (h (hside.ilc ▸ hn)).imp_right fun hnil i => ?_
  rw [hcand]
  exact deficitCandidates_nil.mp hnil i

/-- The QUEUED trays of a run that is let go are OFF, and nothing else has changed (R119). -/
structure LetGo (s t : State) : Prop where
  side : TraySideOnly s t
  tray : ∀ j : TrayId, t.trays[j] = if s.trays[j].state = .queued then enterOff s.trays[j] else s.trays[j]
  spacing : t.run.stopSpacing = s.run.stopSpacing
  notices : t.notices = s.notices

theorem upLetGo_letGo {s : State} (h : TrayLaw s) (hrun : s.run.direction = .up ∨ s.run.state = .idle) : LetGo s (upLetGo s) := by
  have hlaw := h
  obtain ⟨htrays, -, -, hstart, hstop⟩ := h
  unfold upLetGo
  split
  · next hidle =>
    have hnone : ∀ j : TrayId, s.trays[j].state ≠ .queued := fun j hj =>
      (hstart (List.ne_nil_of_mem ((htrays j).2.2.1.mpr hj))).2 hidle
    exact ⟨.refl s, fun j => by rw [if_neg (hnone j)], rfl, rfl⟩
  · next hidle =>
    have hnil : s.run.stopQueue = [] := by
      by_contra hne
      exact Direction.noConfusion ((hrun.resolve_right hidle).symm.trans (hstop hne).1)
    have hside := dissolveUp_side s
    rw [dissolveUp_eq hlaw hnil] at hside ⊢
    exact ⟨hside, fun j => by rw [Fin.getElem_fin, Vector.getElem_ofFn], rfl, rfl⟩

theorem queued_counts_nothing {t : Tray} (h : t.state = .queued) :
    t.countedLive = 0 ∧ deficitCandidate t = false ∧ stops t = false := by
  simp [Tray.countedLive, Tray.counted, deficitCandidate, stops, Tray.enable, h]

theorem enterOff_counts_nothing (t : Tray) :
    (enterOff t).countedLive = 0 ∧ deficitCandidate (enterOff t) = false ∧ stops (enterOff t) = false := ⟨rfl, rfl, rfl⟩

theorem bytesSelect_congr {s t : State} {i : TrayId} (h : t.trays[i] = s.trays[i]) (scope : List Byte) :
    bytesSelect scope t i = bytesSelect scope s i := by
  unfold bytesSelect
  rw [h]

section
variable {s t : State} (h : LetGo s t)
include h

theorem LetGo.deficit (hd : DeficitLaw s) : DeficitLaw t := by
  refine hd.congr h.side (fun i => ?_) fun i => ?_
  · rw [h.tray]
    split
    · next hq => rw [(queued_counts_nothing hq).1, (enterOff_counts_nothing _).1]
    · rfl
  · rw [h.tray]
    split
    · next hq => rw [(queued_counts_nothing hq).2.1, (enterOff_counts_nothing _).2.1]
    · rfl

/-- The trays that can be stopped are the same. -/
theorem LetGo.stops (scope : List Byte) (i : TrayId) :
    (bytesSelect scope t i && Machine.stops t.trays[i]) = (bytesSelect scope s i && Machine.stops s.trays[i]) := by
  by_cases hq : s.trays[i].state = .queued
  · rw [h.tray, if_pos hq, (queued_counts_nothing hq).2.2, (enterOff_counts_nothing _).2.2, Bool.and_false, Bool.and_false]
  · have hsame : t.trays[i] = s.trays[i] := by rw [h.tray, if_neg hq]
    rw [bytesSelect_congr hsame, hsame]

theorem LetGo.perm (scope : List Byte) :
    (stoppableIn t (scopeOf scope)).Perm (allTrays.filter fun i => bytesSelect scope s i && Machine.stops s.trays[i]) := by
  have hperm := stoppableIn_perm scope t
  rw [List.filter_congr fun i _ => h.stops scope i] at hperm
  exact hperm

end

end Sys2Proof.Machine
end

section
/-! PROOFS. RUN-DOWN, settled (R116, R117, R119). -/
namespace Sys2Proof.Machine

/-! ### The answer -/

section
variable {scope : Scope} {s : State}

theorem runDownScope_wrongState (hd : s.run.direction = .down) (hs : s.run.state = .suspended) :
    runDownScope scope s = refuse .wrongState s := if_pos ⟨hd, hs⟩

theorem runDownScope_running (hd : s.run.direction = .down) (hr : s.run.state = .running) :
    runDownScope scope s = answerData (le8 (mergeStops s scope).length) (evalStop (merged scope s)) :=
  (if_neg fun h => RunState.noConfusion (hr.symm.trans h.2)).trans (if_pos ⟨hd, hr⟩)

theorem runDownScope_new (h : s.run.direction = .up ∨ s.run.state = .idle) :
    runDownScope scope s =
      answerData (le8 (stoppableIn (upLetGo s) scope).length) (createDown scope (upLetGo s)) := by
  have hnot : ∀ st : RunState, st ≠ .idle → ¬ (s.run.direction = .down ∧ s.run.state = st) := fun st hst hb =>
    h.elim (fun hu => Direction.noConfusion (hu.symm.trans hb.1)) fun hi => hst (hb.2.symm.trans hi)
  exact (if_neg (hnot _ RunState.noConfusion)).trans (if_neg (hnot _ RunState.noConfusion))

end

/-- A DOWN run that takes in more trays (R119). -/
theorem merged_outcome {s : State} (hcan : CanStop s) (scope : List Byte) {l : List TrayId}
    (hl : l = allTrays.filter fun i => bytesSelect scope s i && stops s.trays[i]) :
    TraySideOnly s (evalStop (merged (scopeOf scope) s)) ∧
      (evalStop (merged (scopeOf scope) s)).run.direction = s.run.direction ∧
      (evalStop (merged (scopeOf scope) s)).run.scope = s.run.scope ∧
      ∀ i : TrayId, i ∉ l → i ∉ s.run.stopQueue → (evalStop (merged (scopeOf scope) s)).trays[i] = s.trays[i] := by
  obtain ⟨k, hk, htaken⟩ := evalStop_some (merged_canStop hcan (scopeOf scope))
  refine ⟨(run_side s _).trans htaken.side, htaken.direction, htaken.scope, fun i hi hq => ?_⟩
  rw [htaken.tray i, if_neg fun hm => ?_]
  · rfl
  · rcases mem_merged.mp (hk i hm) with hm | hm
    · exact hi (hl ▸ (stoppableIn_perm scope s).mem_iff.mp hm)
    · exact hq hm

theorem inHand_side {s t : State} (h : TraySideOnly s t) : TraySideOnly (inHand s) (inHand t) := by
  have hstore : (inHand t).store = (inHand s).store := by
    unfold inHand
    rw [h.store]
  exact ⟨h.time, h.pins, h.mbc, h.rects, h.bbus, h.capacity, h.floorEff, h.ilc, h.channels, h.loops, h.stagedScan, h.nextScan, h.test,
    h.hli, hstore, h.params, h.held, h.freeCount, h.pending⟩

section
variable {s t : State} {scope : List Byte} {l : List TrayId}
  (hl : l = allTrays.filter fun i => bytesSelect scope s i && stops s.trays[i])
include hl

theorem not_queued_of_mem {j : TrayId} (hj : j ∈ l) : s.trays[j].state ≠ .queued := fun hq => by
  rw [hl, List.mem_filter, Bool.and_eq_true, (queued_counts_nothing hq).2.2] at hj
  exact Bool.false_ne_true hj.2.2

variable (h : LetGo s t)
include h

theorem mem_newDown (j : TrayId) : j ∈ (newDown (scopeOf scope) t).run.stopQueue ↔ j ∈ l := by
  rw [hl]
  exact (h.perm scope).mem_iff

theorem newDown_same {j : TrayId} (hj : j ∈ l) : t.trays[j] = s.trays[j] := by
  rw [h.tray j, if_neg (not_queued_of_mem hl hj)]

theorem newDown_order :
    (newDown (scopeOf scope) t).run.stopQueue.Pairwise (fun a b =>
      s.trays[b].cfg.rank < s.trays[a].cfg.rank ∨ (s.trays[b].cfg.rank = s.trays[a].cfg.rank ∧ b < a)) := by
  have horder : (newDown (scopeOf scope) t).run.stopQueue.Pairwise (StopsFirst t) := stoppableIn_order t (scopeOf scope)
  refine horder.imp_of_mem fun {a b} ha hb hab => ?_
  have hsame := fun {j : TrayId} hj => newDown_same hl h ((mem_newDown hl h j).mp hj)
  rw [StopsFirst, hsame ha, hsame hb] at hab
  exact hab

variable (hd : DeficitLaw s)

/-- A DOWN run without a tray to stop is done at once (R117). -/
theorem createDown_none (hnil : l = []) {u : State} (hu : u = createDown (scopeOf scope) t) :
    u.run.state = .idle ∧ NoticeNext { kind := .runDone, subject := some 1, value := some 0, time := s.time } s u := by
  have hempty : (newDown (scopeOf scope) t).run.stopQueue = [] :=
    List.eq_nil_iff_forall_not_mem.mpr fun j hj => List.not_mem_nil (hnil ▸ (mem_newDown hl h j).mp hj)
  have hnext : NoticeNext { kind := .runDone, subject := some 1, value := some 0, time := s.time } s
      (post .runDone (some 1) (some 0) (newDown (scopeOf scope) t)) := noticeNext_post h.notices h.side.time
  rw [hu, createDown_eq, evalStop_empty rfl rfl hempty]
  exact ⟨rfl, hnext⟩

/-- While the stop spacing runs, the trays wait (R117). -/
theorem createDown_waits (hne : l ≠ []) (ht : s.run.stopSpacing ≠ none) : createDown (scopeOf scope) t = newDown (scopeOf scope) t := by
  obtain ⟨j, hj⟩ := List.exists_mem_of_ne_nil l hne
  have hspacing : (newDown (scopeOf scope) t).run.stopSpacing ≠ none := by
    show t.run.stopSpacing ≠ none
    rw [h.spacing]
    exact ht
  rw [createDown_eq]
  exact evalStop_spaced rfl rfl (List.ne_nil_of_mem ((mem_newDown hl h j).mpr hj)) hspacing

include hd

/-- Without a stop spacing, the tray of the highest rank and index is stopped at once (R116, R117). -/
theorem createDown_stops_first (ht : s.run.stopSpacing = none) {i : TrayId} (hi : i ∈ l)
    (hfirst : ∀ j ∈ l, s.trays[j].cfg.rank < s.trays[i].cfg.rank ∨ (s.trays[j].cfg.rank = s.trays[i].cfg.rank ∧ j ≤ i)) :
    (createDown (scopeOf scope) t).trays[i] = enterStopping s.trays[i] := by
  have hmem := (mem_newDown hl h i).mpr hi
  have horder := newDown_order hl h
  obtain ⟨k, rest, hq⟩ := List.exists_cons_of_ne_nil (List.ne_nil_of_mem hmem)
  have hk : k ∈ l := (mem_newDown hl h k).mp (by rw [hq]; exact List.mem_cons_self)
  rw [hq] at hmem horder
  have hhead : i = k := by
    refine (List.mem_cons.mp hmem).resolve_right fun hrest => ?_
    have hki := (List.pairwise_cons.mp horder).1 i hrest
    have hik := hfirst k hk
    simp only [Fin.lt_def, Fin.le_def] at hki hik
    omega
  have hspacing : (newDown (scopeOf scope) t).run.stopSpacing = none := h.spacing.trans ht
  have hstop := evalStop_stops_head (newDown_canStop (h.deficit hd) (scopeOf scope)) rfl rfl hq hspacing
  rw [createDown_eq, hhead, hstop]
  exact congrArg enterStopping (newDown_same hl h hk)

/-- A new DOWN run that replaces an UP run (R119). -/
theorem createDown_outcome {u : State} (hu : u = createDown (scopeOf scope) t) :
    TraySideOnly (inHand s) u ∧ u.run.direction = .down ∧ u.run.scope = scopeOf scope ∧ u.run.startQueue = [] ∧
      u.run.members = [] ∧
      (u.notices.records.filter fun n => n.kind == .runDone && n.subject == some 0) =
        (s.notices.records.filter fun n => n.kind == .runDone && n.subject == some 0) ∧
      (∀ i : TrayId, s.trays[i].state = .queued → u.trays[i] = enterOff s.trays[i]) ∧
      (∀ i : TrayId, i ∉ l → s.trays[i].state ≠ .queued → u.trays[i] = s.trays[i]) := by
  obtain ⟨k, hk, htaken⟩ := evalStop_some (newDown_canStop (h.deficit hd) (scopeOf scope))
  have hin : ∀ j ∈ k, j ∈ l := fun j hj => (mem_newDown hl h j).mp (hk j hj)
  rw [← createDown_eq, ← hu] at htaken
  have hsame : ∀ i : TrayId, i ∉ l → u.trays[i] = t.trays[i] := fun i hi =>
    (htaken.tray i).trans (if_neg fun hm => hi (hin i hm))
  refine ⟨((inHand_side h.side).trans (run_side (inHand t) _)).trans htaken.side, htaken.direction, htaken.scope,
    List.sublist_nil.mp htaken.startQueue, List.sublist_nil.mp htaken.members, ?_, fun i hq => ?_, fun i hi hq => ?_⟩
  · rw [htaken.records]
    exact congrArg (fun q : NoticeQueue => q.records.filter fun n => n.kind == .runDone && n.subject == some 0) h.notices
  · rw [hsame i fun hm => not_queued_of_mem hl hm hq, h.tray i, if_pos hq]
  · rw [hsame i hi, h.tray i, if_neg hq]

end

/-- Settles O48. -/
theorem runDown : Obligations.RunDown := by
  intro s tag scope i l hready hlaw hopen hdef hl
  have hgo := fun {t : State} {a : Answer} (h : answerRunDown scope (asked ⟨0x21, tag, .runDown scope⟩ s) = (a, t)) =>
    request_of_answer (kind := 0x21) (tag := tag) (body := .runDown scope) hready h
  have hscope := fun {t : State} {a : Answer} (hf : scopeFault scope = none)
    (h : runDownScope (scopeOf scope) (asked ⟨0x21, tag, .runDown scope⟩ s) = (a, t)) => hgo ((answerRunDown_scope hf _).trans h)
  have hfault := fun {code : RefusalCode} (h : scopeFault scope = some code) => hgo (answerRunDown_fault h _)
  have hcan : CanStop (asked ⟨0x21, tag, .runDown scope⟩ s) := canStop_of_laws hlaw hdef
  have hmerge : mergeStops (asked ⟨0x21, tag, .runDown scope⟩ s) (scopeOf scope) = mergeStops s (scopeOf scope) := rfl
  have hlen : (mergeStops s (scopeOf scope)).length = (l.filter fun j => j ∉ s.run.stopQueue).length :=
    mergeStops_length (hl ▸ stoppableIn_perm scope s)
  refine ⟨fun h => hfault (scopeFault_badLength h), fun h => hfault (scopeFault_badIndex h), fun h => ?_,
    fun hf hd hs => hscope hf (runDownScope_wrongState hd hs), fun hf hd hr => ?_, fun hf hd hr ht => ?_, fun hf hrun => ?_⟩
  · obtain ⟨code, hcode⟩ := Option.isSome_iff_exists.mp h
    rw [hcode]
    exact hfault hcode
  · have hanswer := runDownScope_running (scope := scopeOf scope) (s := asked ⟨0x21, tag, .runDown scope⟩ s) hd hr
    rw [hmerge, hlen] at hanswer
    obtain ⟨hside, hdir, hsc, htrays⟩ := merged_outcome hcan scope hl
    exact ⟨_, hscope hf hanswer, replying_side hside _ _, hdir.trans hd, hsc, htrays i⟩
  · have hanswer := runDownScope_running (scope := scopeOf scope) (s := asked ⟨0x21, tag, .runDown scope⟩ s) hd hr
    have hqueue : s.run.stopQueue ≠ [] := fun he => by
      have hno := hopen.2
      simp [downComplete, hd, hr, he] at hno
    obtain ⟨j, hj⟩ := List.exists_mem_of_ne_nil _ hqueue
    have hmem : ∀ j, j ∈ (merged (scopeOf scope) s).run.stopQueue ↔ j ∈ l ∨ j ∈ s.run.stopQueue := fun j => by
      rw [mem_merged, (stoppableIn_perm scope s).mem_iff, hl]
    have hwaits := evalStop_spaced (s := merged (scopeOf scope) (asked ⟨0x21, tag, .runDown scope⟩ s)) hd hr
      (List.ne_nil_of_mem ((hmem j).mpr (Or.inr hj))) ht
    rw [hmerge, hlen, hwaits] at hanswer
    exact ⟨_, hscope hf hanswer, rfl, hmem i, fun ho => merged_order ho.2 (scopeOf scope)⟩
  · have hanswer := runDownScope_new (scope := scopeOf scope) (s := asked ⟨0x21, tag, .runDown scope⟩ s) hrun
    have hletGo := upLetGo_letGo (s := asked ⟨0x21, tag, .runDown scope⟩ s) hlaw hrun
    have hl' : l = allTrays.filter fun i => bytesSelect scope (asked ⟨0x21, tag, .runDown scope⟩ s) i &&
        stops (asked ⟨0x21, tag, .runDown scope⟩ s).trays[i] := hl
    rw [(hletGo.perm scope).length_eq, ← hl'] at hanswer
    obtain ⟨hside, hdir, hsc, hqueue, hmembers, hrecords, hqueued, hother⟩ := createDown_outcome hl' hletGo hdef rfl
    refine ⟨_, hscope hf hanswer, replying_side hside _ _, hdir, hsc, hqueue, hmembers, hrecords, hqueued i, hother i,
      fun hnil => ?_, fun hne ht => ?_, fun ht hi hfirst => createDown_stops_first hl' hletGo hdef ht hi hfirst⟩
    · obtain ⟨hstate, hnext⟩ := createDown_none hl' hletGo hnil rfl
      exact ⟨hstate, hnext⟩
    rw [createDown_waits hl' hletGo hne ht]
    have horder := newDown_order hl' hletGo
    refine ⟨rfl, rfl, hletGo.notices, mem_newDown hl' hletGo i, horder, fun hq => ?_⟩
    exact (hletGo.tray i).trans (if_neg hq)

end Sys2Proof.Machine
end

section
/-! PROOFS. The requests about leaks: LEAK-RELEASE and SET-LEAK-CHANNEL (R134 to R137). -/
namespace Sys2Proof.Machine

/-! ### Trays that change their lockouts only -/

/-- The trays are those of before, but for their lockouts. -/
def LocksOnly (s t : State) : Prop := ∀ i : TrayId, ∃ k, t.trays[i] = { s.trays[i] with locks := k }

section
variable {s t : State} (h : LocksOnly s t) (hrun : t.run = s.run)
include h

theorem LocksOnly.counts (i : TrayId) :
    t.trays[i].counted = s.trays[i].counted ∧ t.trays[i].countedLive = s.trays[i].countedLive ∧
      t.trays[i].state = s.trays[i].state ∧ t.trays[i].retryPending = s.trays[i].retryPending := by
  obtain ⟨k, hk⟩ := h i
  rw [hk]
  exact ⟨rfl, rfl, rfl, rfl⟩

include hrun

theorem LocksOnly.noEvent : NoEvent s t where
  kT := congrArg List.sum (List.map_congr_left fun i _ => (h.counts i).1)
  kLive := congrArg List.sum (List.map_congr_left fun i _ => (h.counts i).2.1)
  inrush := fun i hi => (h.counts i).2.2.1.trans hi
  startQueue := by rw [hrun]

theorem LocksOnly.openLaw (ho : OpenLaw s) : OpenLaw t := by
  refine ⟨Bool.eq_false_iff.mpr fun hc => Bool.false_ne_true (ho.1.symm.trans ?_), by rw [downComplete, hrun]; exact ho.2⟩
  rw [upComplete_iff] at hc ⊢
  rw [hrun] at hc
  obtain ⟨hd, hst, hq, hall⟩ := hc
  refine ⟨hd, hst, hq, fun j hj => ?_⟩
  obtain ⟨-, -, hstate, hretry⟩ := h.counts j
  rw [← hstate, ← hretry]
  exact hall j hj

/-- Nothing follows a change of lockouts. -/
theorem LocksOnly.propagate (ho : OpenLaw s) : Machine.propagate s t = t :=
  (h.noEvent hrun).propagate_id (h.openLaw hrun ho)

end

theorem LocksOnly.trans {s t u : State} (h : LocksOnly s t) (k : LocksOnly t u) : LocksOnly s u := fun i => by
  obtain ⟨a, ha⟩ := h i
  obtain ⟨b, hb⟩ := k i
  exact ⟨b, by rw [hb, ha]⟩

theorem LocksOnly.place {s t : State} (h : LocksOnly s t) (hrun : t.run = s.run) (hp : ∀ i, placeLaw s i) (i : TrayId) : placeLaw t i := by
  obtain ⟨k, hk⟩ := h i
  have hi := hp i
  rw [placeLaw, hk, hrun]
  exact hi

/-- Several changes of lockouts leave the run alone. -/
theorem putTrays_locks {f : Tray → Tray} (hf : ∀ t, ∃ k, f t = { t with locks := k }) (l : List TrayId) {s : State}
    (hp : ∀ i, placeLaw s i) : LocksOnly s (putTrays l f s) ∧ (putTrays l f s).run = s.run := by
  induction l generalizing s with
  | nil => exact ⟨fun i => ⟨_, rfl⟩, rfl⟩
  | cons x l ih =>
    obtain ⟨k, hk⟩ := hf s.trays[x]
    have hset : putTray x (f s.trays[x]) s = { s with trays := s.trays.set x (f s.trays[x]) } :=
      putTray_eq_set x _ s (hp x) (by rw [hk]) (by rw [hk]) (by rw [hk]; exact id)
    have hone : LocksOnly s (putTray x (f s.trays[x]) s) := fun i => by
      rw [putTray_get]
      split
      · next e =>
        subst e
        exact ⟨k, hk⟩
      · exact ⟨_, rfl⟩
    have hrun : (putTray x (f s.trays[x]) s).run = s.run := by rw [hset]
    obtain ⟨hlocks, hruns⟩ := ih (hone.place hrun hp)
    rw [putTrays_cons]
    exact ⟨hone.trans hlocks, hruns.trans hrun⟩

/-- A recomputation that locks out no tray frees those nothing covers, in the state they have, and nothing follows (R135). -/
theorem leakRecompute_frees {s : State} (hp : ∀ i, placeLaw s i) (ho : OpenLaw s)
    (hfrees : ∀ i : TrayId, mustLeak s i = true → s.trays[i].locks.leak = true) :
    leakRecompute s = { s with trays := (leakRecompute s).trays } ∧
      ∀ i : TrayId, (leakRecompute s).trays[i] =
        { s.trays[i] with locks := { s.trays[i].locks with leak := mustLeak s i } } := by
  have hnone : leakGains s = [] := List.filter_eq_nil_iff.mpr fun i _ hi => by
    obtain ⟨hmust, hnot⟩ := Bool.and_eq_true_iff.mp hi
    rw [hfrees i hmust] at hnot
    exact Bool.false_ne_true hnot
  obtain ⟨hlocks, hrun⟩ := putTrays_locks (f := freeLeak) (fun t => ⟨_, rfl⟩) (leakLosses s) hp
  have hsame : leakRecompute s = putTrays (leakLosses s) freeLeak s := by
    unfold leakRecompute
    rw [hnone]
    exact hlocks.propagate hrun ho
  rw [hsame]
  have hframe := putTrays_frame (leakLosses s) freeLeak s
  rw [hrun] at hframe
  refine ⟨hframe, fun i => ?_⟩
  have hnodup : (leakLosses s).Nodup := allTrays_nodup.filter _
  rw [putTrays_get hnodup]
  have hloses : i ∈ leakLosses s ↔ mustLeak s i = false ∧ s.trays[i].locks.leak = true := by
    rw [leakLosses, List.mem_filter, and_iff_right (mem_allTrays i), Bool.and_eq_true, Bool.not_eq_true']
  split
  · next hi => rw [(hloses.mp hi).1, freeLeak]
  · next hi =>
    have heq : mustLeak s i = s.trays[i].locks.leak := by
      cases hm : mustLeak s i with
      | true => exact (hfrees i hm).symm
      | false => exact (Bool.eq_false_iff.mpr fun hl => hi (hloses.mpr ⟨hm, hl⟩)).symm
    rw [heq]

/-! ### A release -/

/-- An evaluation of a loop that has not gained an alarm: its escalation can only end (R134). -/
theorem evalEscalation_falls {l : LoopId} {s : State} (h : 2 ≤ alarmsIn s l → s.loops[l].escalated = true) :
    evalEscalation l s = { s with loops := s.loops.set l { s.loops[l] with escalated := decide (2 ≤ alarmsIn s l) } } := by
  have hself : ∀ b, s.loops[l].escalated = b → { s with loops := s.loops.set l { s.loops[l] with escalated := b } } = s :=
    fun b hb => by
      subst hb
      exact congrArg (fun v => { s with loops := v }) (Vector.set_getElem_self _)
  unfold evalEscalation
  dsimp only
  cases he : s.loops[l].escalated with
  | true =>
    rw [if_pos rfl]
    split
    · next hn => rw [decide_eq_false (Nat.not_le.mpr hn)]; rfl
    · next hn => rw [decide_eq_true (Nat.not_lt.mp hn), hself _ he]
  | false =>
    have hn : ¬ 2 ≤ alarmsIn s l := fun hn => Bool.false_ne_true (he.symm.trans (h hn))
    rw [if_neg Bool.false_ne_true, if_neg hn, decide_eq_false hn, hself _ he]

/-- The channel record after its release (R136). -/
def releasedChannel (x : Channel) : Channel := { x with state := .dry, cableFlag := false }

/-- A channel that leaves ALARM leaves fewer alarms, and covers fewer trays. -/
theorem alarmsIn_released {s : State} {c : ChannelId} (l : LoopId) :
    alarmsIn (putChannel c (releasedChannel s.channels[c]) s) l ≤ alarmsIn s l := by
  rw [alarmsIn_eq, alarmsIn_eq]
  refine (List.monotone_filter_right allChannels fun d hd => ?_).length_le
  rw [alarmOf, putChannel_get] at hd
  split at hd
  · exact absurd hd Bool.false_ne_true
  · exact hd

theorem mustLeak_fewer {s t : State} (hch : ∀ d : ChannelId, t.channels[d].cfg = s.channels[d].cfg ∧
      (t.channels[d].state = .alarm → s.channels[d].state = .alarm))
    (hloops : ∀ l : LoopId, t.loops[l].escalated = true → s.loops[l].escalated = true) {i : TrayId} (h : mustLeak t i = true) :
    mustLeak s i = true := by
  obtain ⟨d, hi, hd⟩ := (mustLeak_iff t i).mp h
  obtain ⟨hcfg, hstate⟩ := hch d
  simp only [hcfg] at hi hd
  exact (mustLeak_iff s i).mpr ⟨d, hi, hd.imp (fun ⟨ha, hiso⟩ => ⟨hstate ha, hiso⟩) fun ⟨he, hx⟩ => ⟨he, hloops _ hx⟩⟩

theorem mustLeak_congr {s t : State} (hc : t.channels = s.channels) (hl : t.loops = s.loops) (i : TrayId) :
    mustLeak t i = mustLeak s i := by
  simp only [mustLeak, hc, hl]

theorem alarmsIn_congr {s t : State} (hc : t.channels = s.channels) (l : LoopId) : alarmsIn t l = alarmsIn s l := by
  simp only [alarmsIn, hc]

/-- The channel is released and its loop's escalation evaluated: the part before the lockouts follow (R136). -/
def released (c : ChannelId) (s : State) : State :=
  evalEscalation s.channels[c].cfg.loop (putChannel c (releasedChannel s.channels[c]) s)

theorem releaseChannel_released (c : ChannelId) (s : State) :
    releaseChannel c s = post .leakReleased (some c.val) (some s.channels[c].cfg.loop.val) (leakRecompute (released c s)) := rfl

theorem released_eq {s : State} (h : LeakLaw s) (c : ChannelId) :
    released c s =
      { s with
        channels := s.channels.set c (releasedChannel s.channels[c])
        loops := s.loops.set s.channels[c].cfg.loop
          { s.loops[s.channels[c].cfg.loop] with
            escalated := decide (2 ≤ alarmsIn (putChannel c (releasedChannel s.channels[c]) s) s.channels[c].cfg.loop) } } :=
  evalEscalation_falls (s := putChannel c (releasedChannel s.channels[c]) s) fun hn =>
    (h.1 _).trans (decide_eq_true (hn.trans (alarmsIn_released _)))

/-- A release frees the trays that nothing else covers, and locks out none (R136). -/
theorem released_frees {s : State} (h : LeakLaw s) (c : ChannelId) (i : TrayId) (hm : mustLeak (released c s) i = true) :
    s.trays[i].locks.leak = true := by
  rw [h.2.2 i]
  rw [released_eq h] at hm
  refine mustLeak_fewer (fun d => ?_) (fun l hl => ?_) hm
  · have hget : (s.channels.set c (releasedChannel s.channels[c]))[d] = if c = d then releasedChannel s.channels[c] else s.channels[d] :=
      vector_set_get _ _ _ _
    show (s.channels.set c (releasedChannel s.channels[c]))[d].cfg = s.channels[d].cfg ∧
      ((s.channels.set c (releasedChannel s.channels[c]))[d].state = .alarm → s.channels[d].state = .alarm)
    rw [hget]
    split
    · next e =>
      subst e
      exact ⟨rfl, fun hs => ChannelState.noConfusion hs⟩
    · exact ⟨rfl, id⟩
  · have hget := fun x => vector_set_get s.loops s.channels[c].cfg.loop l x
    dsimp only at hl
    rw [hget] at hl
    split at hl
    · next e =>
      rw [← e, h.1]
      exact decide_eq_true ((of_decide_eq_true hl).trans (alarmsIn_released _))
    · exact hl

/-- A release, with everything that follows (R134 to R136). -/
theorem releaseChannel_outcome {s : State} (hleak : LeakLaw s) (hp : ∀ i, placeLaw s i) (ho : OpenLaw s) {c : ChannelId} {l : LoopId}
    (hl : s.channels[c].cfg.loop = l) {t : State} (ht : t = releaseChannel c s) :
    t =
        { post .leakReleased (some c.val) (some l.val) s with
          channels := s.channels.set c (releasedChannel s.channels[c])
          loops := s.loops.set l { s.loops[l] with escalated := decide (2 ≤ alarmsIn t l) }
          trays := t.trays } ∧
      (∀ i : TrayId, t.trays[i] = { s.trays[i] with locks := { s.trays[i].locks with leak := mustLeak t i } }) ∧
      (∀ i : TrayId, t.trays[i].locks.leak = true → s.trays[i].locks.leak = true) := by
  subst hl
  have hfrees := released_frees hleak c
  have heq := released_eq hleak c
  have htrays : (released c s).trays = s.trays := by rw [heq]
  have hrun : (released c s).run = s.run := by rw [heq]
  have hplace : ∀ i, placeLaw (released c s) i := fun i => by
    rw [placeLaw, htrays, hrun]
    exact hp i
  obtain ⟨hframe, htable⟩ := leakRecompute_frees hplace (ho.congr htrays hrun) fun i hm => by
    rw [htrays]
    exact hfrees i hm
  rw [htrays] at htable
  rw [releaseChannel_released, hframe] at ht
  clear hframe
  generalize (leakRecompute (released c s)).trays = table at *
  have hmust : ∀ {t : State}, t.channels = (released c s).channels → t.loops = (released c s).loops →
      ∀ i, mustLeak t i = mustLeak (released c s) i := fun hc hl => mustLeak_congr hc hl
  rw [heq] at ht
  have hnote := ht.trans (post_frame (s := s) (by rfl) (by rfl))
  have hchannels : t.channels = (released c s).channels := by rw [hnote, heq]
  have hloops : t.loops = (released c s).loops := by rw [hnote, heq]
  have halarms : alarmsIn t s.channels[c].cfg.loop = alarmsIn (putChannel c (releasedChannel s.channels[c]) s) s.channels[c].cfg.loop :=
    alarmsIn_congr (by rw [hchannels, heq]; rfl) _
  have hmust := hmust hchannels hloops
  have htr : t.trays = table := by rw [hnote]
  refine ⟨?_, fun i => ?_, fun i hi => ?_⟩
  · rw [halarms, htr, post_eq _ _ _ s]
    exact hnote
  · rw [hmust, htr]
    exact htable i
  · rw [htr, htable i] at hi
    exact hfrees i hi

end Sys2Proof.Machine
end

section
/-! PROOFS. LEAK-RELEASE and SET-LEAK-CHANNEL, settled (R134 to R137). -/
namespace Sys2Proof.Machine

/-! ### Trays locked out for a leak -/

/-- Only QUEUED trays stand in the start queue, and only trays that can be stopped in the stop queue. -/
def InPlace (s : State) : Prop :=
  ∀ j : TrayId, (j ∈ s.run.startQueue → s.trays[j].state = .queued) ∧ (j ∈ s.run.stopQueue → s.trays[j].stoppable = true)

theorem InPlace.of_law {s : State} (h : TrayLaw s) : InPlace s := fun j => ⟨(h.1 j).2.2.1.mp, (h.1 j).2.2.2.2.1⟩

theorem InPlace.putTray {s : State} (h : InPlace s) (i : TrayId) (x : Tray) : InPlace (putTray i x s) := by
  intro j
  rw [putTray_get]
  by_cases hj : i = j
  · subst hj
    rw [if_pos rfl]
    exact ⟨fun hm => by_contra fun hq => putTray_not_startQueue hq hm,
      fun hm => by_contra fun hs => putTray_not_stopQueue (Bool.eq_false_iff.mpr hs) hm⟩
  · rw [if_neg hj]
    exact ⟨fun hm => (h j).1 ((syncRun_startQueue i x s.run).subset hm), fun hm => (h j).2 ((syncRun_stopQueue i x s.run).subset hm)⟩

theorem InPlace.putTrays {s : State} (h : InPlace s) (l : List TrayId) (f : Tray → Tray) : InPlace (putTrays l f s) := by
  induction l generalizing s with
  | nil => exact h
  | cons x l ih =>
    rw [putTrays_cons]
    exact ih (h.putTray x _)

/-- The tray is off, and not about to be on. -/
def AtRest (t : Tray) : Prop := t.enable = false ∧ t.state ≠ .queued

theorem stopTray_atRest (t : Tray) : AtRest (stopTray t) := by
  refine ⟨stopTray_enable t, fun hq => ?_⟩
  unfold stopTray at hq
  split at hq
  case h_1 => exact TrayState.noConfusion hq
  case h_2 => exact TrayState.noConfusion hq
  case h_3 => exact TrayState.noConfusion hq
  case h_4 hs => exact TrayState.noConfusion (hs.symm.trans hq)
  case h_5 hs => exact TrayState.noConfusion (hs.symm.trans hq)
  case h_6 hs => exact TrayState.noConfusion (hs.symm.trans hq)

theorem atRest_of_leak {t : Tray} (h : lockLaw t) (hl : t.locks.leak = true) : AtRest t := by
  obtain ⟨hqueued, henable⟩ := h
  refine ⟨Bool.eq_false_iff.mpr fun he => Bool.false_ne_true ((henable he).1.symm.trans hl), fun hq => ?_⟩
  have hempty := hqueued hq
  simp [Lockouts.isEmpty, hl] at hempty

theorem AtRest.untouchable {s : State} (h : InPlace s) {i : TrayId} (hi : AtRest s.trays[i]) : ¬ Touchable s i := by
  obtain ⟨he, hq⟩ := hi
  rintro (hm | hm | hm)
  · exact hq ((h i).1 hm)
  · exact Bool.false_ne_true (he.symm.trans (Tray.stoppable_enable ((h i).2 hm)))
  · exact Bool.false_ne_true (he.symm.trans hm)

/-- A tray that must carry LEAK is at rest after the recomputation (R17, R135). -/
theorem leakRecompute_atRest {s : State} (h : TrayLaw s) {i : TrayId} (hm : mustLeak s i = true) :
    AtRest (leakRecompute s).trays[i] := by
  have hgains : (leakGains s).Nodup := allTrays_nodup.filter _
  have hlosses : (leakLosses s).Nodup := allTrays_nodup.filter _
  have hplace : InPlace (putTrays (leakLosses s) freeLeak (putTrays (leakGains s) isolateTray s)) :=
    ((InPlace.of_law h).putTrays _ _).putTrays _ _
  have hnot : i ∉ leakLosses s := fun hl => by
    rw [leakLosses, List.mem_filter, hm] at hl
    exact Bool.false_ne_true hl.2
  have hget : (putTrays (leakLosses s) freeLeak (putTrays (leakGains s) isolateTray s)).trays[i] =
      if i ∈ leakGains s then isolateTray s.trays[i] else s.trays[i] := by
    rw [putTrays_get hlosses, if_neg hnot, putTrays_get hgains]
  have hrest : AtRest (putTrays (leakLosses s) freeLeak (putTrays (leakGains s) isolateTray s)).trays[i] := by
    rw [hget]
    split
    · exact stopTray_atRest _
    · next hg =>
      refine atRest_of_leak (h.1 i).1 (by_contra fun hl => hg ?_)
      rw [leakGains, List.mem_filter, hm, Bool.eq_false_iff.mpr hl]
      exact ⟨mem_allTrays i, rfl⟩
  rw [leakRecompute, (propagate_turn s _).same (hrest.untouchable hplace)]
  exact hrest

/-- The test for the automatic run starts no tray that is locked out (R181). -/
theorem autoStartTest_locked {s : State} {i : TrayId} (h : s.trays[i].locks.leak = true) : (autoStartTest s).trays[i] = s.trays[i] := by
  unfold autoStartTest
  split
  · obtain ⟨-, -, -, -, hout, -⟩ := createUp_outcome .all (eligibleIn s .all) s
    refine hout i fun hm => ?_
    have hlocks := ((Tray.eligible_iff _).mp ((Tray.eligible_eq_joins _).trans (mem_eligibleAll.mp hm))).2.2.2
    rw [hlocks] at h
    exact Bool.false_ne_true h
  · rfl

theorem autoStartTest_leak (s : State) (i : TrayId) : (autoStartTest s).trays[i].locks.leak = s.trays[i].locks.leak :=
  (CoreMove.block (quiet := .all) (autoStartTest_move s)).leak trivial i

/-! ### A new channel configuration -/

/-- The configuration that a request names, in its ranges (R137). -/
def channelConfigOf (l : LoopId) (g : RawChannelConfig) : ChannelConfig :=
  { enabled := yes g.enabled, loop := l, trays := traySet g.trays, isolate := yes g.isolate, closeValve := yes g.closeValve,
    nC := clamp 1 16 g.nC, nF := clamp 1 16 g.nF }

/-- Everything that follows a new channel configuration (R137). -/
theorem applyChannelConfig_outcome {s : State} (h : TrayLaw s) (c : ChannelId) (cfg : ChannelConfig) {t : State}
    (ht : t = autoStartTest (leakRecompute (applyChannelConfig c cfg s))) :
    RackSide { s with channels := t.channels } t ∧ t.channels = s.channels.set c (configureChannel cfg s.channels[c]) ∧
      ∀ i : TrayId, t.trays[i].locks.leak = mustLeak t i ∧ (mustLeak t i = true → AtRest t.trays[i]) := by
  have hlaw : TrayLaw (applyChannelConfig c cfg s) := h
  have hchannels : (applyChannelConfig c cfg s).channels = s.channels.set c (configureChannel cfg s.channels[c]) := rfl
  have hframe : applyChannelConfig c cfg s = { s with channels := (applyChannelConfig c cfg s).channels } := rfl
  generalize applyChannelConfig c cfg s = w at *
  have hside : RackSide w t := by
    rw [ht]
    exact (RackSide.of_side (leakRecompute_side w)).trans (autoStartTest_side _)
  have hmust : ∀ i, mustLeak t i = mustLeak w i := mustLeak_congr hside.channels hside.loops
  refine ⟨?_, hside.channels.trans hchannels, fun i => ?_⟩
  · rw [hside.channels, ← hframe]
    exact hside
  · have hleak := leakRecompute_leak w i
    have hrest := fun hm => leakRecompute_atRest (i := i) hlaw hm
    rw [hmust]
    generalize leakRecompute w = u at *
    subst ht
    exact ⟨(autoStartTest_leak u i).trans hleak, fun hm => (autoStartTest_locked (hleak.trans hm)).symm ▸ hrest hm⟩

theorem withRackOf_channels {s t : State} (h : RackSide { s with channels := t.channels } t) :
    t = withRackOf { s with channels := t.channels } t ∧ GrantsOnly s t := ⟨h.eq_withRackOf, h.grantsOnly⟩

theorem configureChannel_cfg (cfg : ChannelConfig) (x : Channel) : (configureChannel cfg x).cfg = cfg := by
  unfold configureChannel
  split <;> rfl

theorem configureChannel_off {l : LoopId} {g : RawChannelConfig} {x : Channel} (h : g.enabled = 0) :
    { configureChannel (channelConfigOf l g) x with cfg := x.cfg } = { x with state := .disabled } := by
  have hoff : (channelConfigOf l g).enabled = false := by rw [channelConfigOf, yes, h]; rfl
  rw [configureChannel, if_neg (Bool.eq_false_iff.mp hoff)]

theorem configureChannel_on {l : LoopId} {g : RawChannelConfig} {x : Channel} (h : g.enabled ≠ 0) :
    { configureChannel (channelConfigOf l g) x with cfg := x.cfg } =
      { x with
        state := .dry, wetRun := 0, faultRun := 0, dryStreak := 0, samples := 0,
        transients := if x.state = .disabled then 0 else x.transients } := by
  have hon : (channelConfigOf l g).enabled = true := bne_iff_ne.mpr h
  rw [configureChannel, if_pos hon]

theorem channelClamped_eq (g : RawChannelConfig) :
    (!(inRange 1 16 g.nC && inRange 1 16 g.nF)) = decide ¬ (1 ≤ g.nC ∧ g.nC ≤ 16 ∧ 1 ≤ g.nF ∧ g.nF ≤ 16) := by
  rw [decide_not, inRange, inRange, Bool.decide_and, Bool.decide_and, Bool.decide_and, Bool.and_assoc]

section
variable {g : RawChannelConfig} {s : State}

theorem answerSetLeakChannel_badLength (h : g.count ≠ g.trays.length ∨ 24 < g.count) :
    answerSetLeakChannel g s = refuse .badLength s := if_pos h

variable (hlen : g.count = g.trays.length) (hcount : g.count ≤ 24)
include hlen hcount

theorem answerSetLeakChannel_eq :
    answerSetLeakChannel g s =
      match channelOf g.channel, loopOf g.loop with
      | some c, some l =>
        if !g.trays.all (fun t => decide (t ≤ 23)) then refuse .badIndex s
        else if s.saveInFlight then refuse .busy s
        else if s.channels[c].state = .alarm then refuse .leakActive s
        else
          (.ack (!(inRange 1 16 g.nC && inRange 1 16 g.nF)) false,
            autoStartTest (leakRecompute (applyChannelConfig c (channelConfigOf l g) s)))
      | _, _ => refuse .badIndex s := by
  have hfits : ¬ (g.count ≠ g.trays.length ∨ 24 < g.count) := fun h => h.elim (fun hne => hne hlen) (Nat.not_lt.mpr hcount)
  rw [answerSetLeakChannel, if_neg hfits]
  rfl

theorem answerSetLeakChannel_badIndex (h : 11 < g.channel ∨ 3 < g.loop ∨ ∃ i ∈ g.trays, 23 < i) :
    answerSetLeakChannel g s = refuse .badIndex s := by
  rw [answerSetLeakChannel_eq hlen hcount]
  split
  · next c l hc hl =>
    have hcl : g.channel < 12 := by
      by_contra hn
      simp [channelOf, hn] at hc
    have hll : g.loop < 4 := by
      by_contra hn
      simp [loopOf, hn] at hl
    refine if_pos ?_
    rcases h with h | h | ⟨i, hi, hlt⟩
    · omega
    · omega
    · rw [Bool.not_eq_true', List.all_eq_false]
      exact ⟨i, hi, by simpa using hlt⟩
  · rfl

variable {c : ChannelId} {l : LoopId} (hc : g.channel = c.val) (hl : g.loop = l.val) (ht : ∀ i ∈ g.trays, i ≤ 23)
include hc hl ht

theorem answerSetLeakChannel_known :
    answerSetLeakChannel g s =
      if s.saveInFlight then refuse .busy s
      else if s.channels[c].state = .alarm then refuse .leakActive s
      else
        (.ack (!(inRange 1 16 g.nC && inRange 1 16 g.nF)) false,
          autoStartTest (leakRecompute (applyChannelConfig c (channelConfigOf l g) s))) := by
  have hchannel : channelOf g.channel = some c := by simp [channelOf, hc]
  have hloop : loopOf g.loop = some l := by simp [loopOf, hl]
  have hall : (g.trays.all fun t => decide (t ≤ 23)) = true := List.all_eq_true.mpr fun i hi => decide_eq_true (ht i hi)
  rw [answerSetLeakChannel_eq hlen hcount, hchannel, hloop, hall]
  rfl

end

/-! ### The answers to LEAK-RELEASE -/

section
variable {c : ChannelId} {s : State}

theorem answerLeakRelease_notArmed {armed : Option ArmTarget} (h : armed ≠ some (.leakRelease c.val)) :
    answerLeakRelease c armed s = refuse .notArmed s :=
  (onChannel_val c _ s).trans (if_pos h)

theorem answerLeakRelease_wrongState (h : s.channels[c].state ≠ .alarm ∨ s.channels[c].dryStreak < s.channels[c].cfg.nC) :
    answerLeakRelease c (some (.leakRelease c.val)) s = refuse .wrongState s :=
  (onChannel_val c _ s).trans ((if_neg (not_not_intro rfl)).trans (if_pos h))

theorem answerLeakRelease_released (h : s.channels[c].state = .alarm) (hd : s.channels[c].cfg.nC ≤ s.channels[c].dryStreak) :
    answerLeakRelease c (some (.leakRelease c.val)) s = ack (releaseChannel c s) :=
  (onChannel_val c _ s).trans ((if_neg (not_not_intro rfl)).trans
    (if_neg fun hb => hb.elim (fun hne => hne h) (Nat.not_lt.mpr hd)))

end

/-- Settles O53. -/
theorem leakRequests : Obligations.LeakRequests := by
  intro s tag n c l g hready hleak hlaw hopen
  have hrelease := fun {n : Nat} {t : State} {a : Answer}
      (h : answerLeakRelease n s.hli.arm (asked ⟨0x33, tag, .leakRelease n⟩ s) = (a, t)) =>
    request_of_answer (kind := 0x33) (tag := tag) (body := .leakRelease n) hready h
  have hset := fun {t : State} {a : Answer} (h : answerSetLeakChannel g (asked ⟨0x32, tag, .setLeakChannel g⟩ s) = (a, t)) =>
    request_of_answer (kind := 0x32) (tag := tag) (body := .setLeakChannel g) hready h
  refine ⟨fun hn => hrelease (onChannel_badIndex hn _ _), fun ha => hrelease (answerLeakRelease_notArmed ha), fun ha hno => ?_,
    fun ha hs hd hl => ?_, fun h => hset (answerSetLeakChannel_badLength h), fun hlen hcount =>
      ⟨fun h => hset (answerSetLeakChannel_badIndex hlen hcount h), fun hc hl ht => ?_⟩⟩
  · refine hrelease ?_
    rw [ha]
    exact answerLeakRelease_wrongState (by exact hno)
  · have hreleased : answerLeakRelease c s.hli.arm (asked ⟨0x33, tag, .leakRelease c⟩ s) =
        ack (releaseChannel c (asked ⟨0x33, tag, .leakRelease c⟩ s)) := by
      rw [ha]
      exact answerLeakRelease_released hs hd
    have hanswer := hrelease hreleased
    obtain ⟨hframe, htable, hfrees⟩ := releaseChannel_outcome (s := asked ⟨0x33, tag, .leakRelease c⟩ s) hleak
      (fun i => (hlaw.1 i).2.2) hopen hl rfl
    generalize releaseChannel c (asked ⟨0x33, tag, .leakRelease c⟩ s) = t at *
    rw [post_asked] at hframe
    exact ⟨_, hanswer, congrArg (replying _ _) hframe, htable, hfrees⟩
  · have hknown := answerSetLeakChannel_known (s := asked ⟨0x32, tag, .setLeakChannel g⟩ s) hlen hcount hc hl ht
    refine ⟨fun hsave => hset (hknown.trans (if_pos (saveInFlight_of_ne _ hsave))), fun hsave ha => ?_, fun hsave ha => ?_⟩
    · exact hset (hknown.trans ((if_neg (Bool.eq_false_iff.mp (saveInFlight_of_none _ hsave))).trans (if_pos ha)))
    · have hanswer := hset (hknown.trans ((if_neg (Bool.eq_false_iff.mp (saveInFlight_of_none _ hsave))).trans (if_neg ha)))
      obtain ⟨hside, hchannels, hleaks⟩ := applyChannelConfig_outcome (s := asked ⟨0x32, tag, .setLeakChannel g⟩ s) hlaw c
        (channelConfigOf l g) rfl
      generalize autoStartTest _ = t at *
      obtain ⟨hframe, hgrants⟩ := withRackOf_channels hside
      have hget := fun d => vector_set_get s.channels c d (configureChannel (channelConfigOf l g) s.channels[c])
      have hold : t.channels[c] = configureChannel (channelConfigOf l g) s.channels[c] := by
        rw [hchannels]
        exact (hget c).trans (if_pos rfl)
      have hother : ∀ d : ChannelId, d ≠ c → t.channels[d] = s.channels[d] := fun d hd => by
        rw [hchannels]
        exact (hget d).trans (if_neg (Ne.symm hd))
      rw [channelClamped_eq] at hanswer
      refine ⟨_, hanswer, congrArg (replying _ _) hframe, hgrants, (congrArg Channel.cfg hold).trans (configureChannel_cfg _ _), hother,
        fun he => ?_, fun he => ?_, hleaks⟩
      · exact (congrArg (fun x : Channel => { x with cfg := s.channels[c].cfg }) hold).trans (configureChannel_off he)
      · exact (congrArg (fun x : Channel => { x with cfg := s.channels[c].cfg }) hold).trans (configureChannel_on he)

end Sys2Proof.Machine
end

section
/-! PROOFS. The notices that budget and sequencer can post (R8, R86 to R88, R114, R117). -/
namespace Sys2Proof.Machine

/-- Budget and sequencer post notices of this kind. -/
def rackKind : NoticeKind → Bool
  | .capacityDeficit | .deficitUnresolved | .shedTray | .runDone | .trayOn => true
  | _ => false

/-- Notices of the other kinds are those of before, and none is lost from the queue. -/
structure RackNotes (s t : State) : Prop where
  records : s.notices.records <+: t.notices.records
  kinds : ∀ k, rackKind k = false → NoneOfKind k s t

theorem RackNotes.refl (s : State) : RackNotes s s := ⟨List.prefix_rfl, fun _ _ => rfl⟩

theorem RackNotes.of_eq {s t : State} (h : t.notices = s.notices) : RackNotes s t :=
  ⟨by rw [h], fun _ _ => by rw [NoneOfKind, h]⟩

theorem RackNotes.trans {s t u : State} (h : RackNotes s t) (k : RackNotes t u) : RackNotes s u :=
  ⟨h.records.trans k.records, fun x hx => (k.kinds x hx).trans (h.kinds x hx)⟩

theorem post_rackNotes {k : NoticeKind} (hk : rackKind k = true) (x v : Option Nat) (s : State) : RackNotes s (post k x v s) :=
  ⟨post_records _ _ _ _, fun _ hq => post_noneOfKind _ _ _ fun e => Bool.false_ne_true (hq.symm.trans (e ▸ hk))⟩

theorem deficitShed_notes (l : List TrayId) (s : State) : RackNotes s (deficitShed l s) := by
  induction l generalizing s with
  | nil => exact .refl s
  | cons i l ih =>
    unfold deficitShed
    split
    · exact .refl s
    · have hput : RackNotes s (putTray i (shedTray s.trays[i]) s) := .of_eq rfl
      exact (hput.trans (post_rackNotes rfl _ _ _)).trans (ih _)

theorem deficitStart_notes (s : State) : RackNotes s (deficitStart s) := by
  have hset : RackNotes s (setDeficit true false s) := .of_eq rfl
  unfold deficitStart
  split
  · exact .refl s
  · exact hset.trans (post_rackNotes rfl _ _ _)

theorem deficitFinish_notes (s : State) : RackNotes s (deficitFinish s) := by
  have hset : RackNotes s (setDeficit true true s) := .of_eq rfl
  unfold deficitFinish
  split
  · exact .of_eq rfl
  · split
    · exact .refl s
    · exact hset.trans (post_rackNotes rfl _ _ _)

theorem Tallied.notes {s t : State} (h : Tallied s t) : RackNotes s t := .of_eq h.notices

theorem evalDeficit_notes (s : State) : RackNotes s (evalDeficit s) := by
  have hdone := ((deficitStart_notes s).trans (deficitShed_notes (deficitCandidates (deficitStart s)) _)).trans (deficitFinish_notes _)
  unfold evalDeficit
  dsimp only
  split
  · exact .refl s
  · split
    · exact (setDeficit_tallied _ _ s).notes
    · exact hdone.trans (recomputeGrants_tallied _).notes

theorem afterBudget_notes (s0 s : State) : RackNotes s (afterBudget s0 s) := by
  have hgrants : RackNotes s (if s.kT = s0.kT then s else recomputeGrants s) := by
    split
    · exact .refl s
    · exact (recomputeGrants_tallied s).notes
  unfold afterBudget
  dsimp only
  split
  · exact hgrants
  · exact hgrants.trans (evalDeficit_notes _)

theorem StartsTaken.notes {s t : State} (h : StartsTaken s t) : RackNotes s t := by
  refine ⟨h.records, fun k hk => h.kinds k ?_ ?_⟩
  · rintro rfl
    exact Bool.false_ne_true hk.symm
  · rintro rfl
    exact Bool.false_ne_true hk.symm

theorem testDownDone_notes (s : State) : RackNotes s (testDownDone s) := by
  by_cases hc : downComplete s = true
  · have hpost := post_rackNotes (k := .runDone) rfl (some 1) (some s.run.stoppedCount) s
    rw [testDownDone_complete hc]
    exact ⟨hpost.records, hpost.kinds⟩
  · rw [testDownDone, if_neg hc]
    exact .refl s

theorem seqAfter_notes (s0 s : State) : RackNotes s (seqAfter s0 s) := by
  unfold seqAfter
  split
  · exact testDownDone_notes s
  · split
    · exact ((evalStart_taken s).trans (testUpDone_taken _)).notes
    · exact (testUpDone_taken s).notes

theorem propagate_notes (s0 s : State) : RackNotes s (propagate s0 s) := (afterBudget_notes s0 s).trans (seqAfter_notes s0 _)

theorem putTrays_notices (l : List TrayId) (f : Tray → Tray) (s : State) : (putTrays l f s).notices = s.notices := by
  rw [putTrays_frame]

theorem leakRecompute_notes (s : State) : RackNotes s (leakRecompute s) :=
  (RackNotes.of_eq (by rw [putTrays_notices, putTrays_notices])).trans (propagate_notes s _)

theorem createUp_notes (scope : Scope) (l : List TrayId) (s : State) : RackNotes s (createUp scope l s) := by
  have hnew : RackNotes s (newUp scope s) := .of_eq rfl
  have hjoin : RackNotes (newUp scope s) (joinAll l (newUp scope s)) := .of_eq (joinAll_joined l (newUp scope s)).notices
  exact (hnew.trans hjoin).trans (evalStart_taken _).notes

theorem autoStartTest_notes (s : State) : RackNotes s (autoStartTest s) := by
  unfold autoStartTest
  split
  · exact createUp_notes _ _ s
  · exact .refl s

end Sys2Proof.Machine
end

section
/-! PROOFS. One sample of a leak channel (R130 to R132). -/
namespace Sys2Proof.Machine

/-! ### The class of a sample -/

theorem sampleClass_iff {r : CableReading} {cls : SampleClass} (h : cls = sampleClass r) :
    (cls = .dry ↔ r = ⟨true, false⟩) ∧ (cls = .wet ↔ r = ⟨true, true⟩) ∧
      (cls = .opened ↔ r = ⟨false, false⟩) ∧ (cls = .crossed ↔ r = ⟨false, true⟩) := by
  subst h
  obtain ⟨a, b⟩ := r
  cases a <;> cases b <;> simp [sampleClass]

/-- The sample is one of a cable fault. -/
def isFault (k : SampleClass) : Bool := k == .opened || k == .crossed

theorem isFault_iff {k : SampleClass} : isFault k = true ↔ k = .opened ∨ k = .crossed := by
  cases k <;> simp [isFault]

/-! ### Its runs -/

theorem updateRuns_eq (k : SampleClass) (x : Channel) :
    updateRuns k x =
      { x with
        samples := min 255 (x.samples + 1)
        dryStreak := if k = .dry then min 255 (x.dryStreak + 1) else 0
        wetRun := if k = .wet then min 255 (x.wetRun + 1) else 0
        faultRun := if k = .opened ∨ k = .crossed then min 255 (x.faultRun + 1) else 0 } := by
  cases k <;> rfl

/-! ### Its state -/

/-- Beside its state a sample can change the transients and the cable flag. -/
theorem evalChannel_frame (k : SampleClass) (x : Channel) :
    { evalChannel k x with state := .dry, transients := 0, cableFlag := false } =
      { x with state := .dry, transients := 0, cableFlag := false } := by
  unfold evalChannel
  split <;> try rfl
  split <;> rfl

theorem evalChannel_runs (k : SampleClass) (x : Channel) :
    (evalChannel k x).wetRun = x.wetRun ∧ (evalChannel k x).faultRun = x.faultRun ∧ (evalChannel k x).dryStreak = x.dryStreak := by
  have h := evalChannel_frame k x
  have hwet := congrArg Channel.wetRun h
  have hfault := congrArg Channel.faultRun h
  have hdry := congrArg Channel.dryStreak h
  exact ⟨hwet, hfault, hdry⟩

theorem evalChannel_transients (k : SampleClass) (x : Channel) :
    (evalChannel k x).transients = if x.state = .suspect ∧ k = .dry then min 65535 (x.transients + 1) else x.transients := by
  unfold evalChannel
  cases hs : x.state <;> cases k <;> simp [countUp]
  all_goals split <;> rfl

theorem evalChannel_cableFlag (k : SampleClass) (x : Channel) :
    (evalChannel k x).cableFlag = (x.cableFlag || (x.state == .alarm && isFault k && decide (x.cfg.nF ≤ x.faultRun))) := by
  unfold evalChannel
  cases hs : x.state <;> cases k <;> simp [isFault]
  all_goals split <;> simp [*]

/-- The state of a channel that was DRY or SUSPECT (R131). -/
theorem evalChannel_watching {k : SampleClass} {x : Channel} (h : x.state = .dry ∨ x.state = .suspect) :
    (evalChannel k x).state =
      if k = .dry then .dry
      else if k = .wet then if x.cfg.nC ≤ x.wetRun then .alarm else .suspect
      else if x.cfg.nF ≤ x.faultRun then .cableFault
      else x.state := by
  rcases h with hs | hs <;> cases k <;> simp [evalChannel, hs, wetState, faultState]

/-- The state of a channel that was in CABLE-FAULT (R131). -/
theorem evalChannel_fault {k : SampleClass} {x : Channel} (hs : x.state = .cableFault) :
    (evalChannel k x).state =
      if k = .dry then if x.cfg.nF ≤ x.dryStreak then .dry else .cableFault
      else if k = .wet then if x.cfg.nC ≤ x.wetRun then .alarm else .suspect
      else .cableFault := by
  cases k <;> simp [evalChannel, hs, wetState]

/-- The flag is raised in ALARM only (R132). -/
theorem sampleChannel_flag {r : CableReading} {x : Channel} (h0 : x.cableFlag = false) (h : (sampleChannel r x).cableFlag = true) :
    x.state = .alarm := by
  rw [sampleChannel, evalChannel_cableFlag, (updateRuns_keeps _ x).2, updateRuns_eq] at h
  dsimp only at h
  rw [h0, Bool.false_or, Bool.and_eq_true, Bool.and_eq_true, beq_iff_eq] at h
  exact h.1.1

/-- What one sample makes of a channel (R130 to R132). -/
theorem sampleChannel_outcome {r : CableReading} {x y : Channel} {cls : SampleClass} (hcls : cls = sampleClass r)
    (hy : y = sampleChannel r x) :
    { y with state := .dry, transients := 0, cableFlag := false } =
        { x with
          state := .dry, transients := 0, cableFlag := false,
          samples := min 255 (x.samples + 1),
          dryStreak := if cls = .dry then min 255 (x.dryStreak + 1) else 0,
          wetRun := if cls = .wet then min 255 (x.wetRun + 1) else 0,
          faultRun := if cls = .opened ∨ cls = .crossed then min 255 (x.faultRun + 1) else 0 } ∧
      y.transients = (if x.state = .suspect ∧ cls = .dry then min 65535 (x.transients + 1) else x.transients) ∧
      y.cableFlag = (x.cableFlag || (x.state == .alarm && (cls == .opened || cls == .crossed) && decide (x.cfg.nF ≤ y.faultRun))) ∧
      (x.state = .alarm → y.state = .alarm) ∧
      (x.state = .dry ∨ x.state = .suspect →
        y.state =
          (if cls = .dry then .dry
           else if cls = .wet then if x.cfg.nC ≤ y.wetRun then .alarm else .suspect
           else if x.cfg.nF ≤ y.faultRun then .cableFault
           else x.state)) ∧
      (x.state = .cableFault →
        y.state =
          (if cls = .dry then if x.cfg.nF ≤ y.dryStreak then .dry else .cableFault
           else if cls = .wet then if x.cfg.nC ≤ y.wetRun then .alarm else .suspect
           else .cableFault)) := by
  obtain ⟨hcfg, hstate⟩ := updateRuns_keeps cls x
  have hframe := (evalChannel_frame cls (updateRuns cls x)).trans
    (congrArg (fun z : Channel => { z with state := .dry, transients := 0, cableFlag := false }) (updateRuns_eq cls x))
  obtain ⟨hwet, hfault, hdry⟩ := evalChannel_runs cls (updateRuns cls x)
  have htransients := evalChannel_transients cls (updateRuns cls x)
  have hflag := evalChannel_cableFlag cls (updateRuns cls x)
  have hwatching := evalChannel_watching (k := cls) (x := updateRuns cls x)
  have hfaulty := evalChannel_fault (k := cls) (x := updateRuns cls x)
  have holdTransients : (updateRuns cls x).transients = x.transients := by rw [updateRuns_eq]
  have holdFlag : (updateRuns cls x).cableFlag = x.cableFlag := by rw [updateRuns_eq]
  rw [hy, sampleChannel, ← hcls]
  rw [hstate, holdTransients] at htransients
  rw [hstate, holdFlag, hcfg, ← hfault] at hflag
  rw [hstate, hcfg, ← hwet, ← hfault] at hwatching
  rw [hstate, hcfg, ← hwet, ← hdry] at hfaulty
  exact ⟨hframe, htransients, hflag, fun h => evalChannel_alarm _ _ (hstate.trans h), hwatching, hfaulty⟩

end Sys2Proof.Machine
end

section
/-! PROOFS. A scan pass (R129 to R135, R139, R140). -/
namespace Sys2Proof.Machine

/-! ### What a scan keeps -/

/-- The notice of a loop's escalation by its second alarm (R134). -/
def escalationNotice (l : LoopId) (time : Nat) : Notice :=
  { kind := .loopEscalated, subject := some l.val, value := some 2, time := time }

theorem NoticeIn.more {n : Notice} {s t : State} (h : NoticeIn n s) (hmore : s.notices.records <+: t.notices.records) : NoticeIn n t :=
  fun hroom => hmore.subset (h (lt_of_le_of_lt hmore.length_le hroom))

/-- What the steps of a scan can do. -/
structure ScanMove (s t : State) : Prop where
  side : RackSide { s with channels := t.channels, loops := t.loops } t
  records : s.notices.records <+: t.notices.records
  drive : ∀ l : LoopId, s.loops[l].drive = true → t.loops[l].drive = true
  escalated : ∀ l : LoopId, s.loops[l].escalated = true → t.loops[l].escalated = true
  raised : ∀ l : LoopId, s.loops[l].escalated = false → t.loops[l].escalated = true → NoticeIn (escalationNotice l s.time) t
  silent : (∀ l : LoopId, t.loops[l].escalated = s.loops[l].escalated) → NoneOfKind .loopEscalated s t

theorem ScanMove.time {s t : State} (h : ScanMove s t) : t.time = s.time := h.side.time

theorem rackSide_channelsLoops {s t u : State} (h : RackSide { s with channels := t.channels, loops := t.loops } t)
    (k : RackSide { t with channels := u.channels, loops := u.loops } u) :
    RackSide { s with channels := u.channels, loops := u.loops } u :=
  RackSide.trans (t := { t with channels := u.channels, loops := u.loops })
    ⟨h.time, h.pins, h.mbc, h.rects, h.bbus, h.capacity, h.floorEff, h.ilc, rfl, rfl, h.stagedScan, h.nextScan, h.test, h.hli,
      h.store, h.params, h.held, h.freeCount, h.pending⟩ k

theorem ScanMove.trans {s t u : State} (h : ScanMove s t) (k : ScanMove t u) : ScanMove s u where
  side := rackSide_channelsLoops h.side k.side
  records := h.records.trans k.records
  drive := fun l hl => k.drive l (h.drive l hl)
  escalated := fun l hl => k.escalated l (h.escalated l hl)
  raised := fun l hs hu => by
    cases ht : t.loops[l].escalated with
    | true => exact (h.raised l hs ht).more k.records
    | false => exact h.time ▸ k.raised l ht hu
  silent := fun hsame => by
    have hmid : ∀ l : LoopId, t.loops[l].escalated = s.loops[l].escalated := fun l => by
      cases hs : s.loops[l].escalated with
      | true => exact h.escalated l hs
      | false => exact Bool.eq_false_iff.mpr fun ht => Bool.false_ne_true ((hs ▸ hsame l).symm.trans (k.escalated l ht))
    exact (k.silent fun l => (hsame l).trans (hmid l).symm).trans (h.silent hmid)

/-- A step that leaves the flags of the loops. -/
theorem ScanMove.of_still {s t : State} (side : RackSide { s with channels := t.channels, loops := t.loops } t)
    (records : s.notices.records <+: t.notices.records)
    (drive : ∀ l : LoopId, s.loops[l].drive = true → t.loops[l].drive = true)
    (escalated : ∀ l : LoopId, t.loops[l].escalated = s.loops[l].escalated) (silent : NoneOfKind .loopEscalated s t) : ScanMove s t :=
  ⟨side, records, drive, fun l hl => (escalated l).trans hl,
    fun l hs ht => absurd ((hs.symm.trans (escalated l).symm).trans ht) Bool.false_ne_true, fun _ => silent⟩

/-- What budget, sequencer and the automatic run do in a scan. -/
theorem ScanMove.of_rack {s t : State} (side : RackSide s t) (notes : RackNotes s t) : ScanMove s t := by
  have hloops := side.loops
  have hframe : ({ s with channels := t.channels, loops := t.loops } : State) = s := by
    rw [side.channels, side.loops]
  exact .of_still (by rw [hframe]; exact side) notes.records (fun l hl => by rw [hloops]; exact hl) (fun l => by rw [hloops])
    (notes.kinds _ rfl)

theorem leakRecompute_scan (s : State) : ScanMove s (leakRecompute s) := .of_rack (.of_side (leakRecompute_side s)) (leakRecompute_notes s)

theorem autoStartTest_scan (s : State) : ScanMove s (autoStartTest s) := .of_rack (autoStartTest_side s) (autoStartTest_notes s)

theorem putChannel_scan (c : ChannelId) (x : Channel) (s : State) : ScanMove s (putChannel c x s) :=
  .of_still (.of_side (.refl _)) List.prefix_rfl (fun _ h => h) (fun _ => rfl) rfl

theorem post_scan {k : NoticeKind} (hk : k ≠ .loopEscalated) (x v : Option Nat) (s : State) : ScanMove s (post k x v s) := by
  have hframe : ({ s with channels := (post k x v s).channels, loops := (post k x v s).loops } : State) = s := by
    rw [post_channels, post_loops]
  refine .of_still ?_ (post_records _ _ _ _) (fun l hl => ?_) (fun l => ?_) (post_noneOfKind _ _ _ (Ne.symm hk))
  · rw [hframe]
    exact .of_side (post_side k x v s)
  · rw [post_loops]
    exact hl
  · rw [post_loops]

/-! ### A valve is closed -/

theorem putLoop_scan {l : LoopId} {x : Loop} {s : State} (he : x.escalated = s.loops[l].escalated)
    (hd : s.loops[l].drive = true → x.drive = true) : ScanMove s (putLoop l x s) := by
  refine .of_still (.of_side (.refl _)) List.prefix_rfl (fun m hm => ?_) (fun m => ?_) rfl
  · rw [putLoop_get]
    split
    · next e =>
      subst e
      exact hd hm
    · exact hm
  · rw [putLoop_get]
    split
    · next e =>
      subst e
      exact he
    · rfl

/-- The loop record as a closing starts (R141). -/
def closingLoop (time : Nat) (x : Loop) : Loop :=
  { x with
    drive := true
    valve := if x.closedSwitch then .closed else .closing
    travel := if x.closedSwitch then none else some time }

/-- The close command moves a valve, or finds it where it is sent (R141). -/
theorem closeCommand_cases (l : LoopId) (s : State) :
    ((s.loops[l].valve = .closed ∨ s.loops[l].valve = .closing) ∧ closeCommand l s = s) ∨
      ∃ u, (u = s ∨ u = post .valveClosed (some l.val) none s) ∧
        closeCommand l s = putLoop l (closingLoop (s.params.valveTravel * 1000) s.loops[l]) u := by
  by_cases hthere : s.loops[l].valve = .closed ∨ s.loops[l].valve = .closing
  · exact Or.inl ⟨hthere, closeCommand_there hthere⟩
  · have hmoves : s.loops[l].valve = .opened ∨ s.loops[l].valve = .opening ∨ s.loops[l].valve = .stuck := by
      cases hv : s.loops[l].valve <;> simp [-Fin.getElem_fin, hv] at hthere ⊢
    refine Or.inr ⟨if s.loops[l].closedSwitch then post .valveClosed (some l.val) none s else s, ?_, ?_⟩
    · split
      · exact Or.inr rfl
      · exact Or.inl rfl
    · have hloops : (if s.loops[l].closedSwitch then post .valveClosed (some l.val) none s else s).loops = s.loops := by
        split
        · exact post_loops _ _ _ _
        · rfl
      rw [closeCommand_moves hmoves, startClosing_eq, putLoop, hloops]
      rfl

/-- What the close command leads to: its drive is asserted, and what the leak monitor's laws ask for holds on. -/
theorem closeCommand_outcome {l : LoopId} {s : State} (hleak : LeakLaw s) (hdrive : ∀ m : LoopId, driveLaw s.loops[m]) {t : State}
    (ht : t = closeCommand l s) :
    ScanMove s t ∧ LeakLaw t ∧ (∀ m : LoopId, driveLaw t.loops[m]) ∧ t.loops[l].drive = true ∧ t.channels = s.channels := by
  rcases closeCommand_cases l s with ⟨hthere, hsame⟩ | ⟨u, hu, hmoves⟩
  · rw [ht, hsame]
    refine ⟨.of_rack (.of_side (.refl s)) (.refl s), hleak, hdrive, (hdrive l).1 hthere.symm, rfl⟩
  · have hstill : ScanMove s u ∧ u.loops = s.loops ∧ u.channels = s.channels ∧ u.trays = s.trays := by
      rcases hu with rfl | rfl
      · exact ⟨.of_rack (.of_side (.refl u)) (.refl u), rfl, rfl, rfl⟩
      · exact ⟨post_scan NoticeKind.noConfusion _ _ s, post_loops _ _ _ _, post_channels _ _ _ _, post_trays _ _ _ _⟩
    obtain ⟨hmove, hloops, hchannels, htrays⟩ := hstill
    have hget : ∀ m : LoopId, t.loops[m] = if l = m then closingLoop (s.params.valveTravel * 1000) s.loops[l] else s.loops[m] :=
      fun m => by rw [ht, hmoves, putLoop_get, hloops]
    have hc : t.channels = s.channels := by rw [ht, hmoves]; exact hchannels
    have hput : ScanMove u t := by
      rw [ht, hmoves]
      exact putLoop_scan (by rw [hloops]; rfl) fun _ => rfl
    have halike : LeakAlike s t := ⟨fun c => by rw [hc]; exact .refl _, fun m => by
      rw [hget]
      split
      · next e => subst e; rfl
      · rfl⟩
    have ht' : t.trays = s.trays := by rw [ht, hmoves]; exact htrays
    refine ⟨hmove.trans hput, halike.leakLaw (fun i => by rw [ht']) hleak, fun m => ?_, by rw [hget, if_pos rfl]; rfl, hc⟩
    rw [hget]
    split
    · refine ⟨fun _ => rfl, fun h => ?_⟩
      unfold closingLoop at h
      dsimp only at h
      split at h <;> rcases h with h | h <;> cases h
    · exact hdrive m

/-! ### An escalation -/

/-- One channel more in ALARM: the loop's alarms rise by one at most (R134). -/
theorem alarmsIn_step {s t : State} {c : ChannelId} (h : ∀ d : ChannelId, d ≠ c → t.channels[d] = s.channels[d]) (l : LoopId) :
    alarmsIn t l ≤ alarmsIn s l + 1 := by
  have hsplit : ∀ u : State, alarmsIn u l =
      (if alarmOf u l c = true then 1 else 0) + ((allChannels.erase c).filter (alarmOf u l)).length := fun u => by
    rw [alarmsIn_eq, (((List.perm_cons_erase (mem_allChannels c)).filter (alarmOf u l)).length_eq), List.filter_cons]
    split
    · rw [List.length_cons, Nat.add_comm]
    · rw [Nat.zero_add]
  have hrest : (allChannels.erase c).filter (alarmOf t l) = (allChannels.erase c).filter (alarmOf s l) :=
    List.filter_congr fun d hd => by
      have hne : d ≠ c := fun e => ((List.nodup_finRange 12).mem_erase_iff.mp (e ▸ hd)).1 rfl
      rw [alarmOf, alarmOf, h d hne]
  rw [hsplit t, hsplit s, hrest]
  split <;> split <;> omega

/-- The evaluation of an escalation after the loop's alarms rose from at most one (R134). -/
theorem evalEscalation_scan {l : LoopId} {s : State} (hkeeps : s.loops[l].escalated = true → 2 ≤ alarmsIn s l)
    (hsecond : s.loops[l].escalated = false → alarmsIn s l ≤ 2) : ScanMove s (evalEscalation l s) := by
  unfold evalEscalation
  dsimp only
  split
  · next he =>
    rw [if_neg (Nat.not_lt.mpr (hkeeps he))]
    exact .of_rack (.of_side (.refl s)) (.refl s)
  · next he =>
    have he' := Bool.eq_false_iff.mpr he
    split
    · next hn =>
      have htwo : alarmsIn s l = 2 := Nat.le_antisymm (hsecond he') hn
      have hnext : NoticeNext (escalationNotice l s.time) s
          (post .loopEscalated (some l.val) (some 2) (putLoop l { s.loops[l] with escalated := true } s)) :=
        noticeNext_post (by rfl) (by rfl)
      have hside : RackSide (putLoop l { s.loops[l] with escalated := true } s)
          (post .loopEscalated (some l.val) (some 2) (putLoop l { s.loops[l] with escalated := true } s)) := .of_side (post_side _ _ _ _)
      have hget : ∀ m : LoopId, (post .loopEscalated (some l.val) (some 2) (putLoop l { s.loops[l] with escalated := true } s)).loops[m] =
          if l = m then { s.loops[l] with escalated := true } else s.loops[m] := fun m => by
        rw [post_loop_get, putLoop_get]
      have hframe : RackSide { s with
          channels := (post .loopEscalated (some l.val) (some 2) (putLoop l { s.loops[l] with escalated := true } s)).channels
          loops := (post .loopEscalated (some l.val) (some 2) (putLoop l { s.loops[l] with escalated := true } s)).loops }
          (post .loopEscalated (some l.val) (some 2) (putLoop l { s.loops[l] with escalated := true } s)) := by
        rw [post_channels, post_loops]
        exact hside
      have hrecords := post_records .loopEscalated (some l.val) (some 2) (putLoop l { s.loops[l] with escalated := true } s)
      rw [htwo]
      generalize post .loopEscalated (some l.val) (some 2) (putLoop l { s.loops[l] with escalated := true } s) = t at *
      refine ⟨hframe, hrecords, fun m hm => ?_, fun m hm => ?_, fun m hs hm => ?_, fun hsame => ?_⟩
      · rw [hget]
        split
        · next e => subst e; exact hm
        · exact hm
      · rw [hget]
        split
        · rfl
        · exact hm
      · rw [hget] at hm
        split at hm
        · next e =>
          subst e
          exact .of_next hnext hrecords
        · exact absurd (hs.symm.trans hm) Bool.false_ne_true
      · have hl := hsame l
        rw [hget, if_pos rfl, he'] at hl
        exact absurd hl.symm Bool.false_ne_true
    · exact .of_rack (.of_side (.refl s)) (.refl s)

end Sys2Proof.Machine
end

section
/-! PROOFS. A scan pass, settled (R129 to R135, R139, R140). -/
namespace Sys2Proof.Machine

/-! ### One channel's sample -/

/-- The three notices that a sample which makes the channel's record `new` from `old` can call for (R131 to R133). -/
def Announced (P : Notice → Prop) (c : ChannelId) (time : Nat) (old new : Channel) : Prop :=
  (old.state ≠ .alarm → new.state = .alarm →
    P { kind := .leakAlarm, subject := some c.val, value := some old.cfg.loop.val, time := time }) ∧
  (old.state ≠ .cableFault → new.state = .cableFault →
    P { kind := .leakCableFault, subject := some c.val, value := some 0, time := time }) ∧
  (old.cableFlag = false → new.cableFlag = true →
    P { kind := .leakCableFault, subject := some c.val, value := some 1, time := time })

theorem Announced.imp {P Q : Notice → Prop} {c : ChannelId} {time : Nat} {old new : Channel} (h : Announced P c time old new)
    (hpq : ∀ n, P n → Q n) : Announced Q c time old new := by
  obtain ⟨ha, hf, hc⟩ := h
  exact ⟨fun h0 h1 => hpq _ (ha h0 h1), fun h0 h1 => hpq _ (hf h0 h1), fun h0 h1 => hpq _ (hc h0 h1)⟩

/-- What a sample that makes the channel's record `new` leads to. -/
structure SampleTaken (c : ChannelId) (new : Channel) (s t : State) : Prop where
  move : ScanMove s t
  leak : LeakLaw t
  drives : ∀ l : LoopId, driveLaw t.loops[l]
  channels : t.channels = s.channels.set c new
  closes : s.channels[c].state ≠ .alarm → new.state = .alarm → s.channels[c].cfg.closeValve = true →
    t.loops[s.channels[c].cfg.loop].drive = true
  notices : Announced (fun n => NoticeNext n s t) c s.time s.channels[c] new

theorem evalEscalation_notes (l : LoopId) (s : State) : s.notices.records <+: (evalEscalation l s).notices.records := by
  unfold evalEscalation
  dsimp only
  split
  · split
    · exact List.prefix_rfl
    · exact List.prefix_rfl
  · split
    · exact post_records _ _ _ (putLoop l { s.loops[l] with escalated := true } s)
    · exact List.prefix_rfl

section
variable {c : ChannelId} {x : Channel} {s : State} (hcfg : x.cfg = s.channels[c].cfg)
include hcfg

theorem putChannel_more_alarms (hx : x.state = .alarm) (l : LoopId) : alarmsIn s l ≤ alarmsIn (putChannel c x s) l := by
  rw [alarmsIn_eq, alarmsIn_eq]
  refine (List.monotone_filter_right allChannels fun d hd => ?_).length_le
  rw [alarmOf, putChannel_get]
  split
  · next e =>
    subst e
    rw [alarmOf, Bool.and_eq_true] at hd
    rw [hx, hcfg, Bool.and_eq_true]
    exact ⟨rfl, hd.2⟩
  · exact hd

variable (hleak : LeakLaw s)
include hleak

/-- The escalation of the loop of a channel that has entered ALARM (R133, R134). -/
theorem raised_scan (hx : x.state = .alarm) :
    ScanMove s (leakRecompute (evalEscalation s.channels[c].cfg.loop
      (post .leakAlarm (some c.val) (some s.channels[c].cfg.loop.val) (putChannel c x s)))) := by
  have hmore := putChannel_more_alarms hcfg hx s.channels[c].cfg.loop
  have hstep := alarmsIn_step (s := s) (t := putChannel c x s) (c := c)
    (fun d hd => (putChannel_get c d x s).trans (if_neg (Ne.symm hd))) s.channels[c].cfg.loop
  have hlaw := hleak.1 s.channels[c].cfg.loop
  have hpost : ScanMove s (post .leakAlarm (some c.val) (some s.channels[c].cfg.loop.val) (putChannel c x s)) :=
    (putChannel_scan c x s).trans (post_scan NoticeKind.noConfusion _ _ _)
  have hcount : ∀ l, alarmsIn (post .leakAlarm (some c.val) (some s.channels[c].cfg.loop.val) (putChannel c x s)) l =
      alarmsIn (putChannel c x s) l := fun l => alarmsIn_congr (post_channels _ _ _ _) l
  have hesc : ∀ l : LoopId, (post .leakAlarm (some c.val) (some s.channels[c].cfg.loop.val) (putChannel c x s)).loops[l] = s.loops[l] :=
    fun l => post_loop_get _ _ _ _ l
  refine (hpost.trans (evalEscalation_scan (fun he => ?_) fun he => ?_)).trans (leakRecompute_scan _)
  · rw [hesc, hlaw, decide_eq_true_iff] at he
    rw [hcount]
    exact he.trans hmore
  · rw [hesc, hlaw, decide_eq_false_iff_not] at he
    rw [hcount]
    omega

variable (hdrive : ∀ l : LoopId, driveLaw s.loops[l])
include hdrive

/-- An entry to ALARM (R133). -/
theorem raiseAlarm_taken (hx : x.state = .alarm) (hen : x.cfg.enabled = true)
    (hflag : s.channels[c].cableFlag = false → x.cableFlag = false) : SampleTaken c x s (raiseAlarm c (putChannel c x s)) := by
  have hself : (putChannel c x s).channels[c].cfg = s.channels[c].cfg := by rw [putChannel_get, if_pos rfl, hcfg]
  have hscan := raised_scan hcfg hleak hx
  have hnext : NoticeNext { kind := .leakAlarm, subject := some c.val, value := some s.channels[c].cfg.loop.val, time := s.time } s
      (post .leakAlarm (some c.val) (some s.channels[c].cfg.loop.val) (putChannel c x s)) := noticeNext_post (by rfl) (by rfl)
  have hlaw := reevaluated_leakLaw c x s (by rw [hcfg]) (by rw [hx, hen]; decide) hleak
    (u := post .leakAlarm (some c.val) (some s.channels[c].cfg.loop.val) (putChannel c x s)) ⟨post_channels _ _ _ _, post_loops _ _ _ _⟩
  have hmore := ((evalEscalation_notes s.channels[c].cfg.loop (post .leakAlarm (some c.val) (some s.channels[c].cfg.loop.val)
    (putChannel c x s)))).trans (leakRecompute_notes (evalEscalation s.channels[c].cfg.loop
      (post .leakAlarm (some c.val) (some s.channels[c].cfg.loop.val) (putChannel c x s)))).records
  have hside := leakRecompute_side (evalEscalation s.channels[c].cfg.loop
    (post .leakAlarm (some c.val) (some s.channels[c].cfg.loop.val) (putChannel c x s)))
  have hdrives : ∀ l : LoopId, driveLaw (evalEscalation s.channels[c].cfg.loop
      (post .leakAlarm (some c.val) (some s.channels[c].cfg.loop.val) (putChannel c x s))).loops[l] :=
    evalEscalation_drives _ _ fun l => by
      rw [post_loop_get]
      exact hdrive l
  rw [← hside.loops] at hdrives
  have hchannels := hside.channels.trans ((evalEscalation_still _ _).1.trans (post_channels _ _ _ (putChannel c x s)))
  rw [raiseAlarm_eq c _ _ _ hself rfl]
  generalize leakRecompute (evalEscalation s.channels[c].cfg.loop
    (post .leakAlarm (some c.val) (some s.channels[c].cfg.loop.val) (putChannel c x s))) = v at *
  generalize post .leakAlarm (some c.val) (some s.channels[c].cfg.loop.val) (putChannel c x s) = p at *
  have hnotices : ∀ t, v.notices.records <+: t.notices.records → Announced (fun n => NoticeNext n s t) c s.time s.channels[c] x := by
    intro t ht
    refine ⟨fun _ _ => (hnext.then_more hmore).then_more ht, fun _ h => ?_, fun h0 h1 => ?_⟩
    · exact absurd (hx.symm.trans h) ChannelState.noConfusion
    · exact absurd ((hflag h0).symm.trans h1) Bool.false_ne_true
  split
  · obtain ⟨hmove, hleak', hdrives', hclosed, hch⟩ := closeCommand_outcome hlaw hdrives (l := s.channels[c].cfg.loop) rfl
    exact ⟨hscan.trans hmove, hleak', hdrives', hch.trans hchannels, fun _ _ _ => hclosed, hnotices _ hmove.records⟩
  · next hno =>
    exact ⟨hscan, hlaw, hdrives, hchannels, fun _ _ hclose => absurd (Bool.or_eq_true_iff.mpr (Or.inl hclose)) hno, hnotices v List.prefix_rfl⟩

/-- A sample that raises no alarm. -/
theorem quiet_taken {t : State} (halarm : x.state = .alarm ↔ s.channels[c].state = .alarm)
    (hdis : x.state = .disabled ↔ s.channels[c].state = .disabled)
    (ht : TraySideOnly (putChannel c x s) t) (htrays : t.trays = s.trays) (hrecords : s.notices.records <+: t.notices.records)
    (hkind : NoneOfKind .loopEscalated s t) (hnotices : Announced (fun n => NoticeNext n s t) c s.time s.channels[c] x) :
    SampleTaken c x s t := by
  have hchannels : t.channels = s.channels.set c x := ht.channels
  have hloops : t.loops = s.loops := ht.loops
  have hframe : ({ s with channels := t.channels, loops := t.loops } : State) = putChannel c x s := by
    rw [hchannels, hloops]
    rfl
  have hget : ∀ d : ChannelId, t.channels[d] = if c = d then x else s.channels[d] := fun d => by
    rw [hchannels]
    exact vector_set_get _ _ _ _
  have halike : LeakAlike s t := ⟨fun d => by
    rw [hget]
    split
    · next e =>
      subst e
      exact ⟨hcfg, halarm, hdis⟩
    · exact .refl _, fun l => by rw [hloops]⟩
  refine ⟨.of_still (by rw [hframe]; exact .of_side ht) hrecords (fun l hl => by rw [hloops]; exact hl) (fun l => by rw [hloops]) hkind,
    halike.leakLaw (fun i => by rw [htrays]) hleak, fun l => by rw [hloops]; exact hdrive l, hchannels,
    fun h0 h1 => absurd (halarm.mp h1) h0, hnotices⟩

end

/-- The automatic run after a sample. -/
theorem SampleTaken.autoStart {c : ChannelId} {x : Channel} {s t : State} (h : SampleTaken c x s t) :
    SampleTaken c x s (autoStartTest t) := by
  have hmove := autoStartTest_scan t
  have hside := autoStartTest_side t
  have hnotes := autoStartTest_notes t
  have hleak := autoStartTest_leak t
  generalize autoStartTest t = u at *
  have hloops : u.loops = t.loops := hside.loops
  have hchannels : u.channels = t.channels := hside.channels
  have halike : LeakAlike t u := (LeakStill.of_eq hchannels hloops).alike
  exact ⟨h.move.trans hmove, halike.leakLaw hleak h.leak, fun l => by rw [hloops]; exact h.drives l, hchannels.trans h.channels,
    fun h0 h1 hc => by rw [hloops]; exact h.closes h0 h1 hc, h.notices.imp fun n hn => NoticeNext.then_more hn hnotes.records⟩

/-- What follows the sample of an enabled channel (R131 to R133). -/
theorem afterSample_taken {c : ChannelId} {s : State} (hleak : LeakLaw s) (hdrive : ∀ l : LoopId, driveLaw s.loops[l]) (r : CableReading)
    (hen : s.channels[c].cfg.enabled = true) :
    SampleTaken c (sampleChannel r s.channels[c]) s
      (afterSample c s.channels[c] (sampleChannel r s.channels[c]) (putChannel c (sampleChannel r s.channels[c]) s)) := by
  have hcfg := sampleChannel_cfg r s.channels[c]
  have hdis := sampleChannel_disabled r s.channels[c]
  have hstays := sampleChannel_alarm r s.channels[c]
  have hflag := sampleChannel_flag (r := r) (x := s.channels[c])
  generalize sampleChannel r s.channels[c] = x at *
  have hpost : ∀ v, TraySideOnly (putChannel c x s) (post .leakCableFault (some c.val) v (putChannel c x s)) := fun v => post_side _ _ _ _
  have hrecords : ∀ v, s.notices.records <+: (post .leakCableFault (some c.val) v (putChannel c x s)).notices.records :=
    fun v => post_records _ _ _ (putChannel c x s)
  have hkind : ∀ v, NoneOfKind .loopEscalated s (post .leakCableFault (some c.val) v (putChannel c x s)) :=
    fun v => post_noneOfKind _ _ (putChannel c x s) NoticeKind.noConfusion
  have hnext : ∀ v, NoticeNext { kind := .leakCableFault, subject := some c.val, value := v, time := s.time } s
      (post .leakCableFault (some c.val) v (putChannel c x s)) := fun v => noticeNext_post (by rfl) (by rfl)
  unfold afterSample
  split
  · next hnew =>
    refine raiseAlarm_taken hcfg hleak hdrive hnew.1 (hcfg ▸ hen) fun h0 => Bool.eq_false_iff.mpr fun h1 => ?_
    exact hnew.2 (hflag h0 h1)
  · next hnew =>
    have halarm : x.state = .alarm ↔ s.channels[c].state = .alarm :=
      ⟨fun h => Decidable.not_not.mp fun hne => hnew ⟨h, hne⟩, hstays⟩
    split
    · next hf =>
      refine quiet_taken hcfg hleak hdrive halarm hdis (hpost _) (post_trays _ _ _ _) (hrecords _) (hkind _)
        ⟨fun h0 h1 => absurd (halarm.mp h1) h0, fun _ _ => hnext _, fun h0 h1 => ?_⟩
      exact absurd (hf.1.symm.trans (halarm.mpr (hflag h0 h1))) ChannelState.noConfusion
    · next hf =>
      split
      · exact quiet_taken hcfg hleak hdrive halarm hdis (hpost _) (post_trays _ _ _ _) (hrecords _) (hkind _)
          ⟨fun h0 h1 => absurd (halarm.mp h1) h0, fun h0 h1 => absurd ⟨h1, h0⟩ hf, fun _ _ => hnext _⟩
      · next hc =>
        refine quiet_taken hcfg hleak hdrive halarm hdis (.refl _) rfl List.prefix_rfl rfl
          ⟨fun h0 h1 => absurd (halarm.mp h1) h0, fun h0 h1 => absurd ⟨h1, h0⟩ hf, fun h0 h1 => absurd ?_ hc⟩
        rw [h0, h1]
        rfl

end Sys2Proof.Machine
end

section
/-! PROOFS. The channels of a scan pass, one after the other (R129). -/
namespace Sys2Proof.Machine

theorem takeSample_disabled {readings : Vector CableReading 12} {c : ChannelId} {s : State} (h : s.channels[c].cfg.enabled = false) :
    takeSample readings c s = s := if_neg (Bool.eq_false_iff.mp h)

theorem takeSample_taken (readings : Vector CableReading 12) {c : ChannelId} {s : State} (hleak : LeakLaw s)
    (hdrive : ∀ l : LoopId, driveLaw s.loops[l]) (hen : s.channels[c].cfg.enabled = true) :
    SampleTaken c (sampleChannel readings[c] s.channels[c]) s (takeSample readings c s) := by
  have htaken := (afterSample_taken hleak hdrive readings[c] hen).autoStart
  unfold takeSample
  dsimp only
  rw [if_pos hen]
  exact htaken

/-- The channel record after a scan pass (R129). -/
def scanned (readings : Vector CableReading 12) (s : State) (c : ChannelId) : Channel :=
  if s.channels[c].cfg.enabled then sampleChannel readings[c] s.channels[c] else s.channels[c]

/-- What a pass over the channels of `l` leads to. -/
structure Scanned (readings : Vector CableReading 12) (l : List ChannelId) (s t : State) : Prop where
  move : ScanMove s t
  leak : LeakLaw t
  channels : ∀ d : ChannelId, t.channels[d] = if d ∈ l then scanned readings s d else s.channels[d]
  closes : ∀ d ∈ l, ∀ k : LoopId, s.channels[d].state ≠ .alarm → t.channels[d].state = .alarm →
    s.channels[d].cfg.closeValve = true → s.channels[d].cfg.loop = k → t.loops[k].drive = true
  notices : ∀ d ∈ l, Announced (fun n => NoticeIn n t) d s.time s.channels[d] t.channels[d]

/-- A record that stays calls for no notice. -/
theorem announced_same (P : Notice → Prop) (c : ChannelId) (time : Nat) (x : Channel) : Announced P c time x x :=
  ⟨fun h0 h1 => absurd h1 h0, fun h0 h1 => absurd h1 h0, fun h0 h1 => absurd (h0.symm.trans h1) Bool.false_ne_true⟩

theorem scan_scanned (readings : Vector CableReading 12) {l : List ChannelId} (hl : l.Nodup) {s : State} (hleak : LeakLaw s)
    (hdrive : ∀ k : LoopId, driveLaw s.loops[k]) :
    Scanned readings l s (l.foldl (fun s c => takeSample readings c s) s) := by
  induction l generalizing s with
  | nil =>
    exact ⟨.of_rack (.of_side (.refl s)) (.refl s), hleak, fun d => (if_neg List.not_mem_nil).symm,
      fun d hd => absurd hd List.not_mem_nil, fun d hd => absurd hd List.not_mem_nil⟩
  | cons c l ih =>
    obtain ⟨hc, hl⟩ := List.nodup_cons.mp hl
    rw [List.foldl_cons]
    cases hen : s.channels[c].cfg.enabled with
    | false =>
      rw [takeSample_disabled hen]
      have hrest := ih hl hleak hdrive
      have hself : (l.foldl (fun s c => takeSample readings c s) s).channels[c] = s.channels[c] := (hrest.channels c).trans (if_neg hc)
      generalize l.foldl (fun s c => takeSample readings c s) s = t at *
      refine ⟨hrest.move, hrest.leak, fun d => ?_, fun d hd k h0 h1 => ?_, fun d hd => ?_⟩
      · by_cases hdc : d = c
        · subst hdc
          rw [if_pos List.mem_cons_self, hself, scanned, if_neg (Bool.eq_false_iff.mp hen)]
        · rw [hrest.channels d]
          simp only [List.mem_cons, hdc, false_or]
      · rcases List.mem_cons.mp hd with hd | hd
        · subst hd
          exact absurd (hself ▸ h1) h0
        · exact hrest.closes d hd k h0 h1
      · rcases List.mem_cons.mp hd with hd | hd
        · subst hd
          rw [hself]
          exact announced_same _ _ _ _
        · exact hrest.notices d hd
    | true =>
      have hone := takeSample_taken readings hleak hdrive hen
      generalize takeSample readings c s = u at *
      have hget : ∀ d : ChannelId, u.channels[d] = if c = d then sampleChannel readings[c] s.channels[c] else s.channels[d] := fun d => by
        rw [hone.channels]
        exact vector_set_get _ _ _ _
      have hother : ∀ d : ChannelId, d ≠ c → u.channels[d] = s.channels[d] := fun d hd => (hget d).trans (if_neg (Ne.symm hd))
      have hrest := ih hl hone.leak hone.drives
      have hself : (l.foldl (fun s c => takeSample readings c s) u).channels[c] = sampleChannel readings[c] s.channels[c] :=
        (hrest.channels c).trans ((if_neg hc).trans ((hget c).trans (if_pos rfl)))
      generalize l.foldl (fun s c => takeSample readings c s) u = t at *
      refine ⟨hone.move.trans hrest.move, hrest.leak, fun d => ?_, fun d hd k h0 h1 hv hk => ?_, fun d hd => ?_⟩
      · by_cases hdc : d = c
        · subst hdc
          rw [if_pos List.mem_cons_self, hself, scanned, if_pos hen]
        · rw [hrest.channels d]
          simp only [List.mem_cons, hdc, false_or, scanned, hother d hdc]
      · rcases List.mem_cons.mp hd with hd | hd
        · subst hd hk
          exact hrest.move.drive _ (hone.closes h0 (hself ▸ h1) hv)
        · have hdc : d ≠ c := fun e => hc (e ▸ hd)
          rw [← hother d hdc] at h0 hv hk
          exact hrest.closes d hd k h0 h1 hv hk
      · rcases List.mem_cons.mp hd with hd | hd
        · subst hd
          rw [hself]
          exact hone.notices.imp fun n hn => NoticeIn.of_next hn hone.move.records |>.more hrest.move.records
        · have hdc : d ≠ c := fun e => hc (e ▸ hd)
          have hnotices := hrest.notices d hd
          rw [hother d hdc, hone.move.time] at hnotices
          exact hnotices

theorem scan_none (readings : Vector CableReading 12) {l : List ChannelId} {s : State}
    (h : ∀ d ∈ l, s.channels[d].cfg.enabled = false) : l.foldl (fun s c => takeSample readings c s) s = s := by
  induction l with
  | nil => rfl
  | cons c l ih =>
    rw [List.foldl_cons, takeSample_disabled (h c List.mem_cons_self)]
    exact ih fun d hd => h d (List.mem_cons_of_mem c hd)

/-- Where one channel alone is enabled, a pass is its sample. -/
theorem scan_alone (readings : Vector CableReading 12) {l : List ChannelId} (hl : l.Nodup) {c : ChannelId} (hc : c ∈ l) {s : State}
    (halone : ∀ d : ChannelId, d ≠ c → s.channels[d].cfg.enabled = false)
    (hkeeps : ∀ d : ChannelId, d ≠ c → (takeSample readings c s).channels[d] = s.channels[d]) :
    l.foldl (fun s c => takeSample readings c s) s = takeSample readings c s := by
  induction l with
  | nil => exact absurd hc List.not_mem_nil
  | cons x l ih =>
    obtain ⟨hx, hl⟩ := List.nodup_cons.mp hl
    rw [List.foldl_cons]
    by_cases hxc : x = c
    · subst hxc
      refine scan_none readings fun d hd => ?_
      have hne : d ≠ x := fun e => hx (e ▸ hd)
      rw [hkeeps d hne]
      exact halone d hne
    · rw [takeSample_disabled (halone x hxc)]
      exact ih hl ((List.mem_cons.mp hc).resolve_left fun e => hxc e.symm)

/-! ### The obligation -/

theorem allChannels_nodup : allChannels.Nodup := List.nodup_finRange 12

theorem scan_of_due (readings : Vector CableReading 12) {s : State} (hleak : LeakLaw s) (hdrive : ∀ k : LoopId, driveLaw s.loops[k]) :
    Scanned readings allChannels (scanDue s) (scan readings s) := scan_scanned readings allChannels_nodup (s := scanDue s) hleak hdrive

/-- The notices of the one channel that is enabled come first (R131 to R133). -/
theorem scan_alone_notices (readings : Vector CableReading 12) {s : State} (hleak : LeakLaw s) (hdrive : ∀ k : LoopId, driveLaw s.loops[k])
    {c : ChannelId} (hen : s.channels[c].cfg.enabled = true) (halone : ∀ d : ChannelId, d ≠ c → s.channels[d].cfg.enabled = false) :
    Announced (fun n => NoticeNext n s (scan readings s)) c s.time s.channels[c] (sampleChannel readings[c] s.channels[c]) := by
  have htaken := takeSample_taken (s := scanDue s) readings hleak hdrive hen
  have hscan := scan_alone (s := scanDue s) readings allChannels_nodup (mem_allChannels c) halone fun d hd => by
    rw [htaken.channels]
    exact (vector_set_get _ _ _ _).trans (if_neg (Ne.symm hd))
  rw [scan_eq, hscan]
  exact htaken.notices

/-- A channel that is in ALARM after the pass and isolates has its trays locked out (R135). -/
theorem leak_of_alarm {t : State} (hleak : LeakLaw t) {c : ChannelId} (ha : t.channels[c].state = .alarm)
    (hi : t.channels[c].cfg.isolate = true) {i : TrayId} (hm : i ∈ t.channels[c].cfg.trays) : t.trays[i].locks.leak = true := by
  rw [hleak.2.2 i]
  exact (mustLeak_iff t i).mpr ⟨c, hm, Or.inl ⟨ha, hi⟩⟩

/-- Settles O52. -/
theorem scanPass : Obligations.ScanPass := by
  intro s readings c cls hfree hleak hvalve hcls
  have hdrive : ∀ k : LoopId, driveLaw s.loops[k] := ((valveLaw_iff s).mp hvalve).1
  have hscan := scan_of_due readings hleak hdrive
  have halone := fun hen => scan_alone_notices (c := c) readings hleak hdrive hen
  have hframe := hscan.move.side.eq_withRackOf
  refine ⟨scan readings s, awake_free (scan readings) hfree, ?_⟩
  generalize scan readings s = t at *
  have hchannel : t.channels[c] = scanned readings s c := (hscan.channels c).trans (if_pos (mem_allChannels c))
  refine ⟨hframe, hscan.move.side.grantsOnly, fun l => ⟨hscan.leak.1 l, hscan.move.raised l⟩, hscan.move.silent, fun hen => ?_, fun hen => ?_⟩
  · rw [hchannel, scanned, if_neg (Bool.eq_false_iff.mp hen)]
  · have hnew : t.channels[c] = sampleChannel readings[c] s.channels[c] := hchannel.trans (if_pos hen)
    have hcfg : t.channels[c].cfg = s.channels[c].cfg := by rw [hnew, sampleChannel_cfg]
    obtain ⟨hdry, hwet, hopened, hcrossed⟩ := sampleClass_iff hcls
    obtain ⟨hruns, htransients, hflag, halarm, hwatching, hfault⟩ := sampleChannel_outcome hcls hnew
    have hnotices := hscan.notices c (mem_allChannels c)
    have hfirst := halone hen
    have hcloses := hscan.closes c (mem_allChannels c) s.channels[c].cfg.loop
    rw [← hnew] at hfirst
    refine ⟨hdry, hwet, hopened, hcrossed, hruns, htransients, hflag, halarm, hwatching, hfault,
      fun ha hi i hm => leak_of_alarm hscan.leak ha (by rw [hcfg]; exact hi) (by rw [hcfg]; exact hm), fun ha hv => ?_, hnotices.1, hnotices.2.1,
      hnotices.2.2, hfirst⟩
    by_cases h0 : s.channels[c].state = .alarm
    · exact hscan.move.drive _ ((hvalve _).2.2 ((requiredClosed_iff_alarm s _).mpr (Or.inr ⟨c, h0, rfl, hv⟩)))
    · exact hcloses h0 ha hv rfl

end Sys2Proof.Machine
end

section
/-! PROOFS. Stages and exhaustion: sets of trays shed outside NORMAL (R16, R96 to R99). -/
namespace Sys2Proof.Machine

/-! ### What follows outside NORMAL -/

/-- What budget and sequencer can do outside NORMAL: no tray changes, no grant is given, and one notice at most is posted. -/
structure Outside (s t : State) : Prop where
  side : TraySideOnly s t
  trays : t.trays = s.trays
  notes : RackNotes s t
  length : t.notices.records.length ≤ s.notices.records.length + 1
  grants : (∀ b : BbuId, s.bbus[b].grant = 0) → ∀ b : BbuId, t.bbus[b].grant = 0

/-- The same without any notice. -/
structure Unheard (s t : State) : Prop where
  side : TraySideOnly s t
  trays : t.trays = s.trays
  notices : t.notices = s.notices
  grants : (∀ b : BbuId, s.bbus[b].grant = 0) → ∀ b : BbuId, t.bbus[b].grant = 0

theorem Unheard.refl (s : State) : Unheard s s := ⟨.refl s, rfl, rfl, fun h => h⟩

theorem Unheard.run (s : State) (r : RunRecord) : Unheard s { s with run := r } := ⟨run_side s r, rfl, rfl, fun h => h⟩

theorem Unheard.then {s t u : State} (h : Unheard s t) (k : Outside t u) : Outside s u where
  side := h.side.trans k.side
  trays := k.trays.trans h.trays
  notes := (RackNotes.of_eq h.notices).trans k.notes
  length := by rw [← h.notices]; exact k.length
  grants := fun hs => k.grants (h.grants hs)

theorem Unheard.outside {s t : State} (h : Unheard s t) : Outside s t :=
  ⟨h.side, h.trays, .of_eq h.notices, by rw [h.notices]; exact Nat.le_succ _, h.grants⟩

theorem post_length (k : NoticeKind) (x v : Option Nat) (s : State) :
    (post k x v s).notices.records.length ≤ s.notices.records.length + 1 := by
  unfold post
  split
  · rw [List.length_append]
    exact Nat.le_refl _
  · exact Nat.le_succ _

theorem testUpDone_outside (s : State) : Outside s (testUpDone s) := by
  by_cases hc : upComplete s = true
  · have hside := testUpDone_side s
    have hnotes := (testUpDone_taken s).notes
    rw [testUpDone_complete hc] at hside hnotes ⊢
    exact ⟨hside, post_trays _ _ _ _, hnotes, post_length _ _ _ _, fun h b => by rw [post_bbus]; exact h b⟩
  · rw [testUpDone_id (Bool.eq_false_iff.mpr hc)]
    exact (Unheard.refl s).outside

theorem testDownDone_outside (s : State) : Outside s (testDownDone s) := by
  by_cases hc : downComplete s = true
  · have hside := testDownDone_side s
    have hnotes := testDownDone_notes s
    rw [testDownDone_complete hc] at hside hnotes ⊢
    exact ⟨hside, post_trays _ _ _ _, hnotes, post_length _ _ _ _, fun h b => by rw [post_bbus]; exact h b⟩
  · rw [testDownDone_id (Bool.eq_false_iff.mpr hc)]
    exact (Unheard.refl s).outside

/-- A run that is over is not complete again. -/
theorem testUpDone_testUpDone (s : State) : testUpDone (testUpDone s) = testUpDone s := by
  by_cases hc : upComplete s = true
  · refine testUpDone_id (Bool.eq_false_iff.mpr fun h => ?_)
    rw [testUpDone_complete hc] at h
    have hstate := (upComplete_iff.mp h).2.1
    exact hstate.elim (fun h => RunState.noConfusion h) fun h => RunState.noConfusion h
  · rw [testUpDone_id (Bool.eq_false_iff.mpr hc), testUpDone_id (Bool.eq_false_iff.mpr hc)]

section
variable {s : State} (hn : s.ilc.state ≠ .normal)
include hn

theorem startVerdict_outside (h : TrayId) : startVerdict s h ≠ .start := fun hv => hn (startVerdict_start hv).1

theorem startLoop_outside (n : Nat) : Unheard s (startLoop n s) := by
  cases n with
  | zero => exact .refl s
  | succ n =>
    unfold startLoop
    split
    · exact .run s _
    · split
      · exact .refl s
      · exact .run s _
      · next hv => exact absurd hv (startVerdict_outside hn _)

theorem afterBudget_outside (s0 : State) : Unheard s (afterBudget s0 s) := by
  have hgrants : Unheard s (recomputeGrants s) := by
    refine ⟨recomputeGrants_side s, rfl, rfl, fun _ b => ?_⟩
    rw [recomputeGrants_outside hn]
    simp
  have hdeficit : ∀ u : State, u.ilc.state ≠ .normal → evalDeficit u = u := fun u hu => if_pos hu
  have hfirst : Unheard s (if s.kT = s0.kT then s else recomputeGrants s) := by
    split
    · exact .refl s
    · exact hgrants
  unfold afterBudget
  dsimp only
  rw [hdeficit _ (by rw [hfirst.side.ilc]; exact hn), ite_self]
  exact hfirst

end

theorem seqAfter_outside {s : State} (hn : s.ilc.state ≠ .normal) (s0 : State) : Outside s (seqAfter s0 s) := by
  unfold seqAfter
  split
  · exact testDownDone_outside s
  · split
    · unfold evalStart
      split
      · rw [testUpDone_testUpDone]
        exact (startLoop_outside hn _).then (testUpDone_outside _)
      · exact testUpDone_outside s
    · exact testUpDone_outside s

theorem propagate_outside {s : State} (hn : s.ilc.state ≠ .normal) (s0 : State) : Outside s (propagate s0 s) :=
  (afterBudget_outside hn s0).then (seqAfter_outside (by rw [(afterBudget_outside hn s0).side.ilc]; exact hn) s0)

/-! ### A set of trays is shed -/

theorem sheddable_eq (t : Tray) : sheddable t = goesWithStage t := by
  rw [sheddable, goesWithStage, Tray.enable, Bool.or_assoc, Bool.or_assoc, Bool.or_assoc, Bool.or_assoc]

/-- A set of trays shed outside NORMAL, with what follows. -/
structure SetShed (picked : Tray → Bool) (s t : State) : Prop where
  side : TraySideOnly s t
  shed : ShedWhere picked s t
  notes : RackNotes s t
  length : t.notices.records.length ≤ s.notices.records.length + 1
  grants : (∀ b : BbuId, s.bbus[b].grant = 0) → ∀ b : BbuId, t.bbus[b].grant = 0

/-- The trays of the set picked by their records, among those a stage or exhaustion sheds (R98, R99). -/
def pickedSet (picked : Tray → Bool) (s : State) : List TrayId := allTrays.filter fun i => picked s.trays[i] && goesWithStage s.trays[i]

theorem shedSet_outside {s : State} (hn : s.ilc.state ≠ .normal) (picked : Tray → Bool) :
    SetShed picked s (shedSet (pickedSet picked s) s) := by
  have hnodup : (pickedSet picked s).Nodup := allTrays_nodup.filter _
  have hput := putTrays_get hnodup shedTray s
  have hside := putTrays_side (pickedSet picked s) shedTray s
  have hnotices := putTrays_notices (pickedSet picked s) shedTray s
  have hbbus : (putTrays (pickedSet picked s) shedTray s).bbus = s.bbus := by rw [putTrays_frame]
  have hmem : ∀ i, i ∈ pickedSet picked s ↔ picked s.trays[i] = true ∧ goesWithStage s.trays[i] = true := fun i => by
    rw [pickedSet, List.mem_filter, and_iff_right (mem_allTrays i), Bool.and_eq_true]
  unfold shedSet
  generalize putTrays (pickedSet picked s) shedTray s = w at *
  have hout := propagate_outside (s := w) (by rw [hside.ilc]; exact hn) s
  generalize propagate s w = t at *
  have htray : ∀ i : TrayId, t.trays[i] = if i ∈ pickedSet picked s then shedTray s.trays[i] else s.trays[i] := fun i => by
    rw [hout.trays]
    exact hput i
  refine ⟨hside.trans hout.side, fun i => ⟨fun hp hs => ?_, fun hp hs => ?_, fun hp hs hr => ?_, fun hno => ?_⟩,
    (RackNotes.of_eq hnotices).trans hout.notes, by rw [← hnotices]; exact hout.length, fun hg => hout.grants (by rw [hbbus]; exact hg)⟩
  · have hgoes : goesWithStage s.trays[i] = true := by
      rcases hs with hs | hs <;> simp [-Fin.getElem_fin, goesWithStage, hs]
    rw [htray i, if_pos ((hmem i).mpr ⟨hp, hgoes⟩)]
    rcases hs with hs | hs <;> simp only [shedTray, stopTray, hs] <;> rfl
  · have hgoes : goesWithStage s.trays[i] = true := by simp [-Fin.getElem_fin, goesWithStage, hs]
    rw [htray i, if_pos ((hmem i).mpr ⟨hp, hgoes⟩)]
    simp only [shedTray, stopTray, hs]
  · have hgoes : goesWithStage s.trays[i] = true := by simp [-Fin.getElem_fin, goesWithStage, hs, hr]
    rw [htray i, if_pos ((hmem i).mpr ⟨hp, hgoes⟩)]
    simp only [shedTray, stopTray, hs]
  · rw [htray i, if_neg fun hm => ?_]
    obtain ⟨hp, hgoes⟩ := (hmem i).mp hm
    rcases hno with h | h | h | ⟨h, hr⟩
    · exact Bool.false_ne_true (h.symm.trans hp)
    · simp [-Fin.getElem_fin, goesWithStage, h] at hgoes
    · simp [-Fin.getElem_fin, goesWithStage, h] at hgoes
    · simp [-Fin.getElem_fin, goesWithStage, h, hr] at hgoes

end Sys2Proof.Machine
end

section
/-! PROOFS. What a raised stage and an exhaustion lead to (R96 to R100). -/
namespace Sys2Proof.Machine

/-! ### A run is open after the sequencer's part -/

theorem testUpDone_up_open {s : State} (hd : s.run.direction = .up) : OpenLaw (testUpDone s) := by
  by_cases hc : upComplete s = true
  · rw [testUpDone_complete hc]
    refine ⟨Bool.eq_false_iff.mpr fun h => ?_, Bool.eq_false_iff.mpr fun h => ?_⟩
    · exact (upComplete_iff.mp h).2.1.elim (fun h => RunState.noConfusion h) fun h => RunState.noConfusion h
    · simp [downComplete] at h
  · rw [testUpDone_id (Bool.eq_false_iff.mpr hc)]
    exact ⟨Bool.eq_false_iff.mpr hc, Bool.eq_false_iff.mpr fun h => by simp [downComplete, hd] at h⟩

theorem testDownDone_down_open {s : State} (hd : s.run.direction = .down) : OpenLaw (testDownDone s) := by
  by_cases hc : downComplete s = true
  · rw [testDownDone_complete hc]
    refine ⟨Bool.eq_false_iff.mpr fun h => ?_, Bool.eq_false_iff.mpr fun h => ?_⟩
    · exact Direction.noConfusion (hd.symm.trans (upComplete_iff.mp h).1)
    · simp [downComplete] at h
  · rw [testDownDone_id (Bool.eq_false_iff.mpr hc)]
    exact ⟨Bool.eq_false_iff.mpr fun h => Direction.noConfusion (hd.symm.trans (upComplete_iff.mp h).1), Bool.eq_false_iff.mpr hc⟩

theorem seqAfter_open (s0 s : State) : OpenLaw (seqAfter s0 s) := by
  unfold seqAfter
  cases hd : s.run.direction with
  | down => exact testDownDone_down_open hd
  | up =>
    dsimp only
    split
    · exact testUpDone_up_open ((evalStart_taken s).direction.trans hd)
    · exact testUpDone_up_open hd

theorem propagate_open (s0 s : State) : OpenLaw (propagate s0 s) := seqAfter_open s0 _

/-- The part that is held back keeps a run open (R115). -/
theorem heldBack_open {s : State} (h : OpenLaw s) : OpenLaw (heldBack s) := by
  by_cases hrun : s.run.direction = .up ∧ s.run.state = .running
  · have hheld : (heldBack s).run = { s.run with state := .held, blocked := none } := if_pos hrun
    have hc : upComplete (heldBack s) = upComplete s := by
      rw [Bool.eq_iff_iff, upComplete_iff, upComplete_iff, hheld]
      simp [hrun.2, heldBack]
    refine ⟨hc.trans h.1, ?_⟩
    rw [downComplete, hheld]
    simp
  · have hsame : (heldBack s).run = s.run := if_neg hrun
    exact h.congr (by rfl) hsame

/-! ### A set is shed and announced -/

/-- A set of trays shed outside NORMAL, with what follows, and the notice posted after it. -/
structure ShedNoted (picked : Tray → Bool) (n : Notice) (s t : State) : Prop where
  shed : ShedWhere picked s t
  notice : NoticeIn n t
  early : s.notices.records.length + 2 ≤ 32 → n ∈ t.notices.records
  records : s.notices.records <+: t.notices.records

theorem SetShed.noted {picked : Tray → Bool} {s t : State} (h : SetShed picked s t) (k : NoticeKind) (x v : Option Nat) :
    ShedNoted picked { kind := k, subject := x, value := v, time := s.time } s (post k x v t) := by
  have hnext : NoticeNext { kind := k, subject := x, value := v, time := t.time } t (post k x v t) := noticeNext_post rfl rfl
  rw [h.side.time] at hnext
  refine ⟨?_, .of_next hnext (post_records _ _ _ _), fun hroom => ?_, h.notes.records.trans (post_records _ _ _ _)⟩
  · rw [ShedWhere, post_trays]
    exact h.shed
  · have hlt : t.notices.records.length < 32 := Nat.lt_of_lt_of_le (Nat.lt_succ_of_le h.length) hroom
    exact (hnext hlt).subset (List.mem_append_right _ List.mem_cons_self)

/-- The notice of a stage that is reached (R98). -/
def stageNotice (k : Nat) (s : State) : Notice :=
  { kind := .shedStage, subject := some k, value := some (pickedSet (inStage k) s).length, time := s.time }

/-- The notice of an exhausted reserve (R99). -/
def exhaustedNotice (s : State) : Notice :=
  { kind := .reserveExhausted, subject := none, value := some (allTrays.filter fun i => goesWithStage s.trays[i]).length, time := s.time }

theorem stageSet_eq (k : Nat) (s : State) : stageSet s k = pickedSet (inStage k) s := by
  unfold stageSet pickedSet inStage
  exact List.filter_congr fun i _ => by rw [sheddable_eq]

theorem exhaustionSet_eq (s : State) : exhaustionSet s = pickedSet (fun _ => true) s :=
  List.filter_congr fun _ _ => (sheddable_eq _).trans (Bool.true_and _).symm

theorem pickedSet_congr {s t : State} (h : t.trays = s.trays) (picked : Tray → Bool) : pickedSet picked t = pickedSet picked s := by
  unfold pickedSet
  rw [h]

/-- The part with another stage. -/
def withStage (k : Nat) (s : State) : State := { s with ilc := { s.ilc with stage := k } }

theorem raiseStage_eq (k : Nat) (s : State) :
    raiseStage k s =
      post .shedStage (some k) (some (pickedSet (inStage k) s).length) (shedSet (pickedSet (inStage k) (withStage k s)) (withStage k s)) := by
  have hset : stageSet (withStage k s) k = pickedSet (inStage k) (withStage k s) := stageSet_eq k _
  have hraise : raiseStage k s =
      post .shedStage (some k) (some (stageSet (withStage k s) k).length) (shedSet (stageSet (withStage k s) k) (withStage k s)) := rfl
  rw [hraise, hset]
  rfl

/-- A stage that rises sheds its set (R98). -/
theorem raiseStage_outcome {s : State} (hn : s.ilc.state ≠ .normal) (k : Nat) :
    ShedNoted (inStage k) (stageNotice k s) s (raiseStage k s) ∧ (raiseStage k s).ilc = { s.ilc with stage := k } ∧
      ((∀ b : BbuId, s.bbus[b].grant = 0) → ∀ b : BbuId, (raiseStage k s).bbus[b].grant = 0) := by
  have hshed := shedSet_outside (s := withStage k s) hn (inStage k)
  have hnoted := hshed.noted .shedStage (some k) (some (pickedSet (inStage k) s).length)
  rw [← raiseStage_eq] at hnoted
  refine ⟨⟨hnoted.shed, hnoted.notice, hnoted.early, hnoted.records⟩, ?_, fun hg b => ?_⟩
  · rw [raiseStage_eq, post_ilc, hshed.side.ilc]
    rfl
  · rw [raiseStage_eq, post_bbus]
    exact hshed.grants hg b

/-- The evaluation of the stage (R97, R98). -/
theorem evalStage_low {s : State} (h : reachedStage s.params s.ilc.lastTEst ≤ s.ilc.stage) : evalStage s = s :=
  if_neg (Nat.not_lt.mpr h)

theorem evalStage_high {s : State} (h : s.ilc.stage < reachedStage s.params s.ilc.lastTEst) :
    evalStage s = raiseStage (reachedStage s.params s.ilc.lastTEst) s := if_pos h

/-- The part as the budget and the runs hear of EXHAUSTED (R99). -/
def exhausting (s : State) : State := heldBack { s with ilc := { s.ilc with restore := none, state := .exhausted } }

theorem exhaustedPart_eq {s : State} (ho : OpenLaw s) :
    exhaustedPart s =
      post .reserveExhausted none (some (pickedSet (fun _ => true) s).length)
        (shedSet (pickedSet (fun _ => true) (exhausting s)) (exhausting s)) := by
  have hset : setShelf .exhausted { s with ilc := { s.ilc with restore := none } } = exhausting s :=
    setShelf_outside .exhausted { s with ilc := { s.ilc with restore := none } } (by decide) ho
  unfold exhaustedPart
  dsimp only
  rw [hset, exhaustionSet_eq, pickedSet_congr (t := exhausting s) (s := s) rfl]

theorem heldBack_grants (s : State) (b : BbuId) : (heldBack s).bbus[b].grant = 0 := by
  simp [heldBack]

/-- An exhaustion sheds every tray that runs, is queued or waits to retry (R99). -/
theorem exhaustedPart_outcome {s : State} (ho : OpenLaw s) :
    ShedNoted (fun _ => true) (exhaustedNotice s) s (exhaustedPart s) ∧
      (∀ b : BbuId, (exhaustedPart s).bbus[b].grant = 0) ∧ OpenLaw (exhaustedPart s) := by
  have hn : (exhausting s).ilc.state ≠ .normal := fun h => ShelfState.noConfusion h
  have hshed := shedSet_outside hn (fun _ => true)
  have hnoted := hshed.noted .reserveExhausted none (some (pickedSet (fun _ => true) s).length)
  have hopen : OpenLaw (shedSet (pickedSet (fun _ => true) (exhausting s)) (exhausting s)) := propagate_open _ _
  have hgrants := hshed.grants (heldBack_grants _)
  rw [exhaustedPart_eq ho]
  generalize shedSet (pickedSet (fun _ => true) (exhausting s)) (exhausting s) = u at *
  refine ⟨⟨hnoted.shed, ?_, ?_, hnoted.records⟩, fun b => by rw [post_bbus]; exact hgrants b, hopen.post _ _ _⟩
  · exact hnoted.notice
  · exact hnoted.early

end Sys2Proof.Machine
end

section
/-! PROOFS. NORMAL entered again, and recovery (R93, R115, R123). -/
namespace Sys2Proof.Machine

/-! ### The hand-over of NORMAL -/

theorem budgetHearsShelf_notes (s : State) : RackNotes s (budgetHearsShelf s) := by
  have hgrants := (recomputeGrants_tallied s).notes
  unfold budgetHearsShelf
  dsimp only
  split
  · exact hgrants.trans (evalDeficit_notes _)
  · exact hgrants.trans (setDeficit_tallied _ _ _).notes

theorem sequencerHearsShelf_notes (s : State) : RackNotes s (sequencerHearsShelf s) := by
  have hrun : ∀ r : RunRecord, RackNotes s { s with run := r } := fun r => .of_eq rfl
  unfold sequencerHearsShelf
  split
  · split
    · exact (hrun _).trans (evalStart_taken _).notes
    · exact (evalStart_taken s).notes
  · split
    · exact (hrun _).trans (testUpDone_taken _).notes
    · exact .refl s

/-- The part in another shelf power state, as the other blocks are to hear of it. -/
def inShelf (new : ShelfState) (s : State) : State := { s with ilc := { s.ilc with state := new } }

theorem setShelf_eq (new : ShelfState) (s : State) :
    setShelf new s = sequencerHearsShelf (seqAfter (inShelf new s) (budgetHearsShelf (inShelf new s))) := rfl

theorem setShelf_notes (new : ShelfState) (s : State) : RackNotes s (setShelf new s) := by
  have hin : RackNotes s (inShelf new s) := .of_eq rfl
  rw [setShelf_eq]
  exact ((hin.trans (budgetHearsShelf_notes _)).trans (seqAfter_notes _ _)).trans (sequencerHearsShelf_notes _)

theorem StartsTaken.notHeld {s t : State} (h : StartsTaken s t) (hs : s.run.state ≠ .held) : t.run.state ≠ .held := by
  rcases h.state with ⟨he, -⟩ | ⟨he, -⟩
  · rw [he]
    exact hs
  · rw [he]
    exact RunState.noConfusion

/-- In NORMAL no run is HELD (R115). -/
theorem setShelf_normal_notHeld (s : State) : (setShelf .normal s).run.state ≠ .held := by
  have hside := (budgetHearsShelf_side (inShelf .normal s)).trans (seqAfter_side (inShelf .normal s) _)
  rw [setShelf_eq]
  generalize seqAfter (inShelf .normal s) (budgetHearsShelf (inShelf .normal s)) = u at *
  unfold sequencerHearsShelf
  rw [if_pos (by rw [hside.ilc]; rfl)]
  split
  · exact (evalStart_taken _).notHeld RunState.noConfusion
  · next hne => exact (evalStart_taken u).notHeld hne

/-- The run as NORMAL finds it: one that was HELD runs again (R115). -/
def runsAgain (s : State) : State := if s.run.state = .held then { s with run := { s.run with state := .running } } else s

theorem sequencerHearsShelf_normal {s : State} (h : s.ilc.state = .normal) : sequencerHearsShelf s = evalStart (runsAgain s) := by
  unfold sequencerHearsShelf runsAgain
  rw [if_pos h]
  split
  · rfl
  · rfl

theorem budgetHearsShelf_normal {s : State} (h : s.ilc.state = .normal) : budgetHearsShelf s = evalDeficit (recomputeGrants s) := if_pos h

theorem budgetHearsShelf_room {s : State} (h : s.ilc.state = .normal) (hroom : s.kLive ≤ s.budget.c) : Tallied s (budgetHearsShelf s) := by
  have hgrants := recomputeGrants_tallied s
  rw [budgetHearsShelf_normal h]
  generalize recomputeGrants s = g at *
  refine hgrants.trans (evalDeficit_room ?_)
  rw [kLive_congr hgrants.trays, hgrants.side.capacity]
  exact hroom

/-- NORMAL is entered with room for the live load: nothing is shed, and an UP run goes on (R86, R93, R115). -/
theorem setShelf_normal_room {s : State} (ho : OpenLaw s) (hroom : s.kLive ≤ s.budget.c) :
    ∃ b, Tallied (inShelf .normal s) b ∧ setShelf .normal s = evalStart (runsAgain b) := by
  have htallied : Tallied (inShelf .normal s) (budgetHearsShelf (inShelf .normal s)) := budgetHearsShelf_room rfl hroom
  have hopen : OpenLaw (inShelf .normal s) := ho
  have hnormal : (inShelf .normal s).ilc.state = .normal := rfl
  rw [setShelf_eq]
  generalize inShelf .normal s = x at *
  refine ⟨budgetHearsShelf x, htallied, ?_⟩
  rw [seqAfter_same htallied.trays htallied.run hopen]
  exact sequencerHearsShelf_normal (by rw [htallied.side.ilc]; exact hnormal)

/-- The same in terms of what changes. -/
structure ToNormal (s t : State) : Prop where
  tray : ∀ j, StartedOrSame s t j
  direction : t.run.direction = s.run.direction
  scope : t.run.scope = s.run.scope
  startQueue : t.run.startQueue.Sublist s.run.startQueue
  idle : s.run.state = .idle → t.run.state = .idle ∧ t.notices = s.notices
  suspended : s.run.state = .suspended → t.run.state = .suspended
  running : s.run.direction = .down → s.run.state ≠ .idle → t.run.state ≠ .idle

theorem setShelf_toNormal {s : State} (ho : OpenLaw s) (hroom : s.kLive ≤ s.budget.c) : ToNormal s (setShelf .normal s) := by
  obtain ⟨b, hb, heq⟩ := setShelf_normal_room ho hroom
  have hrun : b.run = s.run := hb.run
  have htrays : b.trays = s.trays := hb.trays
  have hagain : (runsAgain b).trays = b.trays ∧ (runsAgain b).run.startQueue = b.run.startQueue ∧
      (runsAgain b).run.direction = b.run.direction ∧ (runsAgain b).run.scope = b.run.scope ∧
      (runsAgain b).notices = b.notices ∧ (runsAgain b).run.state = if b.run.state = .held then .running else b.run.state := by
    unfold runsAgain
    split
    · exact ⟨rfl, rfl, rfl, rfl, rfl, rfl⟩
    · exact ⟨rfl, rfl, rfl, rfl, rfl, rfl⟩
  obtain ⟨hat, haq, had, hasc, han, has⟩ := hagain
  rw [heq]
  generalize runsAgain b = a at *
  have htaken := evalStart_taken a
  have hstill : a.run.state ≠ .running → evalStart a = a := evalStart_held
  have hdown : a.run.direction = .down → evalStart a = a := fun hd => evalStart_other (Or.inl hd)
  refine ⟨fun j => ?_, htaken.direction.trans (by rw [had, hrun]), htaken.scope.trans (by rw [hasc, hrun]), ?_, fun hs => ?_,
    fun hs => ?_, fun hd hs => ?_⟩
  · have hj := htaken.tray j
    rw [StartedOrSame, haq, hat, hrun, htrays] at hj
    exact hj
  · rw [← hrun, ← haq]
    exact htaken.startQueue
  · have hidle : a.run.state = .idle := by rw [has, hrun, hs]; rfl
    rw [hstill (by rw [hidle]; exact RunState.noConfusion)]
    exact ⟨hidle, han.trans hb.notices⟩
  · have hsusp : a.run.state = .suspended := by rw [has, hrun, hs]; rfl
    rw [hstill (by rw [hsusp]; exact RunState.noConfusion)]
    exact hsusp
  · rw [hdown (by rw [had, hrun]; exact hd), has, hrun]
    split
    · exact RunState.noConfusion
    · exact hs

end Sys2Proof.Machine
end

section
/-! PROOFS. Recovery: trays freed of SHED are taken up again (R123). -/
namespace Sys2Proof.Machine

/-! ### What recovery does -/

/-- The trays of the list that recovery takes up. -/
def recovered (l : List TrayId) (s : State) : List TrayId := l.filter fun i => s.trays[i].eligible

theorem recovery_off {l : List TrayId} {s : State} (h : s.params.autoRecover = false ∨ recovered l s = []) : recovery l s = s := by
  have hnone : (!s.params.autoRecover || (recovered l s).isEmpty) = true := by
    rcases h with h | h <;> simp [h]
  exact if_pos hnone

section
variable {l : List TrayId} {s : State} (ha : s.params.autoRecover = true) (hr : recovered l s ≠ [])
include ha hr

theorem recovery_on :
    recovery l s =
      match s.run.state, s.run.direction with
      | .idle, _ => createUp (.trays (recovered l s)) (recovered l s) s
      | _, .down => s
      | _, .up => evalStart (joinAll (recovered l s) s) := by
  have hsome : (!s.params.autoRecover || (recovered l s).isEmpty) ≠ true := by simp [ha, hr]
  exact if_neg hsome

theorem recovery_idle (hi : s.run.state = .idle) : recovery l s = createUp (.trays (recovered l s)) (recovered l s) s := by
  rw [recovery_on ha hr, hi]

theorem recovery_up (hi : s.run.state ≠ .idle) (hd : s.run.direction = .up) :
    recovery l s = evalStart (joinAll (recovered l s) s) := by
  rw [recovery_on ha hr, hd]
  cases hs : s.run.state with
  | idle => exact absurd hs hi
  | running => rfl
  | held => rfl
  | suspended => rfl

end

theorem recovery_down {l : List TrayId} {s : State} (hi : s.run.state ≠ .idle) (hd : s.run.direction = .down) : recovery l s = s := by
  by_cases h : s.params.autoRecover = false ∨ recovered l s = []
  · exact recovery_off h
  · obtain ⟨ha, hr⟩ := not_or.mp h
    rw [recovery_on (Bool.of_not_eq_false ha) hr, hd]
    cases hs : s.run.state with
    | idle => exact absurd hs hi
    | running => rfl
    | held => rfl
    | suspended => rfl

/-- The four ways of a recovery. -/
theorem recovery_cases (l : List TrayId) (s : State) :
    recovery l s = s ∨ (s.run.state = .idle ∧ recovery l s = createUp (.trays (recovered l s)) (recovered l s) s) ∨
      (s.run.state ≠ .idle ∧ s.run.direction = .up ∧ recovery l s = evalStart (joinAll (recovered l s) s)) := by
  by_cases h : s.params.autoRecover = false ∨ recovered l s = []
  · exact Or.inl (recovery_off h)
  · obtain ⟨ha, hr⟩ := not_or.mp h
    by_cases hi : s.run.state = .idle
    · exact Or.inr (Or.inl ⟨hi, recovery_idle (Bool.of_not_eq_false ha) hr hi⟩)
    · cases hd : s.run.direction with
      | down => exact Or.inl (recovery_down hi hd)
      | up => exact Or.inr (Or.inr ⟨hi, rfl, recovery_up (Bool.of_not_eq_false ha) hr hi hd⟩)

/-- What a recovery leaves alone, and what becomes of the trays it takes up. -/
structure Recovered (r : List TrayId) (s t : State) : Prop where
  side : RackSide s t
  notes : RackNotes s t
  notHeld : s.run.state ≠ .held → t.run.state ≠ .held
  joined : ∀ j ∈ r, Joined s.trays[j] → Joined t.trays[j]
  others : ∀ j : TrayId, j ∉ r → j ∉ s.run.startQueue → t.trays[j] = s.trays[j] ∧ j ∉ t.run.startQueue
  kept : ∀ j : TrayId, j ∉ r → StartedOrSame s t j ∨ t.trays[j] = s.trays[j]

theorem createUp_recovered (r : List TrayId) (s : State) : Recovered r s (createUp (.trays r) r s) := by
  have hjoin := joinAll_joined r (newUp (.trays r) s)
  have htaken := evalStart_taken (joinAll r (newUp (.trays r) s))
  obtain ⟨-, -, -, hin, hout, -⟩ := createUp_outcome (.trays r) r s
  refine ⟨createUp_side _ _ s, createUp_notes _ _ s, fun _ => ?_, fun j hj _ => hin j hj, fun j hj _ => ⟨hout j hj, fun hq => ?_⟩,
    fun j hj => Or.inr (hout j hj)⟩
  · refine htaken.notHeld ?_
    rw [hjoin.state]
    exact RunState.noConfusion
  · exact ((hjoin.queue j).mp (htaken.startQueue.subset hq)).elim hj List.not_mem_nil

theorem joinAll_recovered (r : List TrayId) (s : State) : Recovered r s (evalStart (joinAll r s)) := by
  have hjoin := joinAll_joined r s
  obtain ⟨htaken, hin, hout⟩ := joined_evalStart hjoin
  refine ⟨.of_side (hjoin.side.trans htaken.side), (RackNotes.of_eq hjoin.notices).trans htaken.notes, fun h => ?_,
    fun j hj _ => hin j hj, fun j hj hq => ⟨hout j hj hq, fun hm => ?_⟩, fun j hj => ?_⟩
  · exact htaken.notHeld (by rw [hjoin.state]; exact h)
  · exact ((hjoin.queue j).mp (htaken.startQueue.subset hm)).elim hj hq
  · rcases htaken.tray j with he | ⟨hq, hnq, he⟩
    · exact Or.inr (by rw [he, hjoin.tray j, if_neg hj])
    · rw [hjoin.tray j, if_neg hj] at he
      exact Or.inl (Or.inr ⟨((hjoin.queue j).mp hq).resolve_left hj, hnq, he⟩)

theorem recovery_recovered (l : List TrayId) (s : State) : Recovered (recovered l s) s (recovery l s) := by
  rcases recovery_cases l s with h | ⟨-, h⟩ | ⟨-, -, h⟩
  · rw [h]
    exact ⟨.of_side (.refl s), .refl s, id, fun _ _ h => h, fun _ _ hq => ⟨rfl, hq⟩, fun _ _ => Or.inr rfl⟩
  · rw [h]
    exact createUp_recovered _ s
  · rw [h]
    exact joinAll_recovered _ s

/-! ### Recovery in the words of the statements -/

/-- How the part stands when the trays freed of SHED are handed to recovery, seen from before SHED was cleared. -/
structure HandedOver (s y : State) : Prop where
  params : y.params = s.params
  shed : ∀ i : TrayId, s.trays[i].locks.shed = true → y.trays[i] = freeShed s.trays[i]
  others : ∀ i : TrayId, s.trays[i].state ≠ .queued → y.trays[i] = freeShed s.trays[i] ∧ i ∉ y.run.startQueue
  idle : s.run.state = .idle → y.run.state = .idle
  suspended : s.run.state = .suspended → y.run.state = .suspended
  direction : y.run.direction = s.run.direction
  running : s.run.direction = .down → s.run.state ≠ .idle → y.run.state ≠ .idle

theorem HandedOver.recovered {s y : State} (h : HandedOver s y) :
    recovered (shedTrays s) y = allTrays.filter fun i => recoverable s.trays[i] := by
  rw [Machine.recovered, shedTrays, List.filter_filter]
  refine List.filter_congr fun i _ => ?_
  rw [recoverable]
  cases hs : s.trays[i].locks.shed with
  | false => rw [Bool.and_false, Bool.false_and]
  | true => rw [h.shed i hs, Tray.eligible_eq_joins, Bool.and_true, Bool.true_and]

theorem HandedOver.mem {s y : State} (h : HandedOver s y) (i : TrayId) :
    i ∈ Machine.recovered (shedTrays s) y ↔ recoverable s.trays[i] = true := by
  rw [h.recovered, List.mem_filter, and_iff_right (mem_allTrays i)]

theorem Joined.taken {s t : State} (h : StartsTaken s t) {j : TrayId} (hj : Joined s.trays[j]) : Joined t.trays[j] := by
  rcases h.tray j with he | ⟨-, -, he⟩
  · rw [he]
    exact hj
  · exact Or.inr he.state

/-- The recovery rule (R123): after the trays have been handed over, and whatever starts follow. -/
theorem HandedOver.recoveryTaken {s y t : State} (h : HandedOver s y) (ht : StartsTaken (recovery (shedTrays s) y) t)
    (hstill : (recovery (shedTrays s) y).run.state ≠ .running → t = recovery (shedTrays s) y) : RecoveryTaken s t := by
  have hmem := h.mem
  have hlist := h.recovered
  have hrecovered := recovery_recovered (shedTrays s) y
  have hsame : ∀ i : TrayId, s.trays[i].state ≠ .queued → i ∉ Machine.recovered (shedTrays s) y → t.trays[i] = freeShed s.trays[i] :=
    fun i hq hr => by
      obtain ⟨hfree, hnq⟩ := h.others i hq
      obtain ⟨he, hout⟩ := hrecovered.others i hr hnq
      rw [StartedOrSame.same (ht.tray i) hout, he, hfree]
  refine ⟨fun ha => ⟨fun hidle hsome => ?_, fun hne hup i hi => ?_⟩, fun i hq hno => ?_⟩
  · obtain ⟨i, hi⟩ := hsome
    have hr : Machine.recovered (shedTrays s) y ≠ [] := List.ne_nil_of_mem ((hmem i).mpr hi)
    have heq := recovery_idle (by rw [h.params]; exact ha) hr (h.idle hidle)
    obtain ⟨-, hdir, hscope, hin, -, -⟩ := createUp_outcome (.trays (Machine.recovered (shedTrays s) y)) (Machine.recovered (shedTrays s) y) y
    rw [← heq] at hdir hscope hin
    rw [hlist] at hscope
    exact ⟨ht.direction.trans hdir, ht.scope.trans hscope, fun j hj => (hin j ((hmem j).mpr hj)).taken ht⟩
  · have hr : Machine.recovered (shedTrays s) y ≠ [] := List.ne_nil_of_mem ((hmem i).mpr hi)
    have ha' : y.params.autoRecover = true := by rw [h.params]; exact ha
    by_cases hy : y.run.state = .idle
    · have heq := recovery_idle ha' hr hy
      obtain ⟨-, -, -, hin, -, -⟩ := createUp_outcome (.trays (Machine.recovered (shedTrays s) y)) (Machine.recovered (shedTrays s) y) y
      rw [← heq] at hin
      refine ⟨(hin i ((hmem i).mpr hi)).taken ht, fun hs => ?_⟩
      exact absurd ((h.suspended hs).symm.trans hy) RunState.noConfusion
    · have heq := recovery_up ha' hr hy (h.direction.trans hup)
      have hjoin := joinAll_joined (Machine.recovered (shedTrays s) y) y
      obtain ⟨-, hin, -⟩ := joined_evalStart hjoin
      rw [← heq] at hin
      refine ⟨(hin i ((hmem i).mpr hi)).taken ht, fun hs => ?_⟩
      have hsusp : (joinAll (Machine.recovered (shedTrays s) y) y).run.state = .suspended := hjoin.state.trans (h.suspended hs)
      rw [evalStart_held (by rw [hsusp]; exact RunState.noConfusion)] at heq
      rw [hstill (by rw [heq, hsusp]; exact RunState.noConfusion), heq, hjoin.tray i, if_pos ((hmem i).mpr hi)]
      exact ⟨rfl, (hjoin.queue i).mpr (Or.inl ((hmem i).mpr hi)), (hjoin.members i).mpr (Or.inl ((hmem i).mpr hi))⟩
  · by_cases hr : i ∈ Machine.recovered (shedTrays s) y
    · have hrec := (hmem i).mp hr
      obtain ⟨hfree, hnq⟩ := h.others i hq
      have hoff : recovery (shedTrays s) y = y := by
        rcases hno with hno | hno | ⟨hd, hne⟩
        · exact absurd (hno.symm.trans hrec) Bool.false_ne_true
        · exact recovery_off (Or.inl (by rw [h.params]; exact hno))
        · exact recovery_down (h.running hd hne) (h.direction.trans hd)
      rw [hoff] at ht
      rw [StartedOrSame.same (ht.tray i) hnq, hfree]
    · exact hsame i hq hr

end Sys2Proof.Machine
end

section
/-! PROOFS. IFAIL and the end of the restore hold: the pieces (R93 to R104). -/
namespace Sys2Proof.Machine

theorem setShelf_side (new : ShelfState) (s : State) : TraySideOnly (inShelf new s) (setShelf new s) := by
  rw [setShelf_eq]
  exact ((budgetHearsShelf_side _).trans (seqAfter_side _ _)).trans (sequencerHearsShelf_side _)

/-! ### Lockouts and EN through starts -/

theorem Entered.locks {a b : Tray} (h : Entered a b) : b.locks = a.locks := by
  rcases h with h | h | h <;> subst h <;> rfl

theorem StartedOrSame.locks {s t : State} {j : TrayId} (h : StartedOrSame s t j) : t.trays[j].locks = s.trays[j].locks := by
  rcases h with he | ⟨-, -, he⟩
  · rw [he]
  · exact he.locks

theorem StartedOrSame.enable {s t : State} {j : TrayId} (h : StartedOrSame s t j) (he : s.trays[j].enable = true) :
    t.trays[j].enable = true := by
  rcases h with hs | ⟨-, -, hs⟩
  · rw [hs]
    exact he
  · exact hs.enable

theorem joined_locks {l : List TrayId} {s t : State} (h : JoinedAll l s t) (j : TrayId) :
    (evalStart t).trays[j].locks = s.trays[j].locks := by
  rw [((evalStart_taken t).tray j).locks, h.tray j]
  split <;> rfl

theorem createUp_locks (scope : Scope) (l : List TrayId) (s : State) (j : TrayId) :
    (createUp scope l s).trays[j].locks = s.trays[j].locks := joined_locks (joinAll_joined l (newUp scope s)) j

theorem recovery_locks (l : List TrayId) (s : State) (j : TrayId) : (recovery l s).trays[j].locks = s.trays[j].locks := by
  rcases recovery_cases l s with h | ⟨-, h⟩ | ⟨-, -, h⟩
  · rw [h]
  · rw [h]
    exact createUp_locks _ _ s j
  · rw [h]
    exact joined_locks (joinAll_joined _ s) j

theorem autoStartTest_locks (s : State) (j : TrayId) : (autoStartTest s).trays[j].locks = s.trays[j].locks := by
  unfold autoStartTest
  split
  · exact createUp_locks _ _ s j
  · rfl

theorem not_eligible_of_enable {t : Tray} (h : t.enable = true) : t.eligible = false := by
  refine Bool.eq_false_iff.mpr fun he => ?_
  have hoff := ((Tray.eligible_iff t).mp he).2.1
  simp [Tray.enable, hoff] at h

theorem recovery_enable {l : List TrayId} {s : State} {j : TrayId} (h : s.trays[j].enable = true) :
    (recovery l s).trays[j].enable = true := by
  have hout : j ∉ recovered l s := fun hm => Bool.false_ne_true ((not_eligible_of_enable h).symm.trans (List.mem_filter.mp hm).2)
  rcases (recovery_recovered l s).kept j hout with hk | hk
  · exact hk.enable h
  · rw [hk]
    exact h

theorem autoStartTest_enable {s : State} {j : TrayId} (h : s.trays[j].enable = true) : (autoStartTest s).trays[j].enable = true := by
  unfold autoStartTest
  split
  · obtain ⟨-, -, -, -, hout, -⟩ := createUp_outcome .all (eligibleIn s .all) s
    rw [hout j fun hm => ?_]
    · exact h
    · have he := (mem_eligibleIn.mp hm).2
      rw [← Tray.eligible_eq_joins, not_eligible_of_enable h] at he
      exact Bool.false_ne_true he
  · exact h

theorem autoStartTest_notHeld {s : State} (h : s.run.state ≠ .held) : (autoStartTest s).run.state ≠ .held := by
  unfold autoStartTest
  split
  · have hjoin := joinAll_joined (eligibleIn s .all) (newUp .all s)
    rw [createUp_eq]
    refine (evalStart_taken _).notHeld ?_
    rw [hjoin.state]
    exact RunState.noConfusion
  · exact h

theorem autoStartTest_unmarked {s : State} (h : s.store.autoPending = false) : autoStartTest s = s :=
  if_neg fun hr => Bool.false_ne_true (h.symm.trans (autoStartReady_iff.mp hr).1)

theorem recovery_unmarked {l : List TrayId} {s : State} (h : s.store.autoPending = false) : (recovery l s).store.autoPending = false := by
  rcases recovery_cases l s with he | ⟨-, he⟩ | ⟨-, -, he⟩
  · rw [he]
    exact h
  · rw [he, (createUp_outcome (.trays (recovered l s)) (recovered l s) s).1.store]
    rfl
  · rw [he, ((joinAll_joined (recovered l s) s).side.trans (evalStart_taken _).side).store]
    exact h

/-! ### SHED cleared -/

theorem clearShed_locksOnly (s : State) : LocksOnly s (clearShed s) := fun i => ⟨_, clearShed_get i s⟩

theorem LocksOnly.kLive {s t : State} (h : LocksOnly s t) : t.kLive = s.kLive :=
  congrArg List.sum (List.map_congr_left fun i _ => (h.counts i).2.1)

/-! ### A sag that was ridden -/

/-- IFAIL is released within the qualify time (R95). -/
theorem sagRidden_outcome {s : State} {t : State} (ht : t = sagRidden s) :
    ShelfOnly s t ∧ t.ilc = { sagOver s with state := .normal } ∧
      NoticeIn { kind := .sagRidden, subject := none, value := some (sagWidth s), time := s.time } t ∧
      (OpenLaw s → s.kLive ≤ s.budget.c → s.run.state = .idle →
        NoticeNext { kind := .sagRidden, subject := none, value := some (sagWidth s), time := s.time } s t) ∧
      t.run.state ≠ .held := by
  have hshelf : ShelfOnly s (setShelf .normal { s with ilc := sagOver s }) := (setShelf_shelf .normal { s with ilc := sagOver s }).after_ilc
  have hilc := setShelf_ilc .normal { s with ilc := sagOver s }
  have hnotes := setShelf_notes .normal { s with ilc := sagOver s }
  have hheld := setShelf_normal_notHeld { s with ilc := sagOver s }
  have htime := (setShelf_side .normal { s with ilc := sagOver s }).time
  have hquiet : OpenLaw s → s.kLive ≤ s.budget.c → s.run.state = .idle → (setShelf .normal { s with ilc := sagOver s }).notices = s.notices :=
    fun ho hroom hi => ((setShelf_toNormal (s := { s with ilc := sagOver s }) ho hroom).idle hi).2
  rw [sagRidden_eq] at ht
  generalize setShelf .normal { s with ilc := sagOver s } = u at *
  have hnext : NoticeNext { kind := .sagRidden, subject := none, value := some (sagWidth s), time := u.time } u
      (post .sagRidden none (some (sagWidth s)) u) := noticeNext_post rfl rfl
  have hstart := autoStartTest_notes (post .sagRidden none (some (sagWidth s)) u)
  rw [htime] at hnext
  rw [ht]
  refine ⟨(hshelf.trans (.of_side (post_side _ _ _ _))).trans (.of_rackOnly (.of_rackSide (autoStartTest_side _))), ?_,
    .of_next (hnext.then_more hstart.records) ((post_records _ _ _ u).trans hstart.records), fun ho hroom hi => ?_, ?_⟩
  · rw [autoStartTest_ilc, post_ilc, hilc]
  · have hn := hquiet ho hroom hi
    rw [NoticeNext, hn] at hnext
    exact NoticeNext.then_more hnext hstart.records
  · exact autoStartTest_notHeld (by rw [post_run]; exact hheld)

end Sys2Proof.Machine
end

section
/-! PROOFS. IFAIL and the end of the restore hold (R93 to R104). -/
namespace Sys2Proof.Machine

/-! ### The evaluation in RIDE-THROUGH -/

theorem evalRide_low {s : State} (hr : s.ilc.lastR ≠ 0) (h : reachedStage s.params s.ilc.lastTEst ≤ s.ilc.stage) : evalRide s = s :=
  (if_neg hr).trans (evalStage_low h)

theorem evalRide_high {s : State} (hr : s.ilc.lastR ≠ 0) (h : s.ilc.stage < reachedStage s.params s.ilc.lastTEst) :
    evalRide s = raiseStage (reachedStage s.params s.ilc.lastTEst) s := (if_neg hr).trans (evalStage_high h)

/-- With IFAIL asserted an exhausted shelf stays EXHAUSTED (R99). -/
theorem evalRide_exhausted {s : State} (hr : s.ilc.lastR = 0) (hi : s.ilc.ifail = true) : evalRide s = exhaustedPart s := by
  have hstill : (exhaustedPart s).ilc.ifail = true := by
    rw [exhaustedPart_ilc]
    exact hi
  rw [evalRide, if_pos hr, enterExhausted_eq, if_pos hstill]

/-- What an evaluation in RIDE-THROUGH with reserve left comes to, for a part without grants (R97, R98). -/
structure StageTaken (s t : State) : Prop where
  ilc : t.ilc = { s.ilc with stage := max s.ilc.stage (reachedStage s.params s.ilc.lastTEst) }
  grants : t.grantTotal = 0
  low : reachedStage s.params s.ilc.lastTEst ≤ s.ilc.stage → t = s
  high : s.ilc.stage < reachedStage s.params s.ilc.lastTEst →
    ShedNoted (inStage (reachedStage s.params s.ilc.lastTEst)) (stageNotice (reachedStage s.params s.ilc.lastTEst) s) s t

theorem grantTotal_zero {s : State} (h : ∀ b : BbuId, s.bbus[b].grant = 0) : s.grantTotal = 0 :=
  (congrArg List.sum (List.map_congr_left fun b _ => h b)).trans (by simp)

theorem evalRide_stage {s : State} (hn : s.ilc.state ≠ .normal) (hr : s.ilc.lastR ≠ 0) (hg : ∀ b : BbuId, s.bbus[b].grant = 0) :
    StageTaken s (evalRide s) := by
  rcases Nat.lt_or_ge s.ilc.stage (reachedStage s.params s.ilc.lastTEst) with h | h
  · obtain ⟨hnoted, hilc, hgrants⟩ := raiseStage_outcome hn (reachedStage s.params s.ilc.lastTEst)
    rw [evalRide_high hr h]
    refine ⟨?_, grantTotal_zero (hgrants hg), fun hle => absurd h (Nat.not_lt.mpr hle), fun _ => hnoted⟩
    rw [hilc, Nat.max_eq_right (Nat.le_of_lt h)]
  · rw [evalRide_low hr h]
    refine ⟨?_, grantTotal_zero hg, fun _ => rfl, fun hlt => absurd hlt (Nat.not_lt.mpr h)⟩
    rw [Nat.max_eq_left h]

/-! ### IFAIL asserted during the restore hold -/

/-- The part as it rides through again (R102). -/
def ridesAgain (s : State) : State :=
  heldBack { s with ilc := { s.ilc with ifail := true, restore := none, state := .rideThrough } }

theorem inputFlicker_eq {s : State} (ho : OpenLaw s) : inputFlicker s = evalRide (ridesAgain s) := by
  have hset : setShelf .rideThrough { s with ilc := { s.ilc with ifail := true, restore := none } } = ridesAgain s :=
    setShelf_outside .rideThrough { s with ilc := { s.ilc with ifail := true, restore := none } } (by decide) ho
  unfold inputFlicker
  rw [hset]

theorem ridesAgain_open {s : State} (h : OpenLaw s) : OpenLaw (ridesAgain s) := heldBack_open h

theorem heldBack_shelf (s : State) : ShelfOnly s (heldBack s) := by
  refine ⟨rfl, fun b => ?_⟩
  simp [heldBack]

theorem inputFlicker_shelf {s : State} (ho : OpenLaw s) : ShelfOnly s (inputFlicker s) := by
  have h := (heldBack_shelf { s with ilc := { s.ilc with ifail := true, restore := none, state := .rideThrough } }).after_ilc
  rw [inputFlicker_eq ho]
  exact ShelfOnly.trans h (evalRide_shelf _)

/-! ### The end of the restore hold -/

/-- The part with SHED cleared at the end of the restore hold (R103). -/
def freed (s : State) : State := clearShed { s with ilc := { s.ilc with stage := 0, restore := none } }

/-- INPUT-RESTORED follows (R103). -/
def restored (s : State) : State := post .inputRestored none (some (shedTrays s).length) (freed s)

theorem restoreNormal_eq (s : State) : restoreNormal s = autoStartTest (recovery (shedTrays s) (setShelf .normal (restored s))) := rfl

theorem freed_tray (s : State) (i : TrayId) : (freed s).trays[i] = freeShed s.trays[i] := clearShed_get i _

theorem freed_run (s : State) : (freed s).run = s.run := by
  simp [freed]

theorem freed_shelf (s : State) : ShelfOnly s (freed s) := ShelfOnly.after_ilc (.of_side (clearShed_side _))

theorem restored_tray (s : State) (i : TrayId) : (restored s).trays[i] = freeShed s.trays[i] := by
  rw [restored, post_trays, freed_tray]

theorem restored_locksOnly (s : State) : LocksOnly s (restored s) := fun i => ⟨_, restored_tray s i⟩

theorem restored_run (s : State) : (restored s).run = s.run := by
  rw [restored, post_run, freed_run]

theorem restored_open {s : State} (h : OpenLaw s) : OpenLaw (restored s) := (restored_locksOnly s).openLaw (restored_run s) h

theorem restored_shelf (s : State) : ShelfOnly s (restored s) := (freed_shelf s).trans (.of_side (post_side _ _ _ _))

theorem restored_store (s : State) : (restored s).store = s.store := by
  simp only [restored, post_store, freed, clearShed_store]

theorem restored_params (s : State) : (restored s).params = s.params := by
  simp only [restored, post_params, freed, clearShed_params]

theorem restored_room {s : State} (h : s.kLive ≤ s.budget.c) : (restored s).kLive ≤ (restored s).budget.c := by
  have hc : (restored s).budget = s.budget := by
    simp only [restored, post_budget, freed, clearShed_budget]
  rw [(restored_locksOnly s).kLive, hc]
  exact h

theorem restored_ilc (s : State) : (restored s).ilc = { s.ilc with stage := 0, restore := none } := by
  simp only [restored, post_ilc, freed, clearShed_ilc]

theorem restored_notice (s : State) :
    NoticeNext { kind := .inputRestored, subject := none, value := some (shedTrays s).length, time := s.time } s (restored s) :=
  noticeNext_post (u := freed s) (by simp [freed]) (by simp [freed])

/-- The trays freed of SHED as recovery finds them in NORMAL (R93, R103). -/
theorem ToNormal.handedOver {s x y : State} (h : ToNormal x y) (ht : TrayLaw s) (hrun : x.run = s.run)
    (htray : ∀ i : TrayId, x.trays[i] = freeShed s.trays[i]) (hparams : y.params = s.params) : HandedOver s y := by
  have hfree : ∀ i : TrayId, s.trays[i].state ≠ .queued → y.trays[i] = freeShed s.trays[i] ∧ i ∉ y.run.startQueue := fun i hq => by
    have hout : i ∉ x.run.startQueue := fun hm => by
      rw [hrun] at hm
      exact hq ((ht.1 i).2.2.1.mp hm)
    exact ⟨((h.tray i).same hout).trans (htray i), fun hm => hout (h.startQueue.subset hm)⟩
  obtain ⟨-, hdir, -, -, hidle, hsusp, hdown⟩ := h
  rw [hrun] at hdir hidle hsusp hdown
  refine ⟨hparams, fun i hs => (hfree i fun hq => ?_).1, hfree, fun h => (hidle h).1, hsusp, hdir, hdown⟩
  have hnone := (ht.1 i).1.1 hq
  simp [Lockouts.isEmpty, -Fin.getElem_fin, hs] at hnone

/-- What the end of the restore hold comes to (R103). -/
structure NormalAgain (s t : State) : Prop where
  shelf : ShelfOnly s t
  ilc : t.ilc = { s.ilc with state := .normal, stage := 0, restore := none }
  notice : NoticeNext { kind := .inputRestored, subject := none, value := some (shedTrays s).length, time := s.time } s t
  notHeld : t.run.state ≠ .held
  freed : OpenLaw s → s.kLive ≤ s.budget.c → ∀ i : TrayId, t.trays[i].locks.shed = false
  running : OpenLaw s → s.kLive ≤ s.budget.c → ∀ i : TrayId, s.trays[i].enable = true → t.trays[i].enable = true
  recovery : TrayLaw s → OpenLaw s → s.kLive ≤ s.budget.c → s.store.autoPending = false → RecoveryTaken s t

theorem restoreNormal_again (s : State) : NormalAgain s (restoreNormal s) := by
  have hnext := restored_notice s
  have hnormal := fun ho h => setShelf_toNormal (restored_open (s := s) ho) (restored_room h)
  have hset := (restored_shelf s).trans (setShelf_shelf .normal (restored s))
  have hnotes := setShelf_notes .normal (restored s)
  have hheld := setShelf_normal_notHeld (restored s)
  have hparams : (setShelf .normal (restored s)).params = s.params :=
    (setShelf_side .normal (restored s)).params.trans (restored_params s)
  have hstore : (setShelf .normal (restored s)).store = s.store := (setShelf_side .normal (restored s)).store.trans (restored_store s)
  have hilc : (setShelf .normal (restored s)).ilc = { s.ilc with state := .normal, stage := 0, restore := none } := by
    rw [setShelf_ilc, restored_ilc]
  have htray := restored_tray s
  rw [restoreNormal_eq]
  have hrun := restored_run s
  generalize setShelf .normal (restored s) = y at *
  generalize restored s = x at *
  have hrec := recovery_recovered (shedTrays s) y
  have hstart := autoStartTest_notes (recovery (shedTrays s) y)
  refine ⟨?_, ?_, ?_, ?_, fun ho h i => ?_, fun ho h i he => ?_, fun ht ho h hmark => ?_⟩
  · exact (hset.trans (.of_rackOnly (.of_rackSide hrec.side))).trans (.of_rackOnly (.of_rackSide (autoStartTest_side _)))
  · rw [autoStartTest_ilc, recovery_ilc, hilc]
  · exact hnext.then_more ((hnotes.records.trans hrec.notes.records).trans hstart.records)
  · exact autoStartTest_notHeld (hrec.notHeld hheld)
  · rw [autoStartTest_locks, recovery_locks, ((hnormal ho h).tray i).locks, htray i]
    rfl
  · refine autoStartTest_enable (recovery_enable (((hnormal ho h).tray i).enable ?_))
    rw [htray i]
    exact he
  · have hunmarked := recovery_unmarked (l := shedTrays s) (show y.store.autoPending = false by rw [hstore]; exact hmark)
    rw [autoStartTest_unmarked hunmarked]
    exact ((hnormal ho h).handedOver ht hrun htray hparams).recoveryTaken (.refl _) fun _ => rfl

/-! ### The obligation -/

/-- The width of a sag and the count as the obligation writes them. -/
theorem sagOver_eq {s : State} {w : Nat} (hw : w = sagWidth s) :
    ({ sagOver s with state := .normal } : InputLoss) =
      { s.ilc with
        state := .normal, ifail := false, qualify := none, sagStart := none, lastSag := w,
        longestSag := max s.ilc.longestSag w, sagCount := min 65535 (s.ilc.sagCount + 1) } := by
  rw [hw]
  rfl

theorem enterRestoreHold_eq {s : State} (ho : OpenLaw s) :
    enterRestoreHold s =
      heldBack { s with ilc := { s.ilc with state := .restoreHold, restore := some (s.params.restoreHold * 1000) } } :=
  setShelf_outside .restoreHold { s with ilc := { s.ilc with restore := some (s.params.restoreHold * 1000) } } (by decide) ho

/-- The pin IFAIL taken by a part that is not held back. -/
theorem exec_ifailAssert {s : State} (h : s.held = none) : exec .ifailAssert s = .next (ifailAsserted (setIfailPin true s)) :=
  awake_free ifailAsserted (s := setIfailPin true s) h

theorem exec_ifailRelease {s : State} (h : s.held = none) : exec .ifailRelease s = .next (ifailReleased (setIfailPin false s)) :=
  awake_free ifailReleased (s := setIfailPin false s) h

theorem exec_restoreExpiry {s : State} (h : s.held = none) : exec .restoreExpiry s = .next (restoreEnds s) := awake_free restoreEnds h

theorem ifailAsserted_normal {s : State} (h : s.ilc.state = .normal) : ifailAsserted s = enterSagQualify s := by
  rw [ifailAsserted, h]

theorem ifailAsserted_restoreHold {s : State} (h : s.ilc.state = .restoreHold) : ifailAsserted s = inputFlicker s := by
  rw [ifailAsserted, h]

theorem ifailAsserted_other {s : State} (h : s.ilc.state = .sagQualify ∨ s.ilc.state = .rideThrough ∨ s.ilc.state = .exhausted) :
    ifailAsserted s = s := by
  rcases h with h | h | h <;> rw [ifailAsserted, h]

theorem ifailReleased_sag {s : State} (h : s.ilc.state = .sagQualify) : ifailReleased s = sagRidden s := by
  rw [ifailReleased, h]

/-- The part as IFAIL released finds it outside SAG-QUALIFY (R100). -/
def inputBack (s : State) : State := { s with ilc := { s.ilc with ifail := false } }

theorem ifailReleased_riding {s : State} (h : s.ilc.state = .rideThrough ∨ s.ilc.state = .exhausted) :
    ifailReleased s = enterRestoreHold (inputBack s) := by
  rcases h with h | h <;> rw [ifailReleased, h, inputBack]

theorem ifailReleased_other {s : State} (h : s.ilc.state = .normal ∨ s.ilc.state = .restoreHold) : ifailReleased s = s := by
  rcases h with h | h <;> rw [ifailReleased, h]

/-- The part as IFAIL is asserted in the restore hold, before the reserve is looked at. -/
def flickered (s : State) : State := ridesAgain (setIfailPin true s)

theorem flicker_eq {s : State} (ho : OpenLaw s) (h : s.ilc.state = .restoreHold) :
    ifailAsserted (setIfailPin true s) = evalRide (flickered s) :=
  (ifailAsserted_restoreHold (s := setIfailPin true s) h).trans (inputFlicker_eq (s := setIfailPin true s) ho)

theorem flicker_shelf {s : State} (ho : OpenLaw s) : ShelfOnly (setIfailPin true s) (evalRide (flickered s)) := by
  have h := inputFlicker_shelf (s := setIfailPin true s) ho
  rw [inputFlicker_eq (s := setIfailPin true s) ho] at h
  exact h

theorem flicker_stage {s : State} (hr : s.ilc.lastR ≠ 0) : StageTaken (flickered s) (evalRide (flickered s)) :=
  evalRide_stage (fun h => ShelfState.noConfusion h) hr (heldBack_grants _)

theorem flicker_exhausted {s : State} (ho : OpenLaw s) (hr : s.ilc.lastR = 0) :
    (evalRide (flickered s)).ilc = { s.ilc with state := .exhausted, ifail := true, restore := none } ∧
      ShedNoted (fun _ => true) (exhaustedNotice s) s (evalRide (flickered s)) := by
  have ho' : OpenLaw (flickered s) := ridesAgain_open (s := setIfailPin true s) ho
  have hilc := exhaustedPart_ilc (flickered s)
  obtain ⟨hshed, -, -⟩ := exhaustedPart_outcome ho'
  rw [evalRide_exhausted (s := flickered s) hr rfl]
  generalize exhaustedPart (flickered s) = t at *
  exact ⟨hilc, hshed.shed, hshed.notice, hshed.early, hshed.records⟩

/-- Settles O45. -/
theorem ifailAndRestore : Obligations.IfailAndRestore := by
  intro s w hfree ho hshelf hw
  refine ⟨fun h => ?_, fun h hr => ?_, fun h hr => ?_, fun h => ?_, fun h => ?_, fun h => ?_, fun h => ?_, fun h => ?_, fun h => ?_⟩
  · rw [exec_ifailAssert hfree, ifailAsserted_normal (s := setIfailPin true s) h, enterSagQualify_eq (s := setIfailPin true s) ho]
    rfl
  · have hside := flicker_shelf ho
    have hstage := flicker_stage hr
    rw [exec_ifailAssert hfree, flicker_eq ho h]
    generalize evalRide (flickered s) = t at *
    refine ⟨t, rfl, hstage.ilc, hside.1, hside.2, hstage.grants, fun hle => ?_, fun hlt => ?_⟩
    · rw [hstage.low hle]
      exact ⟨rfl, rfl⟩
    · exact ⟨(hstage.high hlt).shed, (hstage.high hlt).notice⟩
  · have hside := flicker_shelf ho
    obtain ⟨hilc, hshed⟩ := flicker_exhausted ho hr
    rw [exec_ifailAssert hfree, flicker_eq ho h]
    generalize evalRide (flickered s) = t at *
    exact ⟨t, rfl, hilc, hside.1, hside.2, hshed.shed, hshed.notice⟩
  · rw [exec_ifailAssert hfree, ifailAsserted_other (s := setIfailPin true s) h]
    rfl
  · have hout := sagRidden_outcome (s := setIfailPin false s) rfl
    rw [exec_ifailRelease hfree, ifailReleased_sag (s := setIfailPin false s) h]
    generalize sagRidden (setIfailPin false s) = t at *
    obtain ⟨hside, hilc, hnotice, hnext, hheld⟩ := hout
    rw [sagOver_eq (s := setIfailPin false s) hw, ← (show w = sagWidth (setIfailPin false s) from hw)] at *
    exact ⟨t, rfl, hside.1, hside.2, hilc, hnotice, hnext ho, fun _ => hheld⟩
  · rw [exec_ifailRelease hfree, ifailReleased_riding (s := setIfailPin false s) h,
      enterRestoreHold_eq (s := inputBack (setIfailPin false s)) ho]
    rfl
  · rw [exec_ifailRelease hfree, ifailReleased_other (s := setIfailPin false s) h]
    rfl
  · rw [exec_restoreExpiry hfree, restoreEnds, if_neg fun hc => h hc.1]
  · have hagain := restoreNormal_again s
    rw [exec_restoreExpiry hfree, restoreEnds, if_pos ⟨h, hshelf.2.2.1.mpr h⟩]
    generalize restoreNormal s = t at *
    exact ⟨t, rfl, hagain.shelf.1, hagain.shelf.2, hagain.ilc, hagain.notice, fun _ => hagain.notHeld,
      fun hroom => ⟨hagain.freed ho hroom, hagain.running ho hroom⟩, fun ht hm hroom => hagain.recovery ht ho hroom hm⟩

end Sys2Proof.Machine
end

section
/-! PROOFS. The end of the qualify timer and the stage thresholds (R96 to R99, R104). -/
namespace Sys2Proof.Machine

/-! ### A test aborted outside NORMAL -/

/-- What an aborted test leaves alone, for a part that has no grants to give (R84, R156). -/
structure TestGone (why : AbortReason) (s t : State) : Prop where
  frame : t = { s with test := t.test, bbus := t.bbus, notices := t.notices }
  test : t.test = if s.testActive then abortedTest why s.test else s.test
  grants : (∀ b : BbuId, s.bbus[b].grant = 0) → ∀ b : BbuId, t.bbus[b].grant = 0
  records : s.notices.records <+: t.notices.records
  length : t.notices.records.length ≤ s.notices.records.length + 1

theorem withTestEnded_grant {why : AbortReason} {b : BbuId} {s : State} (h : ∀ b : BbuId, s.bbus[b].grant = 0) (c : BbuId) :
    (withTestEnded why b s).bbus[c].grant = 0 := by
  have hget : (withTestEnded why b s).bbus[c] = if b = c then { s.bbus[b] with testPower := 0 } else s.bbus[c] :=
    vector_set_get _ _ _ _
  rw [hget]
  split
  · exact h b
  · exact h c

theorem abortTest_outside {why : AbortReason} {s : State} (hn : s.ilc.state ≠ .normal)
    (ht : s.testActive = true → s.test.target.isSome) : TestGone why s (abortTest why s) := by
  by_cases ha : s.testActive = true
  · obtain ⟨b, hb⟩ := Option.isSome_iff_exists.mp (ht ha)
    obtain ⟨hframe, htest, -, -⟩ := abortTest_outcome (why := why) ha hb
    have hended : ∀ c : BbuId, (∀ b : BbuId, s.bbus[b].grant = 0) →
        (if s.test.phase = .discharge then recomputeGrants (withTestEnded why b s) else withTestEnded why b s).bbus[c].grant = 0 :=
      fun c hg => by
        split
        · rw [recomputeGrants_outside (s := withTestEnded why b s) hn]
          simp
        · exact withTestEnded_grant hg c
    have hnotices : (if s.test.phase = .discharge then recomputeGrants (withTestEnded why b s) else withTestEnded why b s).notices = s.notices := by
      split <;> rfl
    refine ⟨hframe, by rw [htest, if_pos ha], fun hg c => ?_, ?_, ?_⟩
    · rw [abortTest_active ha hb, post_bbus]
      exact hended c hg
    · rw [abortTest_active ha hb, ← hnotices]
      exact post_records _ _ _ _
    · rw [abortTest_active ha hb, ← hnotices]
      exact post_length _ _ _ _
  · have hsame : abortTest why s = s := if_neg ha
    rw [hsame]
    exact ⟨rfl, by rw [if_neg ha], fun hg => hg, List.prefix_rfl, Nat.le_succ _⟩

/-! ### The failure has qualified -/

/-- The part in RIDE-THROUGH before INPUT-LOST is posted (R96). -/
def qualified (s : State) : State :=
  heldBack { s with ilc := { s.ilc with sagStart := none, stage := 0, qualify := none, state := .rideThrough } }

/-- The part in RIDE-THROUGH as the reserve is first looked at (R96). -/
def qualifiedTold (s : State) : State := abortTest .inputLost (post .inputLost none (some s.ilc.lastR) (qualified s))

theorem qualifyFailure_eq {s : State} (ho : OpenLaw s) : qualifyFailure s = evalRide (qualifiedTold s) := by
  have hset : setShelf .rideThrough { s with ilc := { s.ilc with sagStart := none, stage := 0, qualify := none } } = qualified s :=
    setShelf_outside .rideThrough { s with ilc := { s.ilc with sagStart := none, stage := 0, qualify := none } } (by decide) ho
  unfold qualifyFailure
  dsimp only
  rw [hset]
  rfl

/-- The input loss record in RIDE-THROUGH as it is entered (R96). -/
def ridingIlc (s : State) : InputLoss := { s.ilc with sagStart := none, stage := 0, qualify := none, state := .rideThrough }

/-- The part as it has been told that the failure has qualified. -/
structure Told (s u : State) : Prop where
  frame : u = withRackOf { s with ilc := ridingIlc s, test := u.test } u
  trays : u.trays = s.trays
  openRun : OpenLaw u
  grants : ∀ b : BbuId, u.bbus[b].grant = 0
  test : u.test = if s.testActive then abortedTest .inputLost s.test else s.test
  notice : NoticeNext { kind := .inputLost, subject := none, value := some s.ilc.lastR, time := s.time } s u
  length : u.notices.records.length ≤ s.notices.records.length + 2

theorem qualifiedTold_told {s : State} (ho : OpenLaw s) (ht : s.testActive = true → s.test.target.isSome) : Told s (qualifiedTold s) := by
  have hopen : OpenLaw (qualified s) := heldBack_open (s := { s with ilc := ridingIlc s }) ho
  have hgrants : ∀ b : BbuId, (qualified s).bbus[b].grant = 0 := heldBack_grants _
  have hpost : post .inputLost none (some s.ilc.lastR) (qualified s) =
      { qualified s with notices := (post .inputLost none (some s.ilc.lastR) (qualified s)).notices } := post_eq _ _ _ _
  have hopen' := hopen.post .inputLost none (some s.ilc.lastR)
  have hlength := post_length .inputLost none (some s.ilc.lastR) (qualified s)
  have hnext : NoticeNext { kind := .inputLost, subject := none, value := some s.ilc.lastR, time := s.time } s
      (post .inputLost none (some s.ilc.lastR) (qualified s)) := noticeNext_post (by rfl) (by rfl)
  have hgrants' : ∀ b : BbuId, (post .inputLost none (some s.ilc.lastR) (qualified s)).bbus[b].grant = 0 := fun b => by
    rw [post_bbus]
    exact hgrants b
  have hgone := abortTest_outside (why := .inputLost) (s := post .inputLost none (some s.ilc.lastR) (qualified s))
    (by rw [post_ilc]; exact fun h => ShelfState.noConfusion h)
    (by rw [hpost]; exact ht)
  have hrack : post .inputLost none (some s.ilc.lastR) (qualified s) =
      withRackOf { s with ilc := ridingIlc s } (post .inputLost none (some s.ilc.lastR) (qualified s)) := by
    rw [hpost]
    rfl
  have heq : qualifiedTold s = abortTest .inputLost (post .inputLost none (some s.ilc.lastR) (qualified s)) := rfl
  rw [← heq] at hgone
  generalize qualifiedTold s = u at *
  generalize post .inputLost none (some s.ilc.lastR) (qualified s) = p at *
  obtain ⟨hframe, htest, hzero, hrecords, hlen⟩ := hgone
  have htrays : u.trays = p.trays := (congrArg State.trays hframe).trans rfl
  have hrun : u.run = p.run := (congrArg State.run hframe).trans rfl
  have hactive : p.testActive = s.testActive := (congrArg State.testActive hpost).trans rfl
  have hptest : p.test = s.test := (congrArg State.test hpost).trans rfl
  refine ⟨?_, htrays.trans ((congrArg State.trays hpost).trans rfl), hopen'.congr htrays hrun, hzero hgrants', ?_, hnext.then_more hrecords,
    hlen.trans (Nat.succ_le_succ hlength)⟩
  · calc u = { p with test := u.test, bbus := u.bbus, notices := u.notices } := hframe
      _ = { withRackOf { s with ilc := ridingIlc s } p with test := u.test, bbus := u.bbus, notices := u.notices } :=
        congrArg (fun x : State => { x with test := u.test, bbus := u.bbus, notices := u.notices }) hrack
      _ = withRackOf { s with ilc := ridingIlc s, test := u.test } { p with test := u.test, bbus := u.bbus, notices := u.notices } := rfl
      _ = withRackOf { s with ilc := ridingIlc s, test := u.test } u := congrArg _ hframe.symm
  · rw [htest, hactive, hptest]

/-- What the evaluation at the end of the qualify time leaves alone. -/
theorem qualify_frame {s u t : State} (hu : u = withRackOf { s with ilc := ridingIlc s, test := u.test } u) (h : ShelfOnly u t) :
    t = withRackOf { s with ilc := t.ilc, test := u.test } t := by
  calc t = withRackOf { u with ilc := t.ilc } t := h.1
    _ = withRackOf { withRackOf { s with ilc := ridingIlc s, test := u.test } u with ilc := t.ilc } t :=
      congrArg (fun x : State => withRackOf { x with ilc := t.ilc } t) hu
    _ = withRackOf { s with ilc := t.ilc, test := u.test } t := rfl

/-- What a set that is shed for the exhaustion or a stage tells, in terms of the part before the notices on the way. -/
theorem ShedNoted.shed_of {picked : Tray → Bool} {n : Notice} {s u t : State} (h : ShedNoted picked n u t) (htrays : u.trays = s.trays) :
    ShedWhere picked s t := by
  have hs := h.shed
  rw [ShedWhere, htrays] at hs
  exact hs

/-! ### The thresholds -/

theorem threshold_put (p : Params) (j : Fin 3) (v : Nat) : (paramPut p (9 + j.val) v).hostSilence = p.hostSilence := by
  match j with
  | 0 => rfl
  | 1 => rfl
  | 2 => rfl

theorem threshold_clamp (j : Fin 3) (v : Nat) :
    paramClamp (9 + j.val) v = min 65535 v ∧ paramClamped (9 + j.val) v = decide (65535 < v) := by
  have hclamp : clamp 0 65535 v = min 65535 v := by rw [clamp, Nat.zero_max]
  have hrange : (!inRange 0 65535 v) = decide (65535 < v) := by
    simp only [inRange, Nat.zero_le, decide_true, Bool.true_and]
    rw [← decide_not, decide_eq_decide]
    exact Nat.not_le
  match j with
  | 0 => exact ⟨hclamp, hrange⟩
  | 1 => exact ⟨hclamp, hrange⟩
  | 2 => exact ⟨hclamp, hrange⟩

theorem applyParam_threshold (j : Fin 3) (v : Nat) {s : State} (h : s.ilc.state = .rideThrough) :
    applyParam (9 + j.val) v s = evalStage (setParams (paramPut s.params (9 + j.val) v) s) := by
  match j with
  | 0 => exact if_pos h
  | 1 => exact if_pos h
  | 2 => exact if_pos h

theorem answerSetShelfParam_threshold (j : Fin 3) (v : Nat) {s : State} (hsave : s.store.saving = none) (h : s.ilc.state = .rideThrough) :
    answerSetShelfParam (9 + j.val) v s =
      (.ack (decide (65535 < v)) false, evalStage (setParams (paramPut s.params (9 + j.val) (min 65535 v)) s)) := by
  obtain ⟨hclamp, hclamped⟩ := threshold_clamp j v
  rw [answerSetShelfParam, if_neg (Nat.not_lt.mpr (Nat.le_trans (Nat.add_le_add_left (Nat.le_of_lt_succ j.isLt) 9) (by decide))),
    if_neg (Bool.eq_false_iff.mp (saveInFlight_of_none s hsave)), hclamp, hclamped, applyParam_threshold j _ h]

/-- No class is as low as stage 0. -/
theorem shedWhere_stage_zero {s t : State} (h : t.trays = s.trays) : ShedWhere (inStage 0) s t := by
  have hnone : ∀ x : Tray, inStage 0 x = false := fun x => by
    rw [inStage]
    refine Bool.eq_false_iff.mpr fun hc => ?_
    obtain ⟨h1, h0⟩ := Bool.and_eq_true_iff.mp hc
    exact absurd (Nat.le_trans (of_decide_eq_true h1) (of_decide_eq_true h0)) (by decide)
  intro i
  rw [h, hnone]
  exact ⟨fun h => Bool.noConfusion h, fun h => Bool.noConfusion h, fun h => Bool.noConfusion h, fun _ => rfl⟩

/-- The evaluation of the stage, whatever the reserve (R97, R98). -/
theorem evalStage_outcome {s : State} (hn : s.ilc.state ≠ .normal) :
    (evalStage s).ilc = { s.ilc with stage := max s.ilc.stage (reachedStage s.params s.ilc.lastTEst) } ∧
      (reachedStage s.params s.ilc.lastTEst ≤ s.ilc.stage → evalStage s = s) ∧
      (s.ilc.stage < reachedStage s.params s.ilc.lastTEst →
        ShedNoted (inStage (reachedStage s.params s.ilc.lastTEst)) (stageNotice (reachedStage s.params s.ilc.lastTEst) s) s (evalStage s)) := by
  rcases Nat.lt_or_ge s.ilc.stage (reachedStage s.params s.ilc.lastTEst) with h | h
  · obtain ⟨hnoted, hilc, -⟩ := raiseStage_outcome hn (reachedStage s.params s.ilc.lastTEst)
    rw [evalStage_high h]
    exact ⟨by rw [hilc, Nat.max_eq_right (Nat.le_of_lt h)], fun hle => absurd h (Nat.not_lt.mpr hle), fun _ => hnoted⟩
  · rw [evalStage_low h]
    exact ⟨by rw [Nat.max_eq_left h], fun _ => rfl, fun hlt => absurd hlt (Nat.not_lt.mpr h)⟩

/-- The frame of a threshold that is taken. -/
theorem threshold_frame {s t : State} {r : Request} {p : Params} (hp : p.hostSilence = s.params.hostSilence)
    (h : ShelfOnly (setParams p (asked r s)) t) (a : Answer) {i : InputLoss} (hi : t.ilc = i) :
    replying r a t = answered r a (withRackOf { s with ilc := i, params := p } (replying r a t)) := by
  have hasked : (asked r s).hli = (asked r { s with params := p }).hli := by
    simp only [asked, hp]
  have hframe : t = asked r (withRackOf { s with ilc := i, params := p } t) := by
    calc t = withRackOf { setParams p (asked r s) with ilc := t.ilc } t := h.1
      _ = withRackOf { s with ilc := i, params := p, hli := (asked r s).hli } t := by rw [hi]; rfl
      _ = withRackOf { s with ilc := i, params := p, hli := (asked r { s with params := p }).hli } t := by rw [hasked]
      _ = asked r (withRackOf { s with ilc := i, params := p } t) := rfl
  exact congrArg (replying r a) hframe

theorem exec_qualifyExpiry {s : State} (h : s.held = none) : exec .qualifyExpiry s = .next (qualifyEnds s) := awake_free qualifyEnds h

/-- Settles O46. -/
theorem qualifyAndStages : Obligations.QualifyAndStages := by
  intro s tag j value k ho hshelf htest
  refine ⟨fun hfree h => ?_, fun hfree h => ?_, fun hready hsave h hk => ?_⟩
  · rw [exec_qualifyExpiry hfree, qualifyEnds, if_neg fun hc => h hc.1]
  · have htold := qualifiedTold_told ho fun ha => (htest.1 ha).2
    have hilc : (qualifiedTold s).ilc = ridingIlc s := (congrArg State.ilc htold.frame).trans rfl
    have hparams : (qualifiedTold s).params = s.params := (congrArg State.params htold.frame).trans rfl
    have htime : (qualifiedTold s).time = s.time := (congrArg State.time htold.frame).trans rfl
    have hifail : s.ilc.ifail = true := by rw [hshelf.1, h]; rfl
    have hrestore : s.ilc.restore = none := by
      refine Option.not_isSome_iff_eq_none.mp fun hs => ?_
      exact ShelfState.noConfusion (h.symm.trans (hshelf.2.2.1.mp hs))
    rw [exec_qualifyExpiry hfree, qualifyEnds, if_pos ⟨h, hshelf.2.1.mpr h⟩, qualifyFailure_eq ho]
    generalize qualifiedTold s = u at *
    have hside := evalRide_shelf u
    have hframe := qualify_frame htold.frame hside
    have htests : (evalRide u).test = u.test := (congrArg State.test hside.1).trans rfl
    rw [← htests] at hframe
    by_cases hr : s.ilc.lastR = 0
    · have hex : evalRide u = exhaustedPart u := evalRide_exhausted (by rw [hilc]; exact hr) (by rw [hilc]; exact hifail)
      have hi := exhaustedPart_ilc u
      obtain ⟨hnoted, hgrants, -⟩ := exhaustedPart_outcome htold.openRun
      rw [← hex] at hi hnoted hgrants
      have hnotice : exhaustedNotice u = exhaustedNotice s := by
        rw [exhaustedNotice, exhaustedNotice, htold.trays, htime]
      rw [hnotice] at hnoted
      generalize evalRide u = t at *
      refine ⟨t, rfl, hframe, htold.notice.then_more hnoted.records, htests.trans htold.test, grantTotal_zero hgrants, fun _ => ⟨?_, ?_, fun hroom => ?_⟩,
        fun hne => absurd hr hne⟩
      · rw [hi, hilc, ridingIlc, ← hrestore]
      · exact hnoted.shed_of htold.trays
      · exact hnoted.early (Nat.le_trans (Nat.add_le_add_right htold.length 2) hroom)
    · have hn : u.ilc.state ≠ .normal := by
        rw [hilc]
        exact fun h => ShelfState.noConfusion h
      have hstage := evalRide_stage hn (by rw [hilc]; exact hr) htold.grants
      have hreached : reachedStage u.params u.ilc.lastTEst = reachedStage s.params s.ilc.lastTEst := by
        rw [hparams, hilc]
        rfl
      have hzero : u.ilc.stage = 0 := by
        rw [hilc]
        rfl
      obtain ⟨hi, hgrants, hlow, hhigh⟩ := hstage
      rw [hzero, hreached] at hi hlow hhigh
      have hshed : ShedWhere (inStage (reachedStage s.params s.ilc.lastTEst)) s (evalRide u) ∧
          u.notices.records <+: (evalRide u).notices.records := by
        rcases Nat.eq_zero_or_pos (reachedStage s.params s.ilc.lastTEst) with hk | hk
        · rw [hlow (Nat.le_of_eq hk), hk]
          exact ⟨shedWhere_stage_zero htold.trays, List.prefix_rfl⟩
        · exact ⟨(hhigh hk).shed_of htold.trays, (hhigh hk).records⟩
      generalize evalRide u = t at *
      refine ⟨t, rfl, hframe, htold.notice.then_more hshed.2, htests.trans htold.test, hgrants, fun he => absurd he hr, fun _ => ⟨?_, hshed.1⟩⟩
      rw [hi, hilc, Nat.zero_max]
      rfl
  · have hgo := fun {t a} (ha : answerBody (.setShelfParam (9 + j.val) value) s.hli.arm
        (asked ⟨0x0A, tag, .setShelfParam (9 + j.val) value⟩ s) = (a, t)) => request_of_answer (kind := 0x0A) (tag := tag) hready ha
    have hreply := hgo (answerSetShelfParam_threshold j value (s := asked ⟨0x0A, tag, .setShelfParam (9 + j.val) value⟩ s) hsave h)
    have hout := evalStage_outcome (s := setParams (paramPut s.params (9 + j.val) (min 65535 value))
      (asked ⟨0x0A, tag, .setShelfParam (9 + j.val) value⟩ s)) (fun hn => ShelfState.noConfusion (h.symm.trans hn))
    have hside := evalStage_shelf (setParams (paramPut s.params (9 + j.val) (min 65535 value))
      (asked ⟨0x0A, tag, .setShelfParam (9 + j.val) value⟩ s))
    have hframe := fun {i} (hi) => threshold_frame (i := i) (threshold_put s.params j _) hside (.ack (decide (65535 < value)) false) hi
    obtain ⟨hi, hlow, hhigh⟩ := hout
    rw [hk]
    refine ⟨_, hreply, hframe hi, hside.2, fun hle => ?_, fun hlt => ⟨(hhigh hlt).shed, (hhigh hlt).early⟩⟩
    have hsame := hlow hle
    exact ⟨(congrArg State.trays hsame).trans rfl, (congrArg State.notices hsame).trans rfl⟩

end Sys2Proof.Machine
end

section
/-! PROOFS. A reserve that is handed on (R66, R82, R92, R97 to R99). -/
namespace Sys2Proof.Machine

/-! ### The kinds of the notices that are posted -/

/-- The notices posted on the way are of these kinds. -/
structure OnlyKinds (p : NoticeKind → Bool) (s t : State) : Prop where
  records : s.notices.records <+: t.notices.records
  kinds : ∀ k, p k = false → NoneOfKind k s t

namespace OnlyKinds
variable {p q : NoticeKind → Bool} {s t u : State}

theorem refl (s : State) : OnlyKinds p s s := ⟨List.prefix_rfl, fun _ _ => rfl⟩

theorem of_eq (h : t.notices = s.notices) : OnlyKinds p s t := ⟨by rw [h], fun _ _ => by rw [NoneOfKind, h]⟩

theorem trans (h : OnlyKinds p s t) (k : OnlyKinds p t u) : OnlyKinds p s u :=
  ⟨h.records.trans k.records, fun x hx => (k.kinds x hx).trans (h.kinds x hx)⟩

theorem mono (h : OnlyKinds p s t) (hpq : ∀ k, q k = false → p k = false) : OnlyKinds q s t :=
  ⟨h.records, fun k hk => h.kinds k (hpq k hk)⟩

theorem post (k : NoticeKind) (x v : Option Nat) (s : State) (hk : p k = true) : OnlyKinds p s (post k x v s) :=
  ⟨post_records k x v s, fun _ hk' => post_noneOfKind x v s fun e => Bool.false_ne_true (hk'.symm.trans (e ▸ hk))⟩

theorem post_of (h : t.notices = s.notices) (k : NoticeKind) (x v : Option Nat) (hk : p k = true) : OnlyKinds p s (Machine.post k x v t) :=
  (OnlyKinds.of_eq h).trans (.post k x v t hk)

end OnlyKinds

theorem RackNotes.only {s t : State} (h : RackNotes s t) : OnlyKinds rackKind s t := ⟨h.records, h.kinds⟩

/-- The kinds that the rack and the input loss controller post when a reserve is handed on. -/
def reserveKind : NoticeKind → Bool
  | .shedStage | .reserveExhausted => true
  | k => rackKind k

theorem RackNotes.reserve {s t : State} (h : RackNotes s t) : OnlyKinds reserveKind s t :=
  h.only.mono fun k => by cases k <;> simp [reserveKind, rackKind]

theorem shedSet_notes (l : List TrayId) (s : State) : RackNotes s (shedSet l s) := by
  unfold shedSet
  exact (RackNotes.of_eq (putTrays_notices l _ s)).trans (propagate_notes _ _)

theorem exhaustedPart_kinds (s : State) : OnlyKinds reserveKind s (exhaustedPart s) := by
  have hset : OnlyKinds reserveKind s (setShelf .exhausted { s with ilc := { s.ilc with restore := none } }) :=
    OnlyKinds.trans (t := { s with ilc := { s.ilc with restore := none } }) (.of_eq rfl) (setShelf_notes .exhausted _).reserve
  unfold exhaustedPart
  dsimp only
  generalize setShelf .exhausted { s with ilc := { s.ilc with restore := none } } = u at hset ⊢
  exact (hset.trans (shedSet_notes _ u).reserve).trans (.post _ _ _ _ rfl)

theorem enterRestoreHold_notes (s : State) : RackNotes s (enterRestoreHold s) :=
  RackNotes.trans (t := { s with ilc := { s.ilc with restore := some (s.params.restoreHold * 1000) } }) (.of_eq rfl)
    (setShelf_notes .restoreHold _)

theorem enterExhausted_kinds (s : State) : OnlyKinds reserveKind s (enterExhausted s) := by
  rw [enterExhausted_eq]
  split
  · exact exhaustedPart_kinds s
  · exact (exhaustedPart_kinds s).trans (enterRestoreHold_notes _).reserve

theorem raiseStage_kinds (k : Nat) (s : State) : OnlyKinds reserveKind s (raiseStage k s) := by
  have hshed := (RackNotes.of_eq (t := withStage k s) (s := s) rfl).trans
    (shedSet_notes (pickedSet (inStage k) (withStage k s)) (withStage k s))
  rw [raiseStage_eq]
  generalize shedSet (pickedSet (inStage k) (withStage k s)) (withStage k s) = u at *
  exact OnlyKinds.trans (t := u) hshed.reserve (.post _ _ _ _ rfl)

theorem evalRide_kinds (s : State) : OnlyKinds reserveKind s (evalRide s) := by
  unfold evalRide evalStage
  dsimp only
  split
  · exact enterExhausted_kinds s
  · split
    · exact raiseStage_kinds _ s
    · exact .refl s

theorem tEstArrival_kinds (s : State) : OnlyKinds reserveKind s (tEstArrival s) := by
  have hstored : OnlyKinds reserveKind s (withHanded s) := .of_eq rfl
  rcases tEstArrival_cases s with h | h | h <;> rw [h]
  · exact hstored.trans (evalRide_kinds _)
  · exact hstored.trans (enterExhausted_kinds _)
  · exact hstored

theorem tell_notes (s : State) : RackNotes s (tell s) := (evalStart_taken s).notes

theorem reserveChanged_kinds (s : State) : OnlyKinds reserveKind s (reserveChanged s) := by
  unfold reserveChanged
  dsimp only
  split
  · exact tEstArrival_kinds s
  · exact (tEstArrival_kinds s).trans (tell_notes _).reserve

/-! ### A unit that waits for its charging keeps a grant of 0 -/

/-- The unit has been put in service again and waits for an arrival at which it is CHARGING, with a grant of 0 (R49). -/
abbrev Awaiting (b : BbuId) (s : State) : Prop := s.bbus[b].awaitsCharging = true ∧ s.bbus[b].grant = 0

theorem Awaiting.congr {b : BbuId} {s t : State} (h : Awaiting b s) (ht : t.bbus = s.bbus) : Awaiting b t := by
  rw [Awaiting, ht]
  exact h

theorem Awaiting.grants {b : BbuId} {s : State} (h : Awaiting b s) : Awaiting b (recomputeGrants s) := by
  have hget := recomputeGrants_ineligible (b := b) (s := s) (grantEligible_awaits h.1)
  exact ⟨(congrArg Bbu.awaitsCharging hget).trans h.1, (congrArg Bbu.grant hget).trans rfl⟩

/-- No move of the rack gives it a grant. -/
theorem RackMove.awaiting {b : BbuId} {s t : State} (h : RackMove s t) (hs : Awaiting b s) : Awaiting b t := by
  induction h with
  | refl s => exact hs
  | trans _ _ h k => exact k (h hs)
  | note k x v s => exact hs.congr (post_bbus _ _ _ _)
  | grants s => exact hs.grants
  | deficit a u s => exact hs
  | run r s => exact hs
  | tray i t s => exact hs
  | start i s => exact hs

theorem setShelf_awaiting {b : BbuId} (new : ShelfState) {s : State} (h : Awaiting b s) : Awaiting b (setShelf new s) := by
  rw [setShelf_eq]
  have hin : Awaiting b (inShelf new s) := h
  generalize inShelf new s = u at *
  exact (((budgetHearsShelf_move u).trans (seqAfter_move u _)).trans (sequencerHearsShelf_move _)).awaiting hin

theorem exhaustedPart_awaiting {b : BbuId} {s : State} (h : Awaiting b s) : Awaiting b (exhaustedPart s) := by
  have hset : Awaiting b (setShelf .exhausted { s with ilc := { s.ilc with restore := none } }) := setShelf_awaiting .exhausted h
  unfold exhaustedPart
  dsimp only
  generalize setShelf .exhausted { s with ilc := { s.ilc with restore := none } } = u at *
  exact ((shedSet_move _ u).awaiting hset).congr (post_bbus _ _ _ _)

theorem enterRestoreHold_awaiting {b : BbuId} {s : State} (h : Awaiting b s) : Awaiting b (enterRestoreHold s) :=
  setShelf_awaiting .restoreHold (s := { s with ilc := { s.ilc with restore := some (s.params.restoreHold * 1000) } }) h

theorem enterExhausted_awaiting {b : BbuId} {s : State} (h : Awaiting b s) : Awaiting b (enterExhausted s) := by
  rw [enterExhausted_eq]
  split
  · exact exhaustedPart_awaiting h
  · exact enterRestoreHold_awaiting (exhaustedPart_awaiting h)

theorem evalRide_awaiting {b : BbuId} {s : State} (h : Awaiting b s) : Awaiting b (evalRide s) := by
  unfold evalRide evalStage
  dsimp only
  split
  · exact enterExhausted_awaiting h
  · split
    · rw [raiseStage_eq]
      have hstage : ∀ k, Awaiting b (withStage k s) := fun _ => h
      exact ((shedSet_move _ _).awaiting (hstage _)).congr (post_bbus _ _ _ _)
    · exact h

theorem reserveChanged_awaiting {b : BbuId} {s : State} (h : Awaiting b s) : Awaiting b (reserveChanged s) := by
  have hstored : Awaiting b (withHanded s) := h
  have harrival : Awaiting b (tEstArrival s) := by
    rcases tEstArrival_cases s with he | he | he <;> rw [he]
    · exact evalRide_awaiting hstored
    · exact enterExhausted_awaiting hstored
    · exact hstored
  unfold reserveChanged
  dsimp only
  split
  · exact harrival
  · exact (tell_move _).awaiting harrival

end Sys2Proof.Machine
end

section
/-! PROOFS. What the input loss controller makes of a reserve, with what comes before and after it in a command (R92, R97 to
R99). -/
namespace Sys2Proof.Machine

/-- What comes before the reserve is handed on: neither the rack nor the input loss controller has been reached. -/
structure Prelude (s y : State) : Prop where
  trays : y.trays = s.trays
  run : y.run = s.run
  ilc : y.ilc = s.ilc
  params : y.params = s.params
  time : y.time = s.time
  records : s.notices.records <+: y.notices.records
  stages : NoneOfKind .shedStage s y

/-- What comes after it: the input loss record, R and T_est stay, and outside NORMAL every tray. -/
structure Aftermath (u t : State) : Prop where
  ilc : t.ilc = u.ilc
  trays : u.ilc.state ≠ .normal → t.trays = u.trays
  records : u.notices.records <+: t.notices.records
  stages : NoneOfKind .shedStage u t
  reserve : t.reserve = u.reserve
  tEst : t.tEst = u.tEst

theorem Aftermath.trans {s t u : State} (h : Aftermath s t) (k : Aftermath t u) : Aftermath s u where
  ilc := k.ilc.trans h.ilc
  trays := fun hn => (k.trays (by rw [h.ilc]; exact hn)).trans (h.trays hn)
  records := h.records.trans k.records
  stages := k.stages.trans h.stages
  reserve := k.reserve.trans h.reserve
  tEst := k.tEst.trans h.tEst

theorem Aftermath.refl (s : State) : Aftermath s s := ⟨rfl, fun _ => rfl, List.prefix_rfl, rfl, rfl, rfl⟩

theorem evalStart_outside_trays {s : State} (hn : s.ilc.state ≠ .normal) : (evalStart s).trays = s.trays := by
  unfold evalStart
  split
  · have hloop := startLoop_outside hn (s.run.startQueue.length + 1)
    generalize startLoop (s.run.startQueue.length + 1) s = u at *
    exact (testUpDone_trays u).trans hloop.trays
  · rfl

theorem RackOnly.aftermath {s t : State} (h : RackOnly s t) (htrays : s.ilc.state ≠ .normal → t.trays = s.trays) (hnotes : RackNotes s t) :
    Aftermath s t :=
  ⟨h.ilc, htrays, hnotes.records, hnotes.kinds _ rfl, h.reserve, h.tEst⟩

theorem tell_aftermath (s : State) : Aftermath s (tell s) :=
  (RackOnly.of_side (tell_side s)).aftermath evalStart_outside_trays (tell_notes s)

theorem reserveChanged_aftermath (s : State) : Aftermath (tEstArrival s) (reserveChanged s) := by
  unfold reserveChanged
  dsimp only
  split
  · exact .refl _
  · exact tell_aftermath _

/-! ### The three ways of an arrival -/

theorem tEstArrival_ride {s : State} (h : s.ilc.state = .rideThrough) : tEstArrival s = evalRide (withHanded s) := by
  unfold tEstArrival
  dsimp only
  split
  · rfl
  all_goals next hs => exact ShelfState.noConfusion (h.symm.trans hs)

theorem tEstArrival_restoreHold {s : State} (h : s.ilc.state = .restoreHold) :
    tEstArrival s = if s.reserve = 0 ∧ 0 < s.ilc.lastR then enterExhausted (withHanded s) else withHanded s := by
  unfold tEstArrival
  dsimp only
  split
  case h_2 => rfl
  all_goals next hs => exact ShelfState.noConfusion (h.symm.trans hs)

theorem tEstArrival_stored {s : State} (h : s.ilc.state ≠ .rideThrough ∧ s.ilc.state ≠ .restoreHold) : tEstArrival s = withHanded s := by
  unfold tEstArrival
  dsimp only
  split
  case h_1 hs => exact absurd hs h.1
  case h_2 hs => exact absurd hs h.2
  all_goals rfl

theorem tEstArrival_quiet {s : State}
    (h : s.ilc.state = .normal ∨ s.ilc.state = .sagQualify ∨ s.ilc.state = .exhausted ∨
      (s.ilc.state = .restoreHold ∧ (s.reserve ≠ 0 ∨ s.ilc.lastR = 0))) : tEstArrival s = withHanded s := by
  have hstored : ∀ x : ShelfState, x ≠ .rideThrough → x ≠ .restoreHold → s.ilc.state = x → tEstArrival s = withHanded s :=
    fun x h1 h2 hx => tEstArrival_stored ⟨fun e => h1 (hx.symm.trans e), fun e => h2 (hx.symm.trans e)⟩
  rcases h with h | h | h | ⟨h, hr⟩
  · exact hstored _ (by decide) (by decide) h
  · exact hstored _ (by decide) (by decide) h
  · exact hstored _ (by decide) (by decide) h
  · rw [tEstArrival_restoreHold h]
    exact if_neg fun hc => hr.elim (fun hr => hr hc.1) fun hr => absurd hc.2 (by rw [hr]; exact Nat.lt_irrefl 0)

/-- Exhaustion in RESTORE-HOLD: the set is shed and the restore hold begins afresh (R99). -/
theorem enterExhausted_released {s : State} (ho : OpenLaw s) (hi : s.ilc.ifail = false) :
    (enterExhausted s).ilc = { s.ilc with state := .restoreHold, restore := some (s.params.restoreHold * 1000) } ∧
      ShedNoted (fun _ => true) (exhaustedNotice s) s (enterExhausted s) := by
  obtain ⟨hnoted, -, hopen⟩ := exhaustedPart_outcome ho
  have hilc := exhaustedPart_ilc s
  have hparams : (exhaustedPart s).params = s.params := (exhaustedPart_shelf s).params
  have hback : enterExhausted s = enterRestoreHold (exhaustedPart s) := by
    rw [enterExhausted_eq, if_neg]
    rw [hilc]
    exact Bool.eq_false_iff.mp hi
  rw [hback]
  generalize exhaustedPart s = u at *
  rw [enterRestoreHold_eq hopen]
  refine ⟨?_, hnoted.shed, hnoted.notice, hnoted.early, hnoted.records⟩
  calc ({ u.ilc with state := .restoreHold, restore := some (u.params.restoreHold * 1000) } : InputLoss)
      = { s.ilc with state := .restoreHold, restore := some (s.params.restoreHold * 1000) } := by rw [hilc, hparams]

theorem stageNotice_congr {s t : State} (htrays : t.trays = s.trays) (htime : t.time = s.time) (k : Nat) : stageNotice k t = stageNotice k s := by
  rw [stageNotice, stageNotice, pickedSet_congr htrays, htime]

theorem exhaustedNotice_congr {s t : State} (htrays : t.trays = s.trays) (htime : t.time = s.time) : exhaustedNotice t = exhaustedNotice s := by
  rw [exhaustedNotice, exhaustedNotice, htrays, htime]

/-- What the input loss controller makes of a reserve, in terms of the part before the command (R92, R97 to R99). -/
theorem reserveTaken_of {s y t : State} (hy : Prelude s y) (ht : Aftermath (tEstArrival y) t) (hshelf : ShelfLaw s) (ho : OpenLaw s) :
    ReserveTaken s t := by
  have hreserve : t.reserve = y.reserve := ht.reserve.trans (tEstArrival_shelf y).reserve
  have htEst : t.tEst = y.tEst := ht.tEst.trans (tEstArrival_shelf y).tEst
  have hopen : OpenLaw (withHanded y) := ho.congr hy.trays hy.run
  have hstate : y.ilc.state = s.ilc.state := by rw [hy.ilc]
  have hlast : y.ilc.lastR = s.ilc.lastR := by rw [hy.ilc]
  have hshed : ∀ {picked : Tray → Bool} {n : Notice}, ShedNoted picked n (withHanded y) (tEstArrival y) → t.ilc.state ≠ .normal →
      ShedWhere picked s t ∧ NoticeIn n t := fun {picked n} hnoted hn => by
    have hn' : (tEstArrival y).ilc.state ≠ .normal := by
      rw [← ht.ilc]
      exact hn
    have hwhere := hnoted.shed_of (s := s) hy.trays
    rw [ShedWhere, ← ht.trays hn'] at hwhere
    refine ⟨hwhere, fun hroom => ?_⟩
    exact ht.records.subset (hnoted.notice (lt_of_le_of_lt ht.records.length_le hroom))
  refine ⟨fun h => ?_, fun h hr => ?_, fun h hr => ?_⟩
  · rw [hreserve, ← hstate, ← hlast] at h
    have hquiet := tEstArrival_quiet h
    rw [hquiet] at ht
    have hilc : t.ilc = { s.ilc with lastR := t.reserve, lastTEst := t.tEst } := by
      rw [ht.ilc, hreserve, htEst, ← hy.ilc]
      rfl
    refine ⟨hilc, fun hn => ?_⟩
    exact (ht.trays (by rw [← ht.ilc, hilc]; exact hn)).trans hy.trays
  · rw [hreserve] at hr
    have hride : tEstArrival y = evalStage (withHanded y) := (tEstArrival_ride (hstate.trans h)).trans (if_neg hr)
    have hn : (withHanded y).ilc.state ≠ .normal := fun hn => ShelfState.noConfusion (h.symm.trans (hstate.symm.trans hn))
    have hout := evalStage_outcome hn
    rw [← hride] at hout
    obtain ⟨hilc, hlow, hhigh⟩ := hout
    have hk : reachedStage (withHanded y).params (withHanded y).ilc.lastTEst = reachedStage s.params t.tEst := by
      rw [htEst, ← hy.params]
      rfl
    have hstage : (withHanded y).ilc.stage = s.ilc.stage := by
      rw [← hy.ilc]
      rfl
    rw [hk, hstage] at hilc hlow hhigh
    have hresult : t.ilc = { s.ilc with
        lastR := t.reserve, lastTEst := t.tEst, stage := max s.ilc.stage (reachedStage s.params t.tEst) } := by
      rw [ht.ilc, hilc, hreserve, htEst, ← hy.ilc]
      rfl
    have hout : t.ilc.state ≠ .normal := by
      rw [hresult]
      exact fun he => ShelfState.noConfusion (h.symm.trans he)
    refine ⟨hresult, fun hle => ?_, fun hlt => ?_⟩
    · have hsame := hlow hle
      have hstages := ht.stages
      rw [hsame] at ht hstages
      exact ⟨(ht.trays hn).trans hy.trays, hstages.trans hy.stages⟩
    · have hnotice : stageNotice (reachedStage s.params t.tEst) (withHanded y) = stageNotice (reachedStage s.params t.tEst) s :=
        stageNotice_congr hy.trays hy.time _
      have hnoted := hhigh hlt
      rw [hnotice] at hnoted
      exact hshed hnoted hout
  · rw [hreserve] at hr
    have hnotice : exhaustedNotice (withHanded y) = exhaustedNotice s := exhaustedNotice_congr hy.trays hy.time
    rcases h with h | ⟨h, hp⟩
    · have hride : tEstArrival y = exhaustedPart (withHanded y) := by
        refine (tEstArrival_ride (hstate.trans h)).trans (evalRide_exhausted hr ?_)
        rw [show (withHanded y).ilc.ifail = y.ilc.ifail from rfl, hy.ilc, hshelf.1, h]
        rfl
      have hilc := exhaustedPart_ilc (withHanded y)
      obtain ⟨hnoted, -, -⟩ := exhaustedPart_outcome hopen
      rw [← hride] at hilc hnoted
      have hresult : t.ilc = { s.ilc with lastR := 0, lastTEst := t.tEst, state := .exhausted, restore := none } := by
        rw [ht.ilc, hilc, htEst, ← hr, ← hy.ilc]
        rfl
      rw [hnotice] at hnoted
      rw [if_pos h, if_pos h]
      refine ⟨hresult, hshed hnoted ?_⟩
      rw [hresult]
      exact fun he => ShelfState.noConfusion he
    · have hne : s.ilc.state ≠ .rideThrough := fun he => ShelfState.noConfusion (h.symm.trans he)
      have hhold : tEstArrival y = enterExhausted (withHanded y) :=
        (tEstArrival_restoreHold (hstate.trans h)).trans (if_pos ⟨hr, by rw [hlast]; exact hp⟩)
      have hreleased : (withHanded y).ilc.ifail = false := by
        rw [show (withHanded y).ilc.ifail = y.ilc.ifail from rfl, hy.ilc, hshelf.1, h]
        rfl
      obtain ⟨hilc, hnoted⟩ := enterExhausted_released hopen hreleased
      rw [← hhold] at hilc hnoted
      have hresult : t.ilc =
          { s.ilc with lastR := 0, lastTEst := t.tEst, state := .restoreHold, restore := some (s.params.restoreHold * 1000) } := by
        rw [ht.ilc, hilc, htEst, ← hr, ← hy.ilc, ← hy.params]
        rfl
      rw [hnotice] at hnoted
      rw [if_neg hne, if_neg hne]
      refine ⟨hresult, hshed hnoted ?_⟩
      rw [hresult]
      exact fun he => ShelfState.noConfusion he

end Sys2Proof.Machine
end

section
/-! PROOFS. What the answer of a module touches before its owner hears of it (R35, R36, R38). -/
namespace Sys2Proof.Machine

/-! ### Nothing but the rack, the modules, the input loss record and the test -/

/-- Beside the rack nothing has changed but the module bus, the rectifiers, the input loss record and the test. -/
def Tended (s t : State) : Prop := t = withRackOf { s with mbc := t.mbc, rects := t.rects, ilc := t.ilc, test := t.test } t

namespace Tended
variable {s t u : State}

theorem refl (s : State) : Tended s s := rfl

theorem trans (h : Tended s t) (k : Tended t u) : Tended s u := by
  calc u = withRackOf { t with mbc := u.mbc, rects := u.rects, ilc := u.ilc, test := u.test } u := k
    _ = withRackOf { withRackOf { s with mbc := t.mbc, rects := t.rects, ilc := t.ilc, test := t.test } t with
        mbc := u.mbc, rects := u.rects, ilc := u.ilc, test := u.test } u :=
      congrArg (fun x : State => withRackOf { x with mbc := u.mbc, rects := u.rects, ilc := u.ilc, test := u.test } u) h
    _ = withRackOf { s with mbc := u.mbc, rects := u.rects, ilc := u.ilc, test := u.test } u := rfl

theorem params (h : Tended s t) : t.params = s.params := (congrArg State.params h).trans rfl

theorem time (h : Tended s t) : t.time = s.time := (congrArg State.time h).trans rfl

end Tended

theorem RackOnly.mbc {s t : State} (h : RackOnly s t) : t.mbc = s.mbc := (congrArg State.mbc h.1).trans rfl

theorem RackOnly.test {s t : State} (h : RackOnly s t) : t.test = s.test := (congrArg State.test h.1).trans rfl

theorem ShelfOnly.mbc {s t : State} (h : ShelfOnly s t) : t.mbc = s.mbc := (RackOnly.mbc (s := { s with ilc := t.ilc }) h).trans rfl

theorem ShelfOnly.rects {s t : State} (h : ShelfOnly s t) : t.rects = s.rects := (RackOnly.rects (s := { s with ilc := t.ilc }) h).trans rfl

theorem ShelfOnly.test {s t : State} (h : ShelfOnly s t) : t.test = s.test := (RackOnly.test (s := { s with ilc := t.ilc }) h).trans rfl

theorem ShelfOnly.tended {s t : State} (h : ShelfOnly s t) : Tended s t := by
  rw [Tended, h.mbc, h.rects, h.test]
  exact h.1

theorem RackSide.tended {s t : State} (h : RackSide s t) : Tended s t := (ShelfOnly.of_rackOnly (.of_rackSide h)).tended

theorem TraySideOnly.tended {s t : State} (h : TraySideOnly s t) : Tended s t := (RackSide.of_side h).tended

/-! ### The bus before the owner hears of an answer -/

/-- The slot record of a module that has answered (R38). -/
def answeredSlot (x : ModuleSlot) : ModuleSlot := { x with missCount := 0, announced := false }

/-- The bus as the owner of a slot finds it when the slot has answered (R35, R38). -/
def slotHeard (k : SlotId) (s : State) : State :=
  if s.mbc.slots[k].announced then post .moduleBack (some k.val) none (putSlot k (answeredSlot s.mbc.slots[k]) s)
  else putSlot k (answeredSlot s.mbc.slots[k]) s

theorem slotAnswers_eq (k : SlotId) (payload : List Byte) (inService : Bool) (s : State) :
    slotAnswers k payload inService s = ownerArrival k payload inService (slotHeard k s) := rfl

theorem nextPoll_mbc (s : State) : nextPoll s = { s with mbc := (nextPoll s).mbc } := nextPoll_eq s

theorem nextPoll_poll (s : State) :
    (nextPoll s).mbc.poll.map Poll.slot = s.mbc.schedule.head? ∧ (nextPoll s).mbc.schedule = s.mbc.schedule.tail := by
  unfold nextPoll
  cases h : s.mbc.schedule with
  | nil => exact ⟨rfl, h⟩
  | cons k rest => exact ⟨rfl, rfl⟩

theorem slotHeard_mbc (k : SlotId) (s : State) :
    (slotHeard k s).mbc = { s.mbc with slots := s.mbc.slots.set k (answeredSlot s.mbc.slots[k]) } := by
  unfold slotHeard
  split
  · rw [post_mbc]
    rfl
  · rfl

theorem slotHeard_frame (k : SlotId) (s : State) :
    slotHeard k s = { s with mbc := (slotHeard k s).mbc, notices := (slotHeard k s).notices } := by
  unfold slotHeard
  split
  · rw [post_eq]
    rfl
  · rfl

/-- What an answer of a slot does to bus and notices before its owner hears of it. -/
structure SlotHeard (k : SlotId) (s t : State) : Prop where
  frame : t = { s with mbc := t.mbc, notices := t.notices }
  slots : t.mbc.slots = s.mbc.slots.set k (answeredSlot s.mbc.slots[k])
  schedule : t.mbc.schedule = s.mbc.schedule.tail
  poll : t.mbc.poll.map Poll.slot = s.mbc.schedule.head?
  kinds : OnlyKinds (fun n => n == .moduleBack) s t
  back : s.mbc.slots[k].announced = true →
    NoticeNext { kind := .moduleBack, subject := some k.val, value := none, time := s.time } s t
  silent : s.mbc.slots[k].announced = false → t.notices = s.notices
  length : t.notices.records.length ≤ s.notices.records.length + 1

theorem slotHeard_outcome (k : SlotId) (s : State) : SlotHeard k s (slotHeard k (nextPoll s)) := by
  have hnext := nextPoll_mbc s
  have hslots := nextPoll_slots s
  obtain ⟨hpoll, hschedule⟩ := nextPoll_poll s
  generalize nextPoll s = x at *
  have hx : x.notices = s.notices := (congrArg State.notices hnext).trans rfl
  have htime : x.time = s.time := (congrArg State.time hnext).trans rfl
  have hframe : slotHeard k x = { s with mbc := (slotHeard k x).mbc, notices := (slotHeard k x).notices } := by
    calc slotHeard k x = { x with mbc := (slotHeard k x).mbc, notices := (slotHeard k x).notices } := slotHeard_frame k x
      _ = { s with mbc := (slotHeard k x).mbc, notices := (slotHeard k x).notices } :=
        congrArg (fun y : State => { y with mbc := (slotHeard k x).mbc, notices := (slotHeard k x).notices }) hnext
  refine ⟨hframe, ?_, ?_, ?_, ?_, fun ha => ?_, fun ha => ?_, ?_⟩
  · rw [slotHeard_mbc, hslots]
  · rw [slotHeard_mbc]
    exact hschedule
  · rw [slotHeard_mbc]
    exact hpoll
  · have hpre : OnlyKinds (fun n => n == .moduleBack) s (putSlot k (answeredSlot x.mbc.slots[k]) x) := .of_eq hx
    unfold slotHeard
    split
    · exact hpre.trans (.post _ _ _ _ rfl)
    · exact hpre
  · rw [slotHeard, hslots, if_pos ha]
    exact noticeNext_post hx htime
  · rw [slotHeard, hslots, if_neg (by rw [ha]; exact Bool.false_ne_true)]
    exact hx
  · unfold slotHeard
    split
    · rw [← hx]
      exact post_length _ _ _ _
    · rw [← hx]
      exact Nat.le_succ _

/-! ### A valid reply -/

theorem pollReplyKind_eq (k : SlotId) : pollReplyKind k = if k.val < 6 then 0xE0 else 0xE1 := rfl

theorem validReply_iff (p : Poll) (station kind tag : Byte) (payload : List Byte) (check : BitVec 16) :
    validReply p station kind tag payload check = true ↔
      (payload = [] ∨ crc16 payload = check) ∧ station = slotStation p.slot ∧ kind = pollReplyKind p.slot ∧ tag = p.tag ∧
        payload.length = pollReplyLength p.slot := by
  simp only [validReply, checkGood, Bool.and_eq_true, Bool.or_eq_true, List.isEmpty_iff, beq_iff_eq, and_assoc]

/-- The command of a valid reply (R36, R38). -/
theorem exec_validReply {s : State} {p : Poll} {kind : Byte} {payload : List Byte} (hfree : s.held = none) (hp : s.mbc.poll = some p)
    (hkind : kind = pollReplyKind p.slot) (hlen : payload.length = pollReplyLength p.slot) :
    exec (.moduleReplyReceived (.complete (slotStation p.slot) kind p.tag payload (crc16 payload))) s =
      .next (afterRoster s (ownerArrival p.slot payload p.inService (slotHeard p.slot (nextPoll s)))) := by
  have hvalid : validReply p (slotStation p.slot) kind p.tag payload (crc16 payload) = true :=
    (validReply_iff _ _ _ _ _ _).mpr ⟨Or.inr rfl, rfl, hkind, rfl, hlen⟩
  have htaken : frameTaken (slotStation p.slot) kind p.tag payload (crc16 payload) s =
      afterRoster s (slotAnswers p.slot payload p.inService (nextPoll s)) := by
    unfold frameTaken
    rw [hp]
    exact if_pos hvalid
  exact (awake_free (busReply _) hfree).trans (congrArg _ htaken)

theorem ownerArrival_bbu (b : BbuId) (payload : List Byte) (inService : Bool) (s : State) :
    ownerArrival (bbuSlotNo b) payload inService s = bbuArrival b payload inService s := by
  rw [ownerArrival, slotOwner_bbuSlotNo]

theorem ownerArrival_rect (r : RectId) (payload : List Byte) (inService : Bool) (s : State) :
    ownerArrival (rectSlotNo r) payload inService s = rectArrival r payload inService s := by
  rw [ownerArrival, slotOwner_rectSlotNo]

theorem bbuSlotNo_reply (b : BbuId) : pollReplyKind (bbuSlotNo b) = 0xE1 ∧ pollReplyLength (bbuSlotNo b) = 7 := by
  revert b
  decide

theorem rectSlotNo_reply (r : RectId) : pollReplyKind (rectSlotNo r) = 0xE0 ∧ pollReplyLength (rectSlotNo r) = 8 := by
  revert r
  decide

end Sys2Proof.Machine
end

section
/-! PROOFS. The telemetry of a battery unit: the record, the account and the test (R54 to R64, R150 to R153). -/
namespace Sys2Proof.Machine

/-! ### The record after an arrival -/

/-- The record of a unit with the telemetry and the state of an arrival (R54, R55). -/
def toldBbu (t : BbuTelemetry) (inService : Bool) (u : Bbu) : Bbu :=
  { u with
    telemetry := some t, state := bbuStateOf t inService, awaitsCharging := u.awaitsCharging && bbuStateOf t inService != .charging }

/-- The record of a unit after an arrival, its account included (R59 to R64). -/
def arrivedBbu (now eta : Nat) (t : BbuTelemetry) (inService : Bool) (u : Bbu) : Bbu :=
  { toldBbu t inService u with
    seeded := true, firstSeedDone := seeds now u || u.firstSeedDone
    stored := if seeds now u then seedEnergy u t * 1000 else integrate eta now u t, lastArrival := some now }

/-- The part with telemetry and state stored, and MODULE-FAULT posted (R57). -/
def toldArrival (b : BbuId) (t : BbuTelemetry) (inService : Bool) (s : State) : State :=
  if bbuFaultNews s.bbus[b] (toldBbu t inService s.bbus[b]) then
    post .moduleFault (some (bbuSlotNo b).val) (some (bbuFaultCode t.fault)) (putBbu b (toldBbu t inService s.bbus[b]) s)
  else putBbu b (toldBbu t inService s.bbus[b]) s

/-- The part with the arrival's time kept, before the test hears of the arrival (R59). -/
def timedArrival (b : BbuId) (now : Nat) (s : State) : State := putBbu b { s.bbus[b] with lastArrival := some now } s

/-- The part as the test sequencer finds it at an arrival (R59 step 5). -/
def accounted (b : BbuId) (t : BbuTelemetry) (inService : Bool) (s : State) : State :=
  timedArrival b s.time (accountArrival b t (toldArrival b t inService s))

theorem bbuArrival_eq (b : BbuId) (payload : List Byte) (inService : Bool) (s : State) :
    bbuArrival b payload inService s =
      reportArrival b s.bbus[b]
        (reserveChanged
          (testArrival b (handedDelta s.time s.bbus[b] (bbuTelemetryOf payload)) (accounted b (bbuTelemetryOf payload) inService s))) := rfl

theorem putBbu_putBbu (b : BbuId) (u v : Bbu) (s : State) : putBbu b v (putBbu b u s) = putBbu b v s :=
  congrArg (fun x => { s with bbus := x }) (Vector.set_set u b.isLt)

theorem toldArrival_frame (b : BbuId) (t : BbuTelemetry) (inService : Bool) (s : State) :
    toldArrival b t inService s =
      { putBbu b (toldBbu t inService s.bbus[b]) s with notices := (toldArrival b t inService s).notices } := by
  unfold toldArrival
  split
  · rw [post_eq]
  · rfl

/-- The account's work of an arrival, for the record as it stands (R59 to R63). -/
def accountedBbu (now eta : Nat) (t : BbuTelemetry) (u : Bbu) : Bbu :=
  if seeds now u then { u with stored := seedEnergy u t * 1000, seeded := true, firstSeedDone := true }
  else { u with stored := integrate eta now u t }

theorem accountArrival_frame (b : BbuId) (t : BbuTelemetry) (s : State) :
    accountArrival b t s =
      { putBbu b (accountedBbu s.time s.params.efficiency t s.bbus[b]) s with notices := (accountArrival b t s).notices } := by
  unfold accountArrival accountedBbu
  dsimp only
  by_cases hs : seeds s.time s.bbus[b] = true
  · rw [if_pos hs, if_pos hs]
    split
    · rw [post_eq]
    · rfl
  · rw [if_neg hs, if_neg hs]

/-- An account that does not seed has a starting point (R60). -/
theorem accountedBbu_arrived (now eta : Nat) (t : BbuTelemetry) (inService : Bool) (u : Bbu) :
    { accountedBbu now eta t (toldBbu t inService u) with lastArrival := some now } = arrivedBbu now eta t inService u := by
  have hseeds : seeds now (toldBbu t inService u) = seeds now u := rfl
  unfold accountedBbu arrivedBbu
  rw [hseeds]
  cases h : seeds now u with
  | true => rfl
  | false =>
    have hseeded : u.seeded = true := by
      have h1 := (Bool.or_eq_false_iff.mp h).1
      simpa using h1
    simp [toldBbu, hseeded, integrate, dischargeDelta, chargeDelta, arrivalGap]

/-- What an arrival writes before the test hears of it. -/
structure Accounted (b : BbuId) (t : BbuTelemetry) (inService : Bool) (s y : State) : Prop where
  frame : y = { s with
    bbus := s.bbus.set b (arrivedBbu s.time s.params.efficiency t inService s.bbus[b]), notices := y.notices }
  kinds : OnlyKinds (fun n => n == .moduleFault || n == .bbuReseed) s y
  fault : bbuFaultNews s.bbus[b] (toldBbu t inService s.bbus[b]) = true →
    NoticeNext { kind := .moduleFault, subject := some (bbuSlotNo b).val, value := some (bbuFaultCode t.fault), time := s.time } s y
  noFault : bbuFaultNews s.bbus[b] (toldBbu t inService s.bbus[b]) = false → NoneOfKind .moduleFault s y
  reseed : bbuFaultNews s.bbus[b] (toldBbu t inService s.bbus[b]) = false → seeds s.time s.bbus[b] = true →
    s.bbus[b].firstSeedDone = true →
    NoticeNext
      { kind := .bbuReseed, subject := some (bbuSlotNo b).val, value := some (seedEnergy s.bbus[b] t), time := s.time } s y
  length : y.notices.records.length ≤ s.notices.records.length + 2

/-- What the account posts (R60). -/
theorem accountArrival_notices (b : BbuId) (t : BbuTelemetry) (s : State) :
    OnlyKinds (fun n => n == .bbuReseed) s (accountArrival b t s) ∧
      (accountArrival b t s).notices.records.length ≤ s.notices.records.length + 1 ∧
      (seeds s.time s.bbus[b] = true → s.bbus[b].firstSeedDone = true →
        NoticeNext
          { kind := .bbuReseed, subject := some (bbuSlotNo b).val, value := some (seedEnergy s.bbus[b] t), time := s.time }
          s (accountArrival b t s)) := by
  unfold accountArrival
  dsimp only
  by_cases hs : seeds s.time s.bbus[b] = true
  · rw [if_pos hs]
    by_cases hf : s.bbus[b].firstSeedDone = true
    · rw [if_pos hf]
      exact ⟨.post_of (by rfl) _ _ _ rfl, post_length _ _ _ _, fun _ _ => noticeNext_post (by rfl) (by rfl)⟩
    · rw [if_neg hf]
      exact ⟨.of_eq rfl, Nat.le_succ _, fun _ h => absurd h hf⟩
  · rw [if_neg hs]
    exact ⟨.of_eq rfl, Nat.le_succ _, fun h => absurd h hs⟩

theorem toldArrival_notices (b : BbuId) (t : BbuTelemetry) (inService : Bool) (s : State) :
    OnlyKinds (fun n => n == .moduleFault) s (toldArrival b t inService s) ∧
      (toldArrival b t inService s).notices.records.length ≤ s.notices.records.length + 1 ∧
      (bbuFaultNews s.bbus[b] (toldBbu t inService s.bbus[b]) = true →
        NoticeNext { kind := .moduleFault, subject := some (bbuSlotNo b).val, value := some (bbuFaultCode t.fault), time := s.time } s
          (toldArrival b t inService s)) ∧
      (bbuFaultNews s.bbus[b] (toldBbu t inService s.bbus[b]) = false → (toldArrival b t inService s).notices = s.notices) := by
  unfold toldArrival
  by_cases hn : bbuFaultNews s.bbus[b] (toldBbu t inService s.bbus[b]) = true
  · rw [if_pos hn]
    exact ⟨.post_of (by rfl) _ _ _ rfl, post_length _ _ _ _, fun _ => noticeNext_post (by rfl) (by rfl),
      fun h => Bool.noConfusion (h.symm.trans hn)⟩
  · rw [if_neg hn]
    exact ⟨.of_eq rfl, Nat.le_succ _, fun h => absurd h hn, fun _ => rfl⟩

theorem accounted_outcome (b : BbuId) (t : BbuTelemetry) (inService : Bool) (s : State) :
    Accounted b t inService s (accounted b t inService s) := by
  have hframe := toldArrival_frame b t inService s
  obtain ⟨hkinds, hlength, hfault, hsame⟩ := toldArrival_notices b t inService s
  have heq : accounted b t inService s = timedArrival b s.time (accountArrival b t (toldArrival b t inService s)) := rfl
  rw [heq]
  generalize toldArrival b t inService s = x at *
  have haccount := accountArrival_frame b t x
  obtain ⟨hkinds', hlength', hreseed⟩ := accountArrival_notices b t x
  have hbbus : x.bbus = s.bbus.set b (toldBbu t inService s.bbus[b]) := (congrArg State.bbus hframe).trans rfl
  have hrecord : x.bbus[b] = toldBbu t inService s.bbus[b] := by
    rw [hbbus]
    exact (vector_set_get _ _ _ _).trans (if_pos rfl)
  have htime : x.time = s.time := (congrArg State.time hframe).trans rfl
  have hparams : x.params = s.params := (congrArg State.params hframe).trans rfl
  rw [hrecord, htime, hparams] at haccount
  rw [hrecord, htime] at hreseed
  generalize accountArrival b t x = z at *
  have hnew : z.bbus[b] = accountedBbu s.time s.params.efficiency t (toldBbu t inService s.bbus[b]) := by
    rw [haccount]
    exact (vector_set_get _ _ _ _).trans (if_pos rfl)
  have hnotices : (timedArrival b s.time z).notices = z.notices := rfl
  have hmerge := hkinds.mono (q := fun n => n == .moduleFault || n == .bbuReseed) fun k hk => (Bool.or_eq_false_iff.mp hk).1
  have hmerge' := hkinds'.mono (q := fun n => n == .moduleFault || n == .bbuReseed) fun k hk => (Bool.or_eq_false_iff.mp hk).2
  refine ⟨?_, (hmerge.trans hmerge').trans (.of_eq rfl), fun h => (hfault h).then_more hkinds'.records, fun h => ?_, fun h hs hf => ?_,
    hlength'.trans (Nat.succ_le_succ hlength)⟩
  · have hrecord' : { z.bbus[b] with lastArrival := some s.time } = arrivedBbu s.time s.params.efficiency t inService s.bbus[b] := by
      rw [hnew]
      exact accountedBbu_arrived _ _ t inService s.bbus[b]
    generalize arrivedBbu s.time s.params.efficiency t inService s.bbus[b] = v at *
    generalize accountedBbu s.time s.params.efficiency t (toldBbu t inService s.bbus[b]) = a at *
    calc timedArrival b s.time z = putBbu b v z := by rw [timedArrival, hrecord']
      _ = putBbu b v { putBbu b a x with notices := z.notices } := congrArg (putBbu b v) haccount
      _ = { putBbu b v x with notices := z.notices } := congrArg (fun u : State => { u with notices := z.notices }) (putBbu_putBbu b a v x)
      _ = { putBbu b v { putBbu b (toldBbu t inService s.bbus[b]) s with notices := x.notices } with notices := z.notices } :=
        congrArg (fun u : State => { putBbu b v u with notices := z.notices }) hframe
      _ = { putBbu b v s with notices := z.notices } :=
        congrArg (fun u : State => { u with notices := z.notices }) (putBbu_putBbu b _ v s)
  · exact (hkinds'.kinds _ rfl).trans ((OnlyKinds.of_eq (p := fun _ => false) (hsame h)).kinds _ rfl)
  · have hnext := hreseed hs hf
    rw [NoticeNext, hsame h] at hnext
    exact hnext

end Sys2Proof.Machine
end

section
/-! PROOFS. The battery test at an arrival of its target (R150 to R153, R156). -/
namespace Sys2Proof.Machine

/-! ### The ways of an arrival -/

/-- The part with a discharge delta added to E_meas in DISCHARGE (R151). -/
def measuredTest (delta : Nat) (s : State) : State :=
  if s.test.phase = .discharge then { s with test := { s.test with eMeas := min eMeasTop (s.test.eMeas + delta) } } else s

section
variable {b : BbuId} {s : State}

theorem testArrival_other (delta : Nat) (h : s.isTarget b = false) : testArrival b delta s = s :=
  if_neg (Bool.eq_false_iff.mp h)

variable (ht : s.isTarget b = true)
include ht

theorem isTarget_phase : s.test.phase = .prepare ∨ s.test.phase = .discharge ∨ s.test.phase = .recharge :=
  (testActive_iff s).mp ((isTarget_iff s b).mp ht).1

theorem testArrival_prepare (delta : Nat) (hp : s.test.phase = .prepare) :
    testArrival b delta s = if s.bbus[b].lost then abortTest .bbuLost s else prepareCheck b s := by
  rw [testArrival, if_pos ht, hp]

theorem testArrival_discharge (delta : Nat) (hp : s.test.phase = .discharge) :
    testArrival b delta s =
      if s.bbus[b].lost then abortTest .bbuLost (measuredTest delta s)
      else if s.bbus[b].atCutoff then learnCapacity b (measuredTest delta s) else measuredTest delta s := by
  have hm : measuredTest delta s = { s with test := { s.test with eMeas := min eMeasTop (s.test.eMeas + delta) } } := if_pos hp
  rw [hm, testArrival, if_pos ht]
  split
  case h_2 => rfl
  all_goals next he => exact TestPhase.noConfusion (hp.symm.trans he)

theorem testArrival_recharge (delta : Nat) (hp : s.test.phase = .recharge) :
    testArrival b delta s =
      if s.bbus[b].lost then abortTest .bbuLost s else if s.bbus[b].state = .full then completeTest b s else s := by
  rw [testArrival, if_pos ht, hp]

/-- A target that is lost aborts its test, the delta added first (R150 to R153; assumption log 29). -/
theorem testArrival_lost (delta : Nat) (hl : s.bbus[b].lost = true) : testArrival b delta s = abortTest .bbuLost (measuredTest delta s) := by
  have hm : s.test.phase ≠ .discharge → measuredTest delta s = s := fun h => if_neg h
  rcases isTarget_phase ht with hp | hp | hp
  · rw [testArrival_prepare ht delta hp, if_pos hl, hm (by rw [hp]; exact TestPhase.noConfusion)]
  · rw [testArrival_discharge ht delta hp, if_pos hl]
  · rw [testArrival_recharge ht delta hp, if_pos hl, hm (by rw [hp]; exact TestPhase.noConfusion)]

end

/-! ### What the test touches -/

/-- The kinds of the notices of the test. -/
def testKind (k : NoticeKind) : Bool := k == .testDone || k == .bbuWeak

/-- What the test sequencer does to its record, its target and the grants. -/
structure TestMove (b : BbuId) (s u : State) : Prop where
  frame : u = { s with test := u.test, bbus := u.bbus, notices := u.notices }
  kinds : OnlyKinds testKind s u
  others : ∀ c : BbuId, c ≠ b → { u.bbus[c] with grant := 0 } = { s.bbus[c] with grant := 0 }
  state : u.bbus[b].state = s.bbus[b].state
  awaiting : Awaiting b s → Awaiting b u

/-- The target's record, grant and test power aside. -/
abbrev SameUnit (b : BbuId) (s t : State) : Prop :=
  { t.bbus[b] with grant := 0, testPower := 0 } = { s.bbus[b] with grant := 0, testPower := 0 }

theorem SameUnit.of_grants {b : BbuId} {s t : State} (h : GrantsOnly s t) : SameUnit b s t :=
  congrArg (fun u : Bbu => { u with testPower := 0 }) (h b)

theorem SameUnit.state {b : BbuId} {s t : State} (h : SameUnit b s t) : t.bbus[b].state = s.bbus[b].state := by
  have hstate := congrArg Bbu.state h
  exact hstate

/-- The test as DISCHARGE begins (R150). -/
def discharging (s : State) : State := { s with test := { s.test with phase := .discharge, prepare := .stopped, eMeas := 0 } }

theorem enterDischarge_eq (b : BbuId) (s : State) :
    enterDischarge b s = recomputeGrants (putBbu b { s.bbus[b] with testPower := s.test.testPower } (discharging s)) := rfl

/-- The health that a discharge shows (R152). -/
def testHealth (b : BbuId) (s : State) : Nat := min 100 (s.test.eMeas / 1000 * 100 / s.bbus[b].eRated)

/-- The part with the capacity and the health learned (R152). -/
def learned (b : BbuId) (s : State) : State :=
  { putBbu b { s.bbus[b] with eFull := clamp 1000 4000000 (s.test.eMeas / 1000), stored := 0, testPower := 0 } s with
    test := { s.test with health := some (testHealth b s) } }

/-- BBU-WEAK follows for a health below the threshold (R152). -/
def weakNoted (b : BbuId) (s : State) : State :=
  if testHealth b s < s.params.weakThreshold then post .bbuWeak (some (bbuSlotNo b).val) (some (testHealth b s)) (learned b s)
  else learned b s

/-- The test as RECHARGE begins (R152). -/
def recharging (s : State) : State := { s with test := { s.test with phase := .recharge, suspended := false } }

theorem learnCapacity_eq (b : BbuId) (s : State) : learnCapacity b s = recomputeGrants (recharging (weakNoted b s)) := rfl

namespace TestMove
variable {b : BbuId} {s t u : State}

theorem refl (b : BbuId) (s : State) : TestMove b s s := ⟨rfl, .refl s, fun _ _ => rfl, rfl, id⟩

theorem trans (h : TestMove b s t) (k : TestMove b t u) : TestMove b s u where
  frame := by
    calc u = { t with test := u.test, bbus := u.bbus, notices := u.notices } := k.frame
      _ = { s with test := u.test, bbus := u.bbus, notices := u.notices } :=
        congrArg (fun x : State => { x with test := u.test, bbus := u.bbus, notices := u.notices }) h.frame
  kinds := h.kinds.trans k.kinds
  others := fun c hc => (k.others c hc).trans (h.others c hc)
  state := k.state.trans h.state
  awaiting := fun ha => k.awaiting (h.awaiting ha)

theorem record (b : BbuId) (r : TestRecord) (s : State) : TestMove b s { s with test := r } :=
  ⟨rfl, .of_eq rfl, fun _ _ => rfl, rfl, id⟩

theorem grants (b : BbuId) (s : State) : TestMove b s (recomputeGrants s) :=
  ⟨rfl, .of_eq rfl, fun c _ => (recomputeGrants_side s).bbus c, (SameUnit.of_grants (recomputeGrants_side s).bbus).state, Awaiting.grants⟩

theorem post (k : NoticeKind) (x v : Option Nat) (s : State) (hk : testKind k = true) : TestMove b s (Machine.post k x v s) where
  frame := by rw [post_eq]
  kinds := .post k x v s hk
  others := fun c _ => by rw [post_bbus]
  state := by rw [post_bbus]
  awaiting := fun h => h.congr (post_bbus _ _ _ _)

theorem unit {v : Bbu} (hs : v.state = s.bbus[b].state) (ha : v.awaitsCharging = s.bbus[b].awaitsCharging) (hg : v.grant = s.bbus[b].grant) :
    TestMove b s (putBbu b v s) := by
  have hget : (putBbu b v s).bbus[b] = v := (putBbu_get _ _ _ _).trans (if_pos rfl)
  refine ⟨rfl, .of_eq rfl, fun c hc => ?_, ?_, fun h => ?_⟩
  · rw [putBbu_get, if_neg fun e => hc e.symm]
  · rw [hget, hs]
  · rw [Awaiting, hget, ha, hg]
    exact h

theorem abort {why : AbortReason} (ha : s.testActive = true) (hb : s.test.target = some b) : TestMove b s (abortTest why s) := by
  have hunit : TestMove b s (withTestEnded why b s) :=
    (TestMove.record b (abortedTest why s.test) s).trans (.unit (s := { s with test := abortedTest why s.test }) rfl rfl rfl)
  rw [abortTest_active ha hb]
  split
  · exact (hunit.trans (.grants b _)).trans (.post _ _ _ _ rfl)
  · exact hunit.trans (.post _ _ _ _ rfl)

theorem discharge (b : BbuId) (s : State) : TestMove b s (enterDischarge b s) := by
  have hunit : TestMove b s (putBbu b { s.bbus[b] with testPower := s.test.testPower } (discharging s)) :=
    TestMove.trans (t := discharging s) (.record b _ s) (.unit rfl rfl rfl)
  rw [enterDischarge_eq]
  exact hunit.trans (.grants b _)

theorem prepare (b : BbuId) (s : State) : TestMove b s (prepareCheck b s) := by
  unfold prepareCheck
  split
  · exact .discharge b s
  · exact .refl b s

theorem complete (b : BbuId) (s : State) : TestMove b s (completeTest b s) :=
  (TestMove.record b { s.test with phase := .done, outcome := some .completed } s).trans (.post _ _ _ _ rfl)

theorem measured (b : BbuId) (delta : Nat) (s : State) : TestMove b s (measuredTest delta s) := by
  unfold measuredTest
  split
  · exact .record b _ s
  · exact .refl b s

theorem learn (b : BbuId) (s : State) : TestMove b s (learnCapacity b s) := by
  have hlearned : TestMove b s (learned b s) :=
    TestMove.trans (t := putBbu b { s.bbus[b] with eFull := clamp 1000 4000000 (s.test.eMeas / 1000), stored := 0, testPower := 0 } s)
      (.unit rfl rfl rfl) (.record b _ _)
  have hnoted : TestMove b s (weakNoted b s) := by
    unfold weakNoted
    split
    · exact hlearned.trans (.post _ _ _ _ rfl)
    · exact hlearned
  rw [learnCapacity_eq]
  exact TestMove.trans (t := recharging (weakNoted b s)) (hnoted.trans (.record b _ _)) (.grants b _)

end TestMove

/-- An arrival is a move of the test (R150 to R153). -/
theorem testArrival_turn (b : BbuId) (delta : Nat) (s : State) : TestMove b s (testArrival b delta s) := by
  by_cases ht : s.isTarget b = true
  · obtain ⟨ha, hb⟩ := (isTarget_iff s b).mp ht
    have hactive : (measuredTest delta s).testActive = true ∧ (measuredTest delta s).test.target = some b := by
      unfold measuredTest
      split
      · exact ⟨ha, hb⟩
      · exact ⟨ha, hb⟩
    by_cases hl : s.bbus[b].lost = true
    · rw [testArrival_lost ht delta hl]
      exact (TestMove.measured b delta s).trans (.abort hactive.1 hactive.2)
    · rcases isTarget_phase ht with hp | hp | hp
      · rw [testArrival_prepare ht delta hp, if_neg hl]
        exact .prepare b s
      · rw [testArrival_discharge ht delta hp, if_neg hl]
        split
        · exact (TestMove.measured b delta s).trans (.learn b _)
        · exact .measured b delta s
      · rw [testArrival_recharge ht delta hp, if_neg hl]
        split
        · exact .complete b s
        · exact .refl b s
  · rw [testArrival_other delta (Bool.eq_false_iff.mpr ht)]
    exact .refl b s

/-! ### The target's record -/

theorem lost_congr {u v : Bbu} (h : u.state = v.state) : u.lost = v.lost := by
  rw [Bbu.lost, Bbu.lost, h]

theorem measuredTest_bbus (delta : Nat) (s : State) : (measuredTest delta s).bbus = s.bbus := by
  unfold measuredTest
  split <;> rfl

theorem measuredTest_target {b : BbuId} {s : State} (delta : Nat) (h : s.isTarget b = true) : (measuredTest delta s).isTarget b = true := by
  unfold measuredTest
  split
  · exact h
  · exact h

theorem measuredTest_test (delta : Nat) (s : State) :
    (measuredTest delta s).test =
      { s.test with eMeas := if s.test.phase = .discharge then min eMeasTop (s.test.eMeas + delta) else s.test.eMeas } := by
  unfold measuredTest
  split
  · rfl
  · rfl

section
variable {b : BbuId} {s : State} (ht : s.isTarget b = true)
include ht

/-- The abort of a lost target (R150 to R153, R156). -/
theorem testArrival_aborts (delta : Nat) (hl : s.bbus[b].lost = true) :
    (testArrival b delta s).test =
        abortedTest .bbuLost
          { s.test with eMeas := if s.test.phase = .discharge then min eMeasTop (s.test.eMeas + delta) else s.test.eMeas } ∧
      (testArrival b delta s).bbus[b].testPower = 0 ∧ SameUnit b s (testArrival b delta s) ∧
      NoticeNext { kind := .testDone, subject := some (6 + b.val), value := some 3, time := s.time } s (testArrival b delta s) := by
  obtain ⟨ha, hb⟩ := (isTarget_iff _ b).mp (measuredTest_target delta ht)
  obtain ⟨-, htest, hbbus, hnext⟩ := abortTest_outcome (why := .bbuLost) ha hb
  have hframe : (measuredTest delta s).notices = s.notices ∧ (measuredTest delta s).time = s.time := by
    unfold measuredTest
    split
    · exact ⟨rfl, rfl⟩
    · exact ⟨rfl, rfl⟩
  have hown := hbbus b
  rw [if_pos rfl, measuredTest_bbus] at hown
  rw [measuredTest_test] at htest
  rw [hframe.2, NoticeNext, hframe.1] at hnext
  rw [testArrival_lost ht delta hl]
  generalize abortTest .bbuLost (measuredTest delta s) = t at *
  refine ⟨htest, ?_, congrArg (fun u : Bbu => { u with testPower := 0 }) hown, hnext⟩
  have hpower := congrArg Bbu.testPower hown
  exact hpower

end

theorem aborted_notTarget {t : State} {why : AbortReason} {r : TestRecord} (h : t.test = abortedTest why r) (b : BbuId) :
    t.isTarget b = false := by
  refine Bool.eq_false_iff.mpr fun hc => ?_
  have hphase := isTarget_phase hc
  rw [h] at hphase
  rcases hphase with hp | hp | hp <;> exact TestPhase.noConfusion hp

/-- After an arrival no target of an active test is lost. -/
theorem testArrival_settled (b : BbuId) (delta : Nat) (s : State) :
    ((testArrival b delta s).isTarget b && (testArrival b delta s).bbus[b].lost) = false := by
  by_cases ht : s.isTarget b = true
  · by_cases hl : s.bbus[b].lost = true
    · rw [aborted_notTarget (testArrival_aborts ht delta hl).1, Bool.false_and]
    · rw [lost_congr (testArrival_turn b delta s).state, Bool.eq_false_iff.mpr hl, Bool.and_false]
  · rw [testArrival_other delta (Bool.eq_false_iff.mpr ht), Bool.eq_false_iff.mpr ht, Bool.false_and]

theorem prepareCheck_sameUnit (b : BbuId) (s : State) : SameUnit b s (prepareCheck b s) := by
  unfold prepareCheck
  split
  · have h := enterDischarge_bbus b b s
    exact congrArg (fun u : Bbu => { u with testPower := 0 }) h
  · rfl

theorem completeTest_sameUnit (b : BbuId) (s : State) : SameUnit b s (completeTest b s) := by
  rw [SameUnit, completeTest, post_bbus]

/-- Only the cutoff in DISCHARGE writes the target's account (R152). -/
theorem testArrival_sameUnit (b : BbuId) (delta : Nat) {s : State}
    (h : ¬ (s.isTarget b = true ∧ s.test.phase = .discharge ∧ s.bbus[b].atCutoff = true)) : SameUnit b s (testArrival b delta s) := by
  by_cases ht : s.isTarget b = true
  · by_cases hl : s.bbus[b].lost = true
    · exact (testArrival_aborts ht delta hl).2.2.1
    · rcases isTarget_phase ht with hp | hp | hp
      · rw [testArrival_prepare ht delta hp, if_neg hl]
        exact prepareCheck_sameUnit b s
      · rw [testArrival_discharge ht delta hp, if_neg hl, if_neg fun hc => h ⟨ht, hp, hc⟩, SameUnit, measuredTest_bbus]
      · rw [testArrival_recharge ht delta hp, if_neg hl]
        split
        · exact completeTest_sameUnit b s
        · rfl
  · rw [testArrival_other delta (Bool.eq_false_iff.mpr ht)]

end Sys2Proof.Machine
end

section
/-! PROOFS. What follows a battery unit's arrival: the report of its state and the grants (R49, R58, R77, R84). -/
namespace Sys2Proof.Machine

/-! ### The grants as they are distributed -/

/-- The grants are those of a distribution made now (R85). -/
abbrev Granted (s : State) : Prop := s = recomputeGrants s

/-- What the distribution looks at. -/
structure SameBasis (s t : State) : Prop where
  bbus : GrantsOnly s t
  test : t.test = s.test
  kT : t.kT = s.kT
  capacity : t.budget.c = s.budget.c
  margin : t.params.margin = s.params.margin
  shelf : t.ilc.state = s.ilc.state

theorem SameBasis.grantFor {s t : State} (h : SameBasis s t) (b : BbuId) :
    Machine.grantFor t.bbus b (grantOrder t) t.grantAvail = Machine.grantFor s.bbus b (grantOrder s) s.grantAvail := by
  have hbbu : ∀ c : BbuId, t.bbus[c].state = s.bbus[c].state ∧ t.bbus[c].inService = s.bbus[c].inService ∧
      t.bbus[c].awaitsCharging = s.bbus[c].awaitsCharging ∧ t.bbus[c].stored = s.bbus[c].stored ∧ t.bbus[c].eFull = s.bbus[c].eFull ∧
      t.bbus[c].maxCharge = s.bbus[c].maxCharge := fun c => by
    have hc := h.bbus c
    have h1 := congrArg Bbu.state hc
    have h2 := congrArg Bbu.inService hc
    have h3 := congrArg Bbu.awaitsCharging hc
    have h4 := congrArg Bbu.stored hc
    have h5 := congrArg Bbu.eFull hc
    have h6 := congrArg Bbu.maxCharge hc
    exact ⟨h1, h2, h3, h4, h5, h6⟩
  have heligible : grantEligible t = grantEligible s := by
    funext c
    obtain ⟨h1, h2, h3, -, -, -⟩ := hbbu c
    rw [grantEligible, grantEligible, h.test, h1, h2, h3]
  have hbefore : grantsBefore t.bbus = grantsBefore s.bbus := by
    funext a c
    obtain ⟨-, -, -, ha4, ha5, -⟩ := hbbu a
    obtain ⟨-, -, -, hc4, hc5, -⟩ := hbbu c
    rw [grantsBefore, grantsBefore, ha4, ha5, hc4, hc5]
  have hlist : ∀ (l : List BbuId) (n : Nat), Machine.grantFor t.bbus b l n = Machine.grantFor s.bbus b l n := fun l => by
    induction l with
    | nil => exact fun _ => rfl
    | cons x xs ih =>
      intro n
      obtain ⟨-, -, -, -, -, hx⟩ := hbbu x
      rw [Machine.grantFor, Machine.grantFor, hx, ih]
  have havail : t.grantAvail = s.grantAvail := by
    rw [State.grantAvail, State.grantAvail, h.kT, h.capacity, h.margin, h.shelf]
  rw [grantOrder, grantOrder, heligible, hbefore, havail, hlist]

theorem granted_iff (s : State) : Granted s ↔ ∀ b : BbuId, s.bbus[b].grant = grantFor s.bbus b (grantOrder s) s.grantAvail := by
  constructor
  · intro h b
    exact (congrArg (fun t : State => t.bbus[b].grant) h).trans (recomputeGrants_grant s b)
  · intro h
    have hbbus : (recomputeGrants s).bbus = s.bbus := by
      refine Vector.ext fun i hi => ?_
      have hone := recomputeGrants_get ⟨i, hi⟩ s
      rw [← h ⟨i, hi⟩] at hone
      exact hone
    rw [Granted, recomputeGrants_bbus, hbbus]

theorem SameBasis.granted {s t : State} (h : SameBasis s t) (hb : t.bbus = s.bbus) (hs : Granted s) : Granted t :=
  (granted_iff t).mpr fun b => by
    rw [h.grantFor b, ← (granted_iff s).mp hs b, hb]

theorem recomputeGrants_granted (s : State) : Granted (recomputeGrants s) := by
  have hbasis : SameBasis s (recomputeGrants s) := ⟨(recomputeGrants_side s).bbus, rfl, rfl, rfl, rfl, rfl⟩
  exact (granted_iff _).mpr fun b => (recomputeGrants_grant s b).trans (hbasis.grantFor b).symm

/-! ### The start rule leaves them so -/

theorem TraySideOnly.sameBasis {s t : State} (h : TraySideOnly s t) (hk : t.kT = s.kT) : SameBasis s t :=
  ⟨h.bbus, h.test, hk, h.capacity, by rw [h.params], by rw [h.ilc]⟩

/-- A step of the rack that leaves C, K_t and the grants as they are. -/
theorem Granted.same {s t : State} (hs : Granted s) (h : TraySideOnly s t) (hk : t.kT = s.kT) (hb : t.bbus = s.bbus) : Granted t :=
  (h.sameBasis hk).granted hb hs

theorem evalDeficit_granted {s : State} (hs : Granted s) : Granted (evalDeficit s) := by
  unfold evalDeficit
  split
  · exact hs
  · split
    · exact hs.same (setDeficit_side _ _ s) rfl rfl
    · exact recomputeGrants_granted _

/-- The budget distributes the grants again when K_t has changed (R75). -/
theorem afterBudget_granted {s0 s : State} (hs0 : Granted s0) (h : TraySideOnly s0 s) (hb : s.bbus = s0.bbus) : Granted (afterBudget s0 s) := by
  have hfirst : Granted (if s.kT = s0.kT then s else recomputeGrants s) := by
    split
    · next hk => exact hs0.same h hk hb
    · exact recomputeGrants_granted s
  unfold afterBudget
  dsimp only
  split
  · exact hfirst
  · exact evalDeficit_granted hfirst

theorem testUpDone_granted {s : State} (hs : Granted s) : Granted (testUpDone s) := by
  have htrays := testUpDone_trays s
  refine hs.same (testUpDone_side s) (kT_congr htrays) ?_
  by_cases hc : upComplete s = true
  · rw [testUpDone_complete hc]
    exact post_bbus _ _ _ _
  · rw [testUpDone_id (Bool.eq_false_iff.mpr hc)]

theorem trayPgRise_bbus (i : TrayId) (s : State) : (trayPgRise i s).bbus = s.bbus := by
  unfold trayPgRise
  dsimp only
  repeat' split
  · exact post_bbus _ _ _ _
  · rfl
  · rfl
  · exact post_bbus _ _ _ _
  · exact post_bbus _ _ _ _
  · rfl
  · exact post_bbus _ _ _ _
  · rfl
  · rfl

theorem startTray_granted (h : TrayId) {s : State} (hs : Granted s) : Granted (startTray h s) := by
  have hspaced : Granted (spaced s) := hs.same (run_side s _) rfl rfl
  have hbegun : Granted (beginInrush h (spaced s)) := afterBudget_granted hspaced (putTray_side _ _ _) rfl
  rw [startTray_eq]
  unfold entryPg
  split
  · exact afterBudget_granted hbegun (trayPgRise_side h _) (trayPgRise_bbus h _)
  · exact hbegun

theorem startLoop_granted (n : Nat) {s : State} (hs : Granted s) : Granted (startLoop n s) := by
  induction n generalizing s with
  | zero => exact hs
  | succ n ih =>
    unfold startLoop
    split
    · exact hs.same (run_side s _) rfl rfl
    · split
      · exact hs
      · exact hs.same (run_side s _) rfl rfl
      · exact ih (startTray_granted _ hs)

theorem evalStart_granted {s : State} (hs : Granted s) : Granted (evalStart s) := by
  unfold evalStart
  split
  · exact testUpDone_granted (startLoop_granted _ hs)
  · exact hs

theorem joinAll_bbus (l : List TrayId) (s : State) : (joinAll l s).bbus = s.bbus := by
  unfold joinAll
  induction l generalizing s with
  | nil => rfl
  | cons i l ih => exact ih _

/-- Trays that are taken up from OFF count for nothing yet (R3). -/
theorem joinAll_kT {l : List TrayId} {s : State} (h : ∀ i ∈ l, s.trays[i].state = .off) : (joinAll l s).kT = s.kT := by
  refine congrArg List.sum (List.map_congr_left fun i _ => ?_)
  rw [(joinAll_joined l s).tray i]
  split
  · next hi => rw [Tray.counted, Tray.counted, h i hi]; rfl
  · rfl

theorem createUp_granted {scope : Scope} {l : List TrayId} {s : State} (h : ∀ i ∈ l, s.trays[i].state = .off) (hs : Granted s) :
    Granted (createUp scope l s) := by
  have hnew : Granted (newUp scope s) := by
    have hbasis : SameBasis s (newUp scope s) := ⟨fun _ => rfl, rfl, rfl, rfl, rfl, rfl⟩
    exact hbasis.granted rfl hs
  rw [createUp_eq]
  exact evalStart_granted (hnew.same (joinAll_side l _) (joinAll_kT h) (joinAll_bbus l _))

theorem autoStartTest_granted {s : State} (hs : Granted s) : Granted (autoStartTest s) := by
  unfold autoStartTest
  split
  · refine createUp_granted (fun i hi => ?_) hs
    have he := (mem_eligibleIn.mp hi).2
    rw [← Tray.eligible_eq_joins] at he
    exact ((Tray.eligible_iff _).mp he).2.1
  · exact hs

theorem afterRoster_granted (s0 : State) {s : State} (hs : Granted s) : Granted (afterRoster s0 s) := by
  unfold afterRoster
  split
  · exact autoStartTest_granted hs
  · exact hs

/-! ### The report -/

/-- The budget with G_floor_eff and the grants recomputed (R77, R84). -/
def refloored (s : State) : State := recomputeGrants (recomputeFloor s)

/-- The budget and the sequencer as they hear of a unit's state (R58, R77, R84). -/
def budgetTold (s : State) : State := if (refloored s).budget.floorEff < s.budget.floorEff then tell (refloored s) else refloored s

theorem reportBbuState_eq (b : BbuId) (s : State) : reportBbuState b s = testHearsState b (budgetTold s) := rfl

/-- What a report leaves alone. -/
structure Reported (b : BbuId) (s t : State) : Prop where
  only : RackOnly s t
  outside : s.ilc.state ≠ .normal → t.trays = s.trays
  notes : RackNotes s t
  awaiting : Awaiting b s → Awaiting b t

theorem Reported.trans {b : BbuId} {s t u : State} (h : Reported b s t) (k : Reported b t u) : Reported b s u where
  only := h.only.trans k.only
  outside := fun hn => (k.outside (by rw [h.only.ilc]; exact hn)).trans (h.outside hn)
  notes := h.notes.trans k.notes
  awaiting := fun ha => k.awaiting (h.awaiting ha)

theorem Reported.refl (b : BbuId) (s : State) : Reported b s s := ⟨.refl s, fun _ => rfl, .refl s, id⟩

theorem Reported.aftermath {b : BbuId} {s t : State} (h : Reported b s t) : Aftermath s t := h.only.aftermath h.outside h.notes

theorem recomputeGrants_reported (b : BbuId) (s : State) : Reported b s (recomputeGrants s) :=
  ⟨.of_side (recomputeGrants_side s), fun _ => rfl, .of_eq rfl, Awaiting.grants⟩

theorem tell_reported (b : BbuId) (s : State) : Reported b s (tell s) :=
  ⟨.of_side (tell_side s), evalStart_outside_trays, tell_notes s, (tell_move s).awaiting⟩

theorem refloored_reported (b : BbuId) (s : State) : Reported b s (refloored s) := by
  have hfloor : Reported b s (recomputeFloor s) := ⟨⟨rfl, fun _ => rfl⟩, fun _ => rfl, .of_eq rfl, id⟩
  exact hfloor.trans (recomputeGrants_reported b _)

theorem budgetTold_reported (b : BbuId) (s : State) : Reported b s (budgetTold s) := by
  unfold budgetTold
  split
  · exact (refloored_reported b s).trans (tell_reported b _)
  · exact refloored_reported b s

theorem budgetTold_granted (s : State) : Granted (budgetTold s) := by
  have h : Granted (refloored s) := recomputeGrants_granted _
  unfold budgetTold
  split
  · exact evalStart_granted h
  · exact h

theorem RackOnly.isTarget {s t : State} (h : RackOnly s t) (b : BbuId) : t.isTarget b = s.isTarget b := by
  rw [State.isTarget, State.isTarget, State.testActive, State.testActive, h.test]

theorem RackOnly.lost {s t : State} (h : RackOnly s t) (b : BbuId) : t.bbus[b].lost = s.bbus[b].lost :=
  lost_congr (SameUnit.of_grants h.2).state

/-- The report of a state that costs no test anything (R58, R156). -/
theorem reportBbuState_settled {b : BbuId} {s : State} (h : (s.isTarget b && s.bbus[b].lost) = false) : reportBbuState b s = budgetTold s := by
  have honly := (budgetTold_reported b s).only
  rw [reportBbuState_eq]
  refine if_neg ?_
  rw [honly.isTarget, honly.lost, h]
  exact Bool.false_ne_true

theorem reportArrival_reported {b : BbuId} {old : Bbu} {s : State} (h : (s.isTarget b && s.bbus[b].lost) = false) :
    Reported b s (reportArrival b old s) := by
  unfold reportArrival
  split
  · rw [reportBbuState_settled h]
    exact budgetTold_reported b s
  · split
    · exact recomputeGrants_reported b s
    · exact .refl b s

/-- The arrival at which a unit put in service again is CHARGING distributes the grants (R49). -/
theorem reportArrival_granted {b : BbuId} {old : Bbu} {s : State} (h : (s.isTarget b && s.bbus[b].lost) = false)
    (hold : old.awaitsCharging = true) (hnew : s.bbus[b].awaitsCharging = false) : Granted (reportArrival b old s) := by
  unfold reportArrival
  split
  · rw [reportBbuState_settled h]
    exact budgetTold_granted s
  · rw [if_pos (by rw [hold, hnew]; rfl)]
    exact recomputeGrants_granted s

theorem afterRoster_reported (b : BbuId) (s0 s : State) : Reported b s (afterRoster s0 s) := by
  unfold afterRoster
  split
  · refine ⟨.of_rackSide (autoStartTest_side s), fun hn => ?_, autoStartTest_notes s, fun ha => ?_⟩
    · have hoff : autoStartTest s = s := if_neg fun hr => hn (autoStartReady_iff.mp hr).2.2.2.1
      rw [hoff]
    · unfold autoStartTest
      split
      · rw [createUp_eq]
        have hnew : Awaiting b (newUp .all s) := ha
        exact (evalStart_move _).awaiting (hnew.congr (joinAll_bbus _ _))
      · exact ha
  · exact .refl b s

end Sys2Proof.Machine
end

section
/-! PROOFS. A valid reply of a battery unit (R36, R38, R49, R54 to R66, R97 to R99, R150 to R153). -/
namespace Sys2Proof.Machine

/-! ### What follows the test's part -/

theorem reserveChanged_sides (s : State) (b : BbuId) :
    SameUnit b s (reserveChanged s) ∧ (reserveChanged s).isTarget b = s.isTarget b ∧ (reserveChanged s).bbus[b].lost = s.bbus[b].lost := by
  have h := reserveChanged_shelf s
  have hunit : SameUnit b s (reserveChanged s) := .of_grants h.2
  refine ⟨hunit, ?_, lost_congr hunit.state⟩
  rw [State.isTarget, State.isTarget, State.testActive, State.testActive, h.test]

/-- The rest of an arrival after the test's part. -/
def arrivalRest (b : BbuId) (old : Bbu) (s0 u : State) : State := afterRoster s0 (reportArrival b old (reserveChanged u))

/-- What the rest of an arrival leaves alone, when no target is lost (R58, R66). -/
structure Rest (b : BbuId) (u t : State) : Prop where
  shelf : ShelfOnly u t
  kinds : OnlyKinds reserveKind u t
  after : Aftermath (tEstArrival u) t
  awaiting : Awaiting b u → Awaiting b t

theorem arrivalRest_outcome {b : BbuId} {old : Bbu} (s0 : State) {u : State} (hs : (u.isTarget b && u.bbus[b].lost) = false) :
    Rest b u (arrivalRest b old s0 u) := by
  obtain ⟨-, htarget, hlost⟩ := reserveChanged_sides u b
  have hreport := reportArrival_reported (old := old) (s := reserveChanged u) (b := b) (by rw [htarget, hlost]; exact hs)
  have hshelf := reserveChanged_shelf u
  have hkinds := reserveChanged_kinds u
  have hafter := reserveChanged_aftermath u
  have hawait : Awaiting b u → Awaiting b (reserveChanged u) := reserveChanged_awaiting
  unfold arrivalRest
  generalize reserveChanged u = w at *
  have hrest := hreport.trans (afterRoster_reported b s0 _)
  exact ⟨hshelf.trans (.of_rackOnly hrest.only), hkinds.trans hrest.notes.reserve, hafter.trans hrest.aftermath,
    fun ha => hrest.awaiting (hawait ha)⟩

theorem Rest.handed {b : BbuId} {u t : State} (h : Rest b u t) : t.ilc.lastR = t.reserve ∧ t.ilc.lastTEst = t.tEst := by
  obtain ⟨hr, ht⟩ := tEstArrival_handed u
  have hshelf := tEstArrival_shelf u
  rw [h.after.ilc, h.after.reserve, h.after.tEst, hr, ht, hshelf.reserve, hshelf.tEst]
  exact ⟨rfl, rfl⟩

/-! ### The whole arrival -/

/-- The part as the test sequencer finds it after a battery unit's reply. -/
def replyTold (b : BbuId) (payload : List Byte) (inService : Bool) (s : State) : State :=
  accounted b (bbuTelemetryOf payload) inService (slotHeard (bbuSlotNo b) (nextPoll s))

/-- The part after the test sequencer's turn. -/
def replyTested (b : BbuId) (payload : List Byte) (inService : Bool) (s : State) : State :=
  testArrival b (handedDelta s.time s.bbus[b] (bbuTelemetryOf payload)) (replyTold b payload inService s)

/-- The command of a battery unit's valid reply. -/
theorem exec_bbuReply {s : State} {p : Poll} {b : BbuId} {payload : List Byte} (hfree : s.held = none) (hp : s.mbc.poll = some p)
    (hslot : p.slot = bbuSlotNo b) (hlen : payload.length = 7) :
    exec (.moduleReplyReceived (.complete (slotStation p.slot) 0xE1 p.tag payload (crc16 payload))) s =
      .next (arrivalRest b s.bbus[b] s (replyTested b payload p.inService s)) := by
  obtain ⟨hkind, hlength⟩ := bbuSlotNo_reply b
  rw [exec_validReply hfree hp (by rw [hslot]; exact hkind.symm) (by rw [hslot]; exact hlen.trans hlength.symm), hslot, ownerArrival_bbu,
    bbuArrival_eq]
  have hframe := (slotHeard_outcome (bbuSlotNo b) s).frame
  have htime : (slotHeard (bbuSlotNo b) (nextPoll s)).time = s.time := (congrArg State.time hframe).trans rfl
  have hbbus : (slotHeard (bbuSlotNo b) (nextPoll s)).bbus = s.bbus := (congrArg State.bbus hframe).trans rfl
  rw [htime, hbbus]
  rfl

/-- What a reply writes before the test hears of it. -/
structure ReplyTold (b : BbuId) (t : BbuTelemetry) (inService : Bool) (s y : State) : Prop where
  frame : y = { s with
    mbc := y.mbc, bbus := s.bbus.set b (arrivedBbu s.time s.params.efficiency t inService s.bbus[b]), notices := y.notices }
  slots : y.mbc.slots = s.mbc.slots.set (bbuSlotNo b) (answeredSlot s.mbc.slots[bbuSlotNo b])
  kinds : OnlyKinds (fun n => n == .moduleBack || n == .moduleFault || n == .bbuReseed) s y
  fault : bbuFaultNews s.bbus[b] (toldBbu t inService s.bbus[b]) = true →
    NoticeIn { kind := .moduleFault, subject := some (bbuSlotNo b).val, value := some (bbuFaultCode t.fault), time := s.time } y
  noFault : bbuFaultNews s.bbus[b] (toldBbu t inService s.bbus[b]) = false → NoneOfKind .moduleFault s y
  reseed : s.mbc.slots[bbuSlotNo b].announced = false → bbuFaultNews s.bbus[b] (toldBbu t inService s.bbus[b]) = false →
    seeds s.time s.bbus[b] = true → s.bbus[b].firstSeedDone = true →
    NoticeNext
      { kind := .bbuReseed, subject := some (bbuSlotNo b).val, value := some (seedEnergy s.bbus[b] t), time := s.time } s y
  length : y.notices.records.length ≤ s.notices.records.length + 3

theorem replyTold_told (b : BbuId) (payload : List Byte) (inService : Bool) (s : State) :
    ReplyTold b (bbuTelemetryOf payload) inService s (replyTold b payload inService s) := by
  have hheard := slotHeard_outcome (bbuSlotNo b) s
  unfold replyTold
  generalize slotHeard (bbuSlotNo b) (nextPoll s) = x at *
  generalize bbuTelemetryOf payload = t at *
  have haccounted := accounted_outcome b t inService x
  have htime : x.time = s.time := (congrArg State.time hheard.frame).trans rfl
  have hparams : x.params = s.params := (congrArg State.params hheard.frame).trans rfl
  have hbbus : x.bbus = s.bbus := (congrArg State.bbus hheard.frame).trans rfl
  obtain ⟨hframe, hkinds, hfault, hnoFault, hreseed, hlength⟩ := haccounted
  have hrecord : arrivedBbu x.time x.params.efficiency t inService x.bbus[b] = arrivedBbu s.time s.params.efficiency t inService s.bbus[b] := by
    rw [htime, hparams, hbbus]
  rw [hrecord] at hframe
  rw [htime, hbbus] at hfault hreseed
  rw [hbbus] at hnoFault
  generalize accounted b t inService x = y at *
  have hmbc : y.mbc = x.mbc := (congrArg State.mbc hframe).trans rfl
  have hkinds' := (hheard.kinds.mono (q := fun n => n == .moduleBack || n == .moduleFault || n == .bbuReseed) fun k hk => by
      simp at hk ⊢; tauto).trans
    (hkinds.mono fun k hk => by simp at hk ⊢; tauto)
  refine ⟨?_, ?_, hkinds', fun h => .of_next (hfault h) hkinds.records, fun h => ?_, fun ha h hs hf => ?_, ?_⟩
  · generalize arrivedBbu s.time s.params.efficiency t inService s.bbus[b] = v at *
    rw [hmbc]
    calc y = { x with bbus := x.bbus.set b v, notices := y.notices } := hframe
      _ = { s with mbc := x.mbc, bbus := s.bbus.set b v, notices := y.notices } :=
        congrArg (fun z : State => { z with bbus := z.bbus.set b v, notices := y.notices }) hheard.frame
  · rw [hmbc]
    exact hheard.slots
  · exact (hnoFault h).trans (hheard.kinds.kinds _ rfl)
  · have hnext := hreseed h hs hf
    rw [NoticeNext, hheard.silent ha] at hnext
    exact hnext
  · exact hlength.trans (Nat.add_le_add_right hheard.length 2)

end Sys2Proof.Machine
end

section
/-! PROOFS. A valid reply of a battery unit in the words of the statement (R54 to R64). -/
namespace Sys2Proof.Machine

/-! ### The bytes -/

theorem byte_toNat_eq_zero (b : Byte) : b.toNat = 0 ↔ b = 0 := by
  rw [← BitVec.toNat_inj]
  rfl

theorem yes_byte (b : Byte) : yes b.toNat = (b != 0) := by
  rw [Bool.eq_iff_iff, bne_iff_ne, ne_eq, ← byte_toNat_eq_zero]
  simp [yes]

theorem bbuFaultOf_none (n : Nat) : bbuFaultOf n = .none ↔ n = 0 := by
  unfold bbuFaultOf
  split <;> simp_all

theorem bbuFaultCode_faultOf (n : Nat) : bbuFaultCode (bbuFaultOf n) = min 4 n := by
  match n with
  | 0 => rfl
  | 1 => rfl
  | 2 => rfl
  | 3 => rfl
  | n + 4 => exact (Nat.min_eq_left (Nat.le_add_left 4 n)).symm

theorem bbuTelemetryOf_bytes (b0 b1 b2 b3 b4 b5 b6 : Byte) :
    bbuTelemetryOf [b0, b1, b2, b3, b4, b5, b6] =
      { power := max (-6000) (min 6000 (s16 b0 b1)), soc := min 100 b2.toNat, fullFlag := b3 != 0, cutoff := b4 != 0,
        cellTemp := max (-40) (min 125 (s8 b5)), fault := bbuFaultOf b6.toNat } := by
  rw [← yes_byte, ← yes_byte]
  rfl

theorem fault_none_iff (b : Byte) : bbuFaultOf b.toNat = .none ↔ b = 0 := (bbuFaultOf_none _).trans (byte_toNat_eq_zero b)

/-- The state of an arrival from its bytes (R55). -/
theorem bbuStateOf_bytes (b0 b1 b2 b3 b4 b5 b6 : Byte) (inService : Bool) {power : Int}
    (hpower : power = max (-6000) (min 6000 (s16 b0 b1))) :
    bbuStateOf (bbuTelemetryOf [b0, b1, b2, b3, b4, b5, b6]) inService =
      if b6 ≠ 0 then .faulted else if inService = false then .standby
      else if 20 ≤ power then .discharging else if b3 ≠ 0 then .full else .charging := by
  rw [bbuTelemetryOf_bytes, bbuStateOf, ← hpower]
  dsimp only
  simp only [ne_eq, fault_none_iff, Bool.not_eq_true', bne_iff_ne]

theorem bbuStateOf_charging {b0 b1 b2 b3 b4 b5 b6 : Byte} {inService : Bool} {power : Int}
    (hpower : power = max (-6000) (min 6000 (s16 b0 b1))) :
    bbuStateOf (bbuTelemetryOf [b0, b1, b2, b3, b4, b5, b6]) inService = .charging ↔
      b6 = 0 ∧ inService = true ∧ power < 20 ∧ b3 = 0 := by
  rw [bbuStateOf_bytes b0 b1 b2 b3 b4 b5 b6 inService hpower]
  repeat' split
  all_goals simp_all

theorem seeds_iff (now : Nat) (u : Bbu) : seeds now u = true ↔ u.seeded = false ∨ 500 < now - u.lastArrival.getD now := by
  simp only [seeds, Bool.or_eq_true, Bool.not_eq_true', decide_eq_true_eq]
  rfl

/-! ### News of a fault -/

theorem bbuFaultNews_iff (u : Bbu) (t : BbuTelemetry) (inService : Bool) :
    bbuFaultNews u (toldBbu t inService u) = true ↔
      t.fault ≠ .none ∧ (u.state ≠ .faulted ∨ u.telemetry.map (·.fault) ≠ some t.fault) := by
  have hstate : bbuStateOf t inService = .faulted ↔ t.fault ≠ .none := by
    unfold bbuStateOf
    repeat' split
    all_goals simp_all
  have hcode : t.fault ≠ .none → (u.faultCode ≠ t.fault ↔ u.telemetry.map (·.fault) ≠ some t.fault) := fun hf => by
    unfold Bbu.faultCode
    cases u.telemetry with
    | none => simp [hf.symm]
    | some x => simp
  simp only [bbuFaultNews, toldBbu, Bool.and_eq_true, Bool.or_eq_true, beq_iff_eq, bne_iff_ne, hstate]
  refine and_congr_right fun hf => or_congr_right ?_
  exact hcode hf

/-! ### The record -/

/-- The account either loses or gains (R62, R63). -/
theorem integrate_eq {now eta : Nat} {u : Bbu} {t : BbuTelemetry} {gap : Nat} (hgap : gap = now - u.lastArrival.getD now) :
    integrate eta now u t =
      min (u.eFull * 1000)
        (if 0 < t.power then u.stored - t.power.toNat * gap else u.stored + (-t.power).toNat * gap * eta / 100) := by
  rw [integrate, dischargeDelta, chargeDelta, arrivalGap, ← hgap]
  by_cases hp : 0 < t.power
  · rw [if_pos hp, Int.toNat_eq_zero.mpr (Int.neg_nonpos_of_nonneg hp.le), Nat.zero_mul, Nat.zero_mul, Nat.zero_div, Nat.add_zero]
  · rw [if_neg hp, Int.toNat_eq_zero.mpr (not_lt.mp hp), Nat.zero_mul, Nat.sub_zero]

/-- The record as the statement writes it (R54, R55, R59 to R64). -/
theorem arrivedBbu_bytes {now eta : Nat} {u : Bbu} {inService : Bool} {b0 b1 b2 b3 b4 b5 b6 : Byte} {power : Int} {gap : Nat}
    (hpower : power = max (-6000) (min 6000 (s16 b0 b1))) (hgap : gap = now - u.lastArrival.getD now) :
    ({ arrivedBbu now eta (bbuTelemetryOf [b0, b1, b2, b3, b4, b5, b6]) inService u with grant := 0, testPower := 0 } : Bbu) =
      { u with
        grant := 0, testPower := 0, seeded := true, lastArrival := some now
        telemetry := some
          { power := power, soc := min 100 b2.toNat, fullFlag := b3 != 0, cutoff := b4 != 0,
            cellTemp := max (-40) (min 125 (s8 b5)), fault := bbuFaultOf b6.toNat }
        state :=
          if b6 ≠ 0 then .faulted else if inService = false then .standby
          else if 20 ≤ power then .discharging else if b3 ≠ 0 then .full else .charging
        awaitsCharging := u.awaitsCharging && !decide (b6 = 0 ∧ inService = true ∧ power < 20 ∧ b3 = 0)
        firstSeedDone := if u.seeded = false ∨ 500 < gap then true else u.firstSeedDone
        stored :=
          if u.seeded = false ∨ 500 < gap then u.eFull * min 100 b2.toNat / 100 * 1000
          else
            min (u.eFull * 1000)
              (if 0 < power then u.stored - power.toNat * gap else u.stored + (-power).toNat * gap * eta / 100) } := by
  generalize ht : bbuTelemetryOf [b0, b1, b2, b3, b4, b5, b6] = t
  have hbytes := bbuTelemetryOf_bytes b0 b1 b2 b3 b4 b5 b6
  have hstate := bbuStateOf_bytes b0 b1 b2 b3 b4 b5 b6 inService hpower
  have hcharging := bbuStateOf_charging (b2 := b2) (b3 := b3) (b4 := b4) (b5 := b5) (b6 := b6) (inService := inService) hpower
  rw [ht] at hbytes hstate hcharging
  rw [← hpower] at hbytes
  have hseeds := seeds_iff now u
  rw [← hgap] at hseeds
  have hawaits : (bbuStateOf t inService != .charging) = !decide (b6 = 0 ∧ inService = true ∧ power < 20 ∧ b3 = 0) := by
    rw [bne, Bool.not_inj_iff, Bool.eq_iff_iff, beq_iff_eq, decide_eq_true_iff]
    exact hcharging
  have hfirst : (seeds now u || u.firstSeedDone) = if u.seeded = false ∨ 500 < gap then true else u.firstSeedDone := by
    by_cases hs : u.seeded = false ∨ 500 < gap
    · rw [if_pos hs, hseeds.mpr hs, Bool.true_or]
    · rw [if_neg hs, Bool.eq_false_iff.mpr (mt hseeds.mp hs), Bool.false_or]
  have hpow : t.power = power := by rw [hbytes]
  have hsoc : t.soc = min 100 b2.toNat := by rw [hbytes]
  have hstored : (if seeds now u = true then seedEnergy u t * 1000 else integrate eta now u t) =
      if u.seeded = false ∨ 500 < gap then u.eFull * min 100 b2.toNat / 100 * 1000
      else
        min (u.eFull * 1000)
          (if 0 < power then u.stored - power.toNat * gap else u.stored + (-power).toNat * gap * eta / 100) := by
    rw [integrate_eq hgap, seedEnergy, hpow, hsoc]
    simp only [hseeds]
  unfold arrivedBbu toldBbu
  dsimp only
  rw [hawaits, hstate, hfirst, hstored, ← hbytes]

end Sys2Proof.Machine
end

section
/-! PROOFS. A valid reply of a battery unit: the obligation (R36, R38, R49, R54 to R66, R97 to R99). -/
namespace Sys2Proof.Machine

theorem Tended.of_frame {s t : State} (h : t = { s with mbc := t.mbc, bbus := t.bbus, test := t.test, notices := t.notices }) : Tended s t := by
  rw [Tended]
  generalize t.mbc = m at h
  generalize t.bbus = v at h
  generalize t.test = r at h
  generalize t.notices = n at h
  subst h
  rfl

/-- What the whole of an arrival is made of. -/
structure BbuReply (b : BbuId) (t : BbuTelemetry) (inService : Bool) (s y u v : State) : Prop where
  told : ReplyTold b t inService s y
  test : TestMove b y u
  rest : Rest b u v

namespace BbuReply
variable {b : BbuId} {t : BbuTelemetry} {inService : Bool} {s y u v : State} (h : BbuReply b t inService s y u v)
include h

theorem tended_told : Tended s y := by
  have hframe := h.told.frame
  refine .of_frame ?_
  generalize y.mbc = m at hframe
  generalize hn : y.notices = n at hframe
  generalize arrivedBbu s.time s.params.efficiency t inService s.bbus[b] = a at hframe
  subst hframe
  rfl

theorem tended : Tended s v := by
  have htest : Tended y u := by
    have hframe := h.test.frame
    refine .of_frame ?_
    generalize u.test = r at hframe
    generalize u.bbus = w at hframe
    generalize u.notices = n at hframe
    subst hframe
    rfl
  exact (h.tended_told.trans htest).trans h.rest.shelf.tended

theorem told_bbus (c : BbuId) : y.bbus[c] = if b = c then arrivedBbu s.time s.params.efficiency t inService s.bbus[b] else s.bbus[c] := by
  have hbbus : y.bbus = s.bbus.set b (arrivedBbu s.time s.params.efficiency t inService s.bbus[b]) :=
    (congrArg State.bbus h.told.frame).trans rfl
  rw [hbbus]
  exact vector_set_get _ _ _ _

theorem told_own : y.bbus[b] = arrivedBbu s.time s.params.efficiency t inService s.bbus[b] := (h.told_bbus b).trans (if_pos rfl)

theorem others (c : BbuId) (hc : c ≠ b) : { v.bbus[c] with grant := 0 } = { s.bbus[c] with grant := 0 } := by
  refine (h.rest.shelf.2 c).trans ((h.test.others c hc).trans ?_)
  rw [h.told_bbus c, if_neg fun e => hc e.symm]

theorem mbc : v.mbc = y.mbc := h.rest.shelf.mbc.trans ((congrArg State.mbc h.test.frame).trans rfl)

theorem told_test : y.test = s.test := (congrArg State.test h.told.frame).trans rfl

theorem rects : v.rects = s.rects :=
  h.rest.shelf.rects.trans ((congrArg State.rects h.test.frame).trans ((congrArg State.rects h.told.frame).trans rfl))

theorem frame : v = withRackOf { s with mbc := v.mbc, ilc := v.ilc, test := v.test } v := by
  have htended := h.tended
  rw [Tended, h.rects] at htended
  exact htended

theorem records : y.notices.records <+: v.notices.records := h.test.kinds.records.trans h.rest.kinds.records

theorem later (k : NoticeKind) (ht : testKind k = false) (hr : reserveKind k = false) : NoneOfKind k y v :=
  (h.rest.kinds.kinds k hr).trans (h.test.kinds.kinds k ht)

theorem isPrelude : Prelude s u where
  trays := (congrArg State.trays h.test.frame).trans ((congrArg State.trays h.told.frame).trans rfl)
  run := (congrArg State.run h.test.frame).trans ((congrArg State.run h.told.frame).trans rfl)
  ilc := (congrArg State.ilc h.test.frame).trans ((congrArg State.ilc h.told.frame).trans rfl)
  params := (congrArg State.params h.test.frame).trans ((congrArg State.params h.told.frame).trans rfl)
  time := (congrArg State.time h.test.frame).trans ((congrArg State.time h.told.frame).trans rfl)
  records := h.told.kinds.records.trans h.test.kinds.records
  stages := (h.test.kinds.kinds _ rfl).trans (h.told.kinds.kinds _ rfl)

end BbuReply

/-- The steps of an arrival. -/
theorem reply_steps (b : BbuId) (payload : List Byte) (inService : Bool) (s : State) :
    BbuReply b (bbuTelemetryOf payload) inService s (replyTold b payload inService s) (replyTested b payload inService s)
      (arrivalRest b s.bbus[b] s (replyTested b payload inService s)) :=
  ⟨replyTold_told b payload inService s, testArrival_turn b _ _, arrivalRest_outcome s (testArrival_settled b _ _)⟩

/-- The unit was awaited and is CHARGING now: the arrival distributes the grants (R49). -/
theorem arrivalRest_granted {b : BbuId} {old : Bbu} (s0 : State) {u : State} (hs : (u.isTarget b && u.bbus[b].lost) = false)
    (hold : old.awaitsCharging = true) (hnew : u.bbus[b].awaitsCharging = false) : Granted (arrivalRest b old s0 u) := by
  obtain ⟨hunit, htarget, hlost⟩ := reserveChanged_sides u b
  have hawaits := congrArg Bbu.awaitsCharging hunit
  exact afterRoster_granted s0 (reportArrival_granted (by rw [htarget, hlost]; exact hs) hold (hawaits.trans hnew))

theorem bbuSlotNo_val (b : BbuId) : (bbuSlotNo b).val = 6 + b.val := by
  revert b
  decide

/-- Settles O39. -/
theorem batteryReply : Obligations.BatteryReply := by
  intro s p b b0 b1 b2 b3 b4 b5 b6 power gap hfree hp hslot hpower hgap hcut
  have hsteps := reply_steps b [b0, b1, b2, b3, b4, b5, b6] p.inService s
  have hexec := exec_bbuReply (payload := [b0, b1, b2, b3, b4, b5, b6]) hfree hp hslot rfl
  have hsettled := testArrival_settled b (handedDelta s.time s.bbus[b] (bbuTelemetryOf [b0, b1, b2, b3, b4, b5, b6]))
    (replyTold b [b0, b1, b2, b3, b4, b5, b6] p.inService s)
  have hgranted := arrivalRest_granted (old := s.bbus[b]) s hsettled
  have hsame := testArrival_sameUnit b (handedDelta s.time s.bbus[b] (bbuTelemetryOf [b0, b1, b2, b3, b4, b5, b6]))
    (s := replyTold b [b0, b1, b2, b3, b4, b5, b6] p.inService s)
  have hrecord := arrivedBbu_bytes (now := s.time) (eta := s.params.efficiency) (u := s.bbus[b]) (inService := p.inService) (b2 := b2) (b3 := b3)
    (b4 := b4) (b5 := b5) (b6 := b6) hpower hgap
  have hnews := bbuFaultNews_iff s.bbus[b] (bbuTelemetryOf [b0, b1, b2, b3, b4, b5, b6]) p.inService
  have hcharging := bbuStateOf_charging (b2 := b2) (b3 := b3) (b4 := b4) (b5 := b5) (b6 := b6) (inService := p.inService) hpower
  have hbytes := bbuTelemetryOf_bytes b0 b1 b2 b3 b4 b5 b6
  have hcode := bbuFaultCode_faultOf b6.toNat
  have hnone := fault_none_iff b6
  have hfault : (bbuTelemetryOf [b0, b1, b2, b3, b4, b5, b6]).fault = bbuFaultOf b6.toNat := by rw [hbytes]
  have hcutoff : (bbuTelemetryOf [b0, b1, b2, b3, b4, b5, b6]).cutoff = (b4 != 0) := by rw [hbytes]
  have hsoc : (bbuTelemetryOf [b0, b1, b2, b3, b4, b5, b6]).soc = min 100 b2.toNat := by rw [hbytes]
  change BbuReply b _ p.inService s _ _ _ at hsteps
  have htested : replyTested b [b0, b1, b2, b3, b4, b5, b6] p.inService s =
      testArrival b (handedDelta s.time s.bbus[b] (bbuTelemetryOf [b0, b1, b2, b3, b4, b5, b6]))
        (replyTold b [b0, b1, b2, b3, b4, b5, b6] p.inService s) := rfl
  rw [← htested] at hsettled hgranted hsame
  generalize replyTested b [b0, b1, b2, b3, b4, b5, b6] p.inService s = u at *
  generalize replyTold b [b0, b1, b2, b3, b4, b5, b6] p.inService s = y at *
  generalize arrivalRest b s.bbus[b] s u = v at *
  generalize bbuTelemetryOf [b0, b1, b2, b3, b4, b5, b6] = t at *
  rw [hfault, ne_eq, hnone] at hnews
  have hown := hsteps.told_own
  have hunit : SameUnit b y u := hsame fun ⟨htarget, hphase, hc⟩ => by
    have htarget' : y.isTarget b = s.isTarget b := by
      rw [State.isTarget, State.isTarget, State.testActive, State.testActive, hsteps.told_test]
    rw [Bbu.atCutoff, hown] at hc
    refine hcut ⟨htarget'.symm.trans htarget, by rw [← hsteps.told_test]; exact hphase, ?_⟩
    exact bne_iff_ne.mp (hcutoff.symm.trans hc)
  have hawaits : y.bbus[b].awaitsCharging = (s.bbus[b].awaitsCharging && bbuStateOf t p.inService != .charging) := by
    rw [hown]
    rfl
  have hgrant : y.bbus[b].grant = s.bbus[b].grant := by
    rw [hown]
    rfl
  refine ⟨v, hexec, hsteps.frame, hsteps.others, ?_, ?_, hsteps.rest.handed.1, hsteps.rest.handed.2, fun ha hb6 hf hs => ?_,
    fun hb6 hnew => ?_, fun hno => ?_, fun ha hlaw hno => ?_, fun ha h1 h2 h3 h4 => ?_, fun hshelf ho => ?_⟩
  · rw [hsteps.mbc]
    exact hsteps.told.slots
  · rw [← hrecord, ← hown]
    exact (SameUnit.of_grants hsteps.rest.shelf.2).trans hunit
  · have hquiet : bbuFaultNews s.bbus[b] (toldBbu t p.inService s.bbus[b]) = false :=
      Bool.eq_false_iff.mpr fun hn => (hnews.mp hn).1 hb6
    rw [hgap] at hs
    have hnext := hsteps.told.reseed ha hquiet ((seeds_iff _ _).mpr hs) hf
    rw [seedEnergy, hsoc, bbuSlotNo_val] at hnext
    exact hnext.then_more hsteps.records
  · have hin := hsteps.told.fault (hnews.mpr ⟨hb6, hnew⟩)
    rw [hfault, hcode, bbuSlotNo_val] at hin
    exact hin.more hsteps.records
  · have hquiet : bbuFaultNews s.bbus[b] (toldBbu t p.inService s.bbus[b]) = false := Bool.eq_false_iff.mpr fun hn => by
      obtain ⟨h6, hnew⟩ := hnews.mp hn
      rcases hno with h | ⟨hst, hf⟩
      · exact h6 h
      · exact hnew.elim (fun h => h hst) fun h => h hf
    exact (hsteps.later _ rfl rfl).trans (hsteps.told.noFault hquiet)
  · have hstate : bbuStateOf t p.inService ≠ .charging := fun hc => by
      obtain ⟨h6, hin, hlow, h3⟩ := hcharging.mp hc
      rcases hno with h | h | h | h
      · exact h h6
      · exact Bool.false_ne_true (h.symm.trans hin)
      · exact absurd hlow (not_lt.mpr h)
      · exact h h3
    have hawaiting : Awaiting b y := by
      refine ⟨?_, hgrant.trans (hlaw.2 b ha)⟩
      rw [hawaits, ha, bne_iff_ne.mpr hstate]
      rfl
    exact (hsteps.rest.awaiting (hsteps.test.awaiting hawaiting)).2
  · refine hgranted ha ?_
    have hu := congrArg Bbu.awaitsCharging hunit
    refine Eq.trans hu ?_
    rw [hawaits, hcharging.mpr ⟨h1, h2, h3, h4⟩]
    exact Bool.and_false _
  · exact reserveTaken_of hsteps.isPrelude hsteps.rest.after hshelf ho

end Sys2Proof.Machine
end

section
/-! PROOFS. The battery test at its target's arrivals: the obligation (R150 to R153, R156). -/
namespace Sys2Proof.Machine

/-! ### The cutoff -/

theorem weakNoted_frame (b : BbuId) (s : State) : weakNoted b s = { learned b s with notices := (weakNoted b s).notices } := by
  unfold weakNoted
  split
  · rw [post_eq]
  · rfl

/-- What is learned at the cutoff (R152). -/
theorem learnCapacity_outcome (b : BbuId) (s : State) :
    (learnCapacity b s).test = { s.test with phase := .recharge, suspended := false, health := some (testHealth b s) } ∧
      { (learnCapacity b s).bbus[b] with grant := 0 } =
        { s.bbus[b] with grant := 0, eFull := clamp 1000 4000000 (s.test.eMeas / 1000), stored := 0, testPower := 0 } ∧
      (testHealth b s < s.params.weakThreshold →
        NoticeNext
          { kind := .bbuWeak, subject := some (bbuSlotNo b).val, value := some (testHealth b s), time := s.time } s (learnCapacity b s)) := by
  have hframe := weakNoted_frame b s
  have hnotices : (learnCapacity b s).notices = (weakNoted b s).notices := rfl
  have hgrants := (recomputeGrants_side (recharging (weakNoted b s))).bbus b
  have hbbus : (weakNoted b s).bbus[b] =
      { s.bbus[b] with eFull := clamp 1000 4000000 (s.test.eMeas / 1000), stored := 0, testPower := 0 } := by
    rw [hframe]
    exact (vector_set_get _ _ _ _).trans (if_pos rfl)
  refine ⟨?_, ?_, fun hweak => ?_⟩
  · rw [learnCapacity_eq, (recomputeGrants_side _).test]
    calc (recharging (weakNoted b s)).test = { (weakNoted b s).test with phase := .recharge, suspended := false } := rfl
      _ = _ := by rw [hframe]; rfl
  · rw [learnCapacity_eq, hgrants]
    calc ({ (recharging (weakNoted b s)).bbus[b] with grant := 0 } : Bbu) = { (weakNoted b s).bbus[b] with grant := 0 } := rfl
      _ = _ := by rw [hbbus]
  · rw [NoticeNext, hnotices, weakNoted, if_pos hweak]
    exact noticeNext_post (u := learned b s) (by rfl) (by rfl)

/-! ### The phases, for a target that is not lost -/

section
variable {b : BbuId} {s : State} (ht : s.isTarget b = true) (hl : s.bbus[b].lost = false)
include ht hl

theorem testArrival_prepares (delta : Nat) (hp : s.test.phase = .prepare) : testArrival b delta s = prepareCheck b s := by
  rw [testArrival_prepare ht delta hp, if_neg (by rw [hl]; exact Bool.false_ne_true)]

theorem testArrival_measures (delta : Nat) (hp : s.test.phase = .discharge) (hc : s.bbus[b].atCutoff = false) :
    testArrival b delta s = measuredTest delta s := by
  rw [testArrival_discharge ht delta hp, if_neg (by rw [hl]; exact Bool.false_ne_true), if_neg (by rw [hc]; exact Bool.false_ne_true)]

theorem testArrival_learns (delta : Nat) (hp : s.test.phase = .discharge) (hc : s.bbus[b].atCutoff = true) :
    testArrival b delta s = learnCapacity b (measuredTest delta s) := by
  rw [testArrival_discharge ht delta hp, if_neg (by rw [hl]; exact Bool.false_ne_true), if_pos hc]

theorem testArrival_recharges (delta : Nat) (hp : s.test.phase = .recharge) :
    testArrival b delta s = if s.bbus[b].state = .full then completeTest b s else s := by
  rw [testArrival_recharge ht delta hp, if_neg (by rw [hl]; exact Bool.false_ne_true)]

end

/-- The test goes on to DISCHARGE (R150). -/
theorem prepareCheck_discharges {b : BbuId} {s : State} (hf : s.bbus[b].state = .full) (hs : s.test.suspended = false) :
    (prepareCheck b s).test = { s.test with phase := .discharge, prepare := .stopped, eMeas := 0 } ∧
      (prepareCheck b s).bbus[b].testPower = s.test.testPower := by
  rw [prepareCheck_full hf hs]
  refine ⟨by rw [enterDischarge_frame], ?_⟩
  have h := congrArg Bbu.testPower (enterDischarge_bbus b b s)
  rw [if_pos rfl] at h
  exact h

theorem prepareCheck_waits {b : BbuId} {s : State} (h : s.bbus[b].state ≠ .full ∨ s.test.suspended = true) : prepareCheck b s = s :=
  if_neg fun hc => h.elim (fun h => h hc.1) fun h => Bool.false_ne_true (hc.2.symm.trans h)

/-- The test is over (R153). -/
theorem completeTest_outcome (b : BbuId) (s : State) :
    (completeTest b s).test = { s.test with phase := .done, outcome := some .completed } ∧
      NoticeNext { kind := .testDone, subject := some (bbuSlotNo b).val, value := some 0, time := s.time } s (completeTest b s) := by
  unfold completeTest
  refine ⟨by rw [post_test], noticeNext_post (by rfl) (by rfl)⟩

theorem measuredTest_sides (delta : Nat) (s : State) :
    (measuredTest delta s).notices = s.notices ∧ (measuredTest delta s).time = s.time ∧ (measuredTest delta s).params = s.params := by
  unfold measuredTest
  split
  · exact ⟨rfl, rfl, rfl⟩
  · exact ⟨rfl, rfl, rfl⟩

/-! ### The obligation -/

theorem arrivedBbu_lost {now eta : Nat} {u : Bbu} {inService : Bool} {b0 b1 b2 b3 b4 b5 b6 : Byte} :
    (arrivedBbu now eta (bbuTelemetryOf [b0, b1, b2, b3, b4, b5, b6]) inService u).lost = true ↔ b6 ≠ 0 ∨ inService = false := by
  have hstate : (arrivedBbu now eta (bbuTelemetryOf [b0, b1, b2, b3, b4, b5, b6]) inService u).state =
      bbuStateOf (bbuTelemetryOf [b0, b1, b2, b3, b4, b5, b6]) inService := rfl
  rw [Bbu.lost, hstate, bbuStateOf_bytes b0 b1 b2 b3 b4 b5 b6 inService rfl]
  repeat' split
  all_goals simp_all

theorem bbuStateOf_full {b0 b1 b2 b3 b4 b5 b6 : Byte} {inService : Bool} {power : Int}
    (hpower : power = max (-6000) (min 6000 (s16 b0 b1))) :
    bbuStateOf (bbuTelemetryOf [b0, b1, b2, b3, b4, b5, b6]) inService = .full ↔
      b6 = 0 ∧ inService = true ∧ power < 20 ∧ b3 ≠ 0 := by
  rw [bbuStateOf_bytes b0 b1 b2 b3 b4 b5 b6 inService hpower]
  repeat' split
  all_goals simp_all

/-- The delta that the test is handed (R59 step 5, R62). -/
theorem handedDelta_eq {now : Nat} {u : Bbu} {t : BbuTelemetry} {power : Int} (hpower : t.power = power) :
    handedDelta now u t =
      if u.seeded = false ∨ 500 < now - u.lastArrival.getD now then 0 else power.toNat * (now - u.lastArrival.getD now) := by
  rw [handedDelta, dischargeDelta, arrivalGap, hpower]
  simp only [seeds_iff]

/-- The test as the rest of an arrival leaves it. -/
theorem BbuReply.test_kept {b : BbuId} {t : BbuTelemetry} {inService : Bool} {s y u v : State} (h : BbuReply b t inService s y u v) :
    v.test = u.test ∧ v.bbus[b].testPower = u.bbus[b].testPower ∧ v.bbus[b].eFull = u.bbus[b].eFull ∧ v.bbus[b].stored = u.bbus[b].stored := by
  have hb := h.rest.shelf.2 b
  have h1 := congrArg Bbu.testPower hb
  have h2 := congrArg Bbu.eFull hb
  have h3 := congrArg Bbu.stored hb
  exact ⟨h.rest.shelf.test, h1, h2, h3⟩

/-- Settles O56. -/
theorem testArrivals : Obligations.TestArrivals := by
  intro s p b b0 b1 b2 b3 b4 b5 b6 power delta measured hfree hp hslot htarget hpower hdelta hmeasured
  have hsteps := reply_steps b [b0, b1, b2, b3, b4, b5, b6] p.inService s
  have hexec := exec_bbuReply (payload := [b0, b1, b2, b3, b4, b5, b6]) hfree hp hslot rfl
  have hlost := arrivedBbu_lost (now := s.time) (eta := s.params.efficiency) (u := s.bbus[b]) (inService := p.inService) (b0 := b0) (b1 := b1)
    (b2 := b2) (b3 := b3) (b4 := b4) (b5 := b5) (b6 := b6)
  have hfull := bbuStateOf_full (b2 := b2) (b3 := b3) (b4 := b4) (b5 := b5) (b6 := b6) (inService := p.inService) hpower
  have hbytes := bbuTelemetryOf_bytes b0 b1 b2 b3 b4 b5 b6
  rw [← hpower] at hbytes
  have hcutoff : (bbuTelemetryOf [b0, b1, b2, b3, b4, b5, b6]).cutoff = (b4 != 0) := by rw [hbytes]
  have hhanded : handedDelta s.time s.bbus[b] (bbuTelemetryOf [b0, b1, b2, b3, b4, b5, b6]) = delta := by
    rw [handedDelta_eq (power := power) (by rw [hbytes]), hdelta]
  have htested : replyTested b [b0, b1, b2, b3, b4, b5, b6] p.inService s =
      testArrival b delta (replyTold b [b0, b1, b2, b3, b4, b5, b6] p.inService s) := by
    rw [← hhanded]
    rfl
  generalize replyTested b [b0, b1, b2, b3, b4, b5, b6] p.inService s = u at *
  generalize replyTold b [b0, b1, b2, b3, b4, b5, b6] p.inService s = y at *
  generalize arrivalRest b s.bbus[b] s u = v at *
  generalize bbuTelemetryOf [b0, b1, b2, b3, b4, b5, b6] = t at *
  have hown := hsteps.told_own
  have hytest := hsteps.told_test
  have htime : y.time = s.time := hsteps.tended_told.time
  have hyparams : y.params = s.params := hsteps.tended_told.params
  obtain ⟨hvtest, hvpower, hvfull, hvstored⟩ := hsteps.test_kept
  have hylost : y.bbus[b].lost = true ↔ b6 ≠ 0 ∨ p.inService = false := by
    rw [hown]
    exact hlost
  have hyfull : y.bbus[b].state = .full ↔ b6 = 0 ∧ p.inService = true ∧ power < 20 ∧ b3 ≠ 0 := by
    rw [hown]
    exact hfull
  have hycut : y.bbus[b].atCutoff = (b4 != 0) := by
    rw [hown]
    exact hcutoff
  have hrated : y.bbus[b].eRated = s.bbus[b].eRated := by
    rw [hown]
    rfl
  have hytarget : y.isTarget b = true := by
    rw [State.isTarget, State.testActive, hytest]
    exact htarget
  have hkept : b6 = 0 → p.inService = true → y.bbus[b].lost = false := fun h6 hin => Bool.eq_false_iff.mpr fun hl =>
    (hylost.mp hl).elim (fun h => h h6) fun h => Bool.false_ne_true (h.symm.trans hin)
  have hlater := hsteps.rest.kinds.records
  have hmtest := measuredTest_test delta y
  have hmbbus := measuredTest_bbus delta y
  rw [hytest] at hmtest
  refine ⟨v, hexec, hsteps.frame, fun hno => ?_, fun h6 hin hph => ⟨fun ⟨h3, hlow, hsus⟩ => ?_, fun hno => ?_⟩,
    fun h6 hin hph => ⟨fun h4 => ?_, fun h4 => ?_⟩, fun h6 hin hph => ⟨fun ⟨h3, hlow⟩ => ?_, fun hno => ?_⟩⟩
  · obtain ⟨htest, hpow, -, hnext⟩ := testArrival_aborts hytarget delta (hylost.mpr hno)
    rw [← htested] at htest hpow hnext
    rw [hvtest, hvpower, htest, hytest, hmeasured]
    rw [htime] at hnext
    exact ⟨rfl, hpow, (NoticeIn.of_next hnext hsteps.test.kinds.records).more hlater⟩
  · have hgo := testArrival_prepares hytarget (hkept h6 hin) delta (by rw [hytest]; exact hph)
    obtain ⟨htest, hpow⟩ := prepareCheck_discharges (hyfull.mpr ⟨h6, hin, hlow, h3⟩) (by rw [hytest]; exact hsus)
    rw [← hgo, ← htested, hytest] at htest hpow
    rw [hvtest, hvpower]
    exact ⟨htest, hpow⟩
  · have hgo := testArrival_prepares hytarget (hkept h6 hin) delta (by rw [hytest]; exact hph)
    have hwait : y.bbus[b].state ≠ .full ∨ y.test.suspended = true := by
      rw [hytest]
      rcases hno with h | h | h
      · exact Or.inl fun hf => (hyfull.mp hf).2.2.2 h
      · exact Or.inl fun hf => absurd (hyfull.mp hf).2.2.1 (not_lt.mpr h)
      · exact Or.inr h
    rw [hvtest, htested, hgo, prepareCheck_waits hwait, hytest]
  · have hgo := testArrival_measures hytarget (hkept h6 hin) delta (by rw [hytest]; exact hph) (by rw [hycut, h4]; rfl)
    rw [hvtest, htested, hgo, hmtest, if_pos hph, hmeasured]
    rfl
  · have hgo := testArrival_learns hytarget (hkept h6 hin) delta (by rw [hytest]; exact hph) (by rw [hycut]; exact bne_iff_ne.mpr h4)
    obtain ⟨htest, hunit, hweak⟩ := learnCapacity_outcome b (measuredTest delta y)
    have hm : (measuredTest delta y).test = { s.test with eMeas := measured } := by
      rw [hmtest, if_pos hph, hmeasured]
      rfl
    have hhealth : testHealth b (measuredTest delta y) = min 100 (measured / 1000 * 100 / s.bbus[b].eRated) := by
      rw [testHealth, hm, hmbbus, hrated]
    obtain ⟨hmn, hmt, hmp⟩ := measuredTest_sides delta y
    rw [← hgo, ← htested, hhealth] at hweak
    rw [← hgo, ← htested, hm, hhealth] at htest
    rw [← hgo, ← htested, hm] at hunit
    rw [hmt, hmp, htime, hyparams, NoticeNext, hmn, bbuSlotNo_val] at hweak
    have hpow := congrArg Bbu.testPower hunit
    have hefull := congrArg Bbu.eFull hunit
    have hstored := congrArg Bbu.stored hunit
    rw [hvtest, hvpower, hvfull, hvstored]
    refine ⟨htest, hefull, hstored, hpow, fun hlow hroom => ?_⟩
    have hlen : y.notices.records.length < 32 := Nat.lt_of_lt_of_le (Nat.lt_succ_of_le hsteps.told.length) hroom
    exact hlater.subset ((hweak hlow hlen).subset (List.mem_append_right _ List.mem_cons_self))
  · have hgo := testArrival_recharges hytarget (hkept h6 hin) delta (by rw [hytest]; exact hph)
    obtain ⟨htest, hnext⟩ := completeTest_outcome b y
    rw [if_pos (hyfull.mpr ⟨h6, hin, hlow, h3⟩), ← htested] at hgo
    rw [← hgo, htime, bbuSlotNo_val] at hnext
    rw [← hgo, hytest] at htest
    rw [hvtest]
    exact ⟨htest, (NoticeIn.of_next hnext hsteps.test.kinds.records).more hlater⟩
  · have hgo := testArrival_recharges hytarget (hkept h6 hin) delta (by rw [hytest]; exact hph)
    rw [if_neg fun hf => hno.elim (fun h => (hyfull.mp hf).2.2.2 h) fun h => absurd (hyfull.mp hf).2.2.1 (not_lt.mpr h), ← htested] at hgo
    rw [hvtest, hgo, hytest]

end Sys2Proof.Machine
end

section
/-! PROOFS. Which trays a deficit sheds (R86 to R88). -/
namespace Sys2Proof.Machine

/-! ### One tray is shed -/

theorem candidate_running {t : Tray} (h : deficitCandidate t = true) : t.state = .inrush ∨ t.state = .on := by
  have he := deficitCandidate_enable h
  simp only [Tray.enable, Bool.or_eq_true, beq_iff_eq] at he
  exact he

/-- The record of a tray that a deficit sheds (R16, R87). -/
def deficitRecord (t : Tray) : Tray :=
  { t with state := .stopping, timer := .stop t.cfg.stopTime, locks := { t.locks with shed := true } }

theorem shedTray_candidate {t : Tray} (h : deficitCandidate t = true) : shedTray t = deficitRecord t := by
  unfold shedTray stopTray
  rcases candidate_running h with hs | hs <;> simp only [hs] <;> rfl

theorem countedLive_candidate {t : Tray} (h : deficitCandidate t = true) : t.countedLive = t.counted := by
  refine if_neg fun hs => ?_
  rcases candidate_running h with h | h <;> exact TrayState.noConfusion (h.symm.trans hs)

theorem deficitShedOne_kLive {i : TrayId} {s : State} (h : deficitCandidate s.trays[i] = true) :
    (deficitShedOne i s).kLive + s.trays[i].counted = s.kLive := by
  have hput := kLive_putTray i (shedTray s.trays[i]) s
  have hnone : (shedTray s.trays[i]).countedLive = 0 := by
    rw [shedTray_candidate h]
    rfl
  rw [hnone, countedLive_candidate h, Nat.add_zero] at hput
  rw [deficitShedOne, kLive_congr (post_trays _ _ _ _)]
  exact hput

theorem deficitShedOne_tray (i : TrayId) (s : State) : (deficitShedOne i s).trays[i] = shedTray s.trays[i] := by
  rw [deficitShedOne, post_tray, putTray_get, if_pos rfl]

theorem deficitShedOne_notice (i : TrayId) (s : State) :
    NoticeNext { kind := .shedTray, subject := some i.val, value := some s.trays[i].countedLive, time := s.time } s (deficitShedOne i s) :=
  noticeNext_post (u := putTray i (shedTray s.trays[i]) s) rfl rfl

theorem deficitShedOne_side (i : TrayId) (s : State) : TraySideOnly s (deficitShedOne i s) := (deficitShedOne_move i s).side

/-! ### The list is walked -/

/-- The watts of the trays of a list that stand before one. -/
def wattsBefore (s : State) (l : List TrayId) (i : TrayId) : Nat := ((l.takeWhile fun j => j != i).map fun j => s.trays[j].counted).sum

/-- The watts of the trays of a list. -/
def wattsOf (s : State) (l : List TrayId) : Nat := (l.map fun j => s.trays[j].counted).sum

theorem wattsBefore_head (s : State) (i : TrayId) (l : List TrayId) : wattsBefore s (i :: l) i = 0 := by
  rw [wattsBefore, List.takeWhile_cons_of_neg (by simp)]
  rfl

theorem wattsBefore_tail {s : State} {i x : TrayId} (h : x ≠ i) (l : List TrayId) :
    wattsBefore s (x :: l) i = s.trays[x].counted + wattsBefore s l i := by
  rw [wattsBefore, List.takeWhile_cons_of_pos (by simpa using h)]
  rfl

theorem wattsBefore_congr {s t : State} {l : List TrayId} (h : ∀ j ∈ l, t.trays[j] = s.trays[j]) (i : TrayId) :
    wattsBefore t l i = wattsBefore s l i :=
  congrArg List.sum (List.map_congr_left fun j hj => by rw [h j (List.takeWhile_subset _ hj)])

theorem wattsOf_congr {s t : State} {l : List TrayId} (h : ∀ j ∈ l, t.trays[j] = s.trays[j]) : wattsOf t l = wattsOf s l :=
  congrArg List.sum (List.map_congr_left fun j hj => by rw [h j hj])

/-- What shedding along a list comes to (R87). -/
structure Walked (l : List TrayId) (s t : State) : Prop where
  shed : ∀ i ∈ l, s.budget.c + wattsBefore s l i < s.kLive →
    t.trays[i] = shedTray s.trays[i] ∧
      NoticeIn { kind := .shedTray, subject := some i.val, value := some s.trays[i].counted, time := s.time } t
  kept : ∀ i ∈ l, s.kLive ≤ s.budget.c + wattsBefore s l i → t.trays[i] = s.trays[i]
  live : s.budget.c + wattsOf s l < s.kLive ↔ s.budget.c < t.kLive
  all : s.budget.c + wattsOf s l < s.kLive → t.kLive + wattsOf s l = s.kLive

theorem deficitShed_walked {l : List TrayId} {s : State} (hl : l.Nodup) (hc : ∀ i ∈ l, deficitCandidate s.trays[i] = true) :
    Walked l s (deficitShed l s) := by
  induction l generalizing s with
  | nil =>
    have hnone : wattsOf s [] = 0 := rfl
    have hsame : deficitShed [] s = s := rfl
    rw [hsame]
    refine ⟨fun _ h => absurd h List.not_mem_nil, fun _ h => absurd h List.not_mem_nil, ?_, fun _ => ?_⟩
    · rw [hnone, Nat.add_zero]
    · rw [hnone, Nat.add_zero]
  | cons x xs ih =>
    obtain ⟨hx, hxs⟩ := List.nodup_cons.mp hl
    unfold deficitShed
    by_cases hroom : s.kLive ≤ s.budget.c
    · rw [if_pos hroom]
      have hnot : ∀ n, ¬ s.budget.c + n < s.kLive := fun n h => absurd (Nat.lt_of_le_of_lt (Nat.le_add_right _ n) h) (Nat.not_lt.mpr hroom)
      exact ⟨fun i _ h => absurd h (hnot _), fun _ _ _ => rfl, ⟨fun h => absurd h (hnot _), fun h => absurd h (Nat.not_lt.mpr hroom)⟩,
        fun h => absurd h (hnot _)⟩
    · rw [if_neg hroom]
      have hlive := deficitShedOne_kLive (hc x List.mem_cons_self)
      have hside := deficitShedOne_side x s
      have hother : ∀ j ∈ xs, (deficitShedOne x s).trays[j] = s.trays[j] := fun j hj =>
        deficitShedOne_other (fun e : j = x => hx (e ▸ hj)) s
      have htray := deficitShedOne_tray x s
      have hnext := deficitShedOne_notice x s
      have hrecords : s.notices.records <+: (deficitShedOne x s).notices.records := post_records _ _ _ (putTray x (shedTray s.trays[x]) s)
      rw [countedLive_candidate (hc x List.mem_cons_self)] at hnext
      generalize deficitShedOne x s = u at *
      have hwalk := ih (s := u) hxs fun i hi => by
        rw [hother i hi]
        exact hc i (List.mem_cons_of_mem x hi)
      have hrest := deficitShed_records xs u
      have hkeep := deficitShed_other hx u
      have hbefore := wattsBefore_congr hother
      have hof := wattsOf_congr hother
      have hsum : wattsOf s (x :: xs) = s.trays[x].counted + wattsOf s xs := rfl
      obtain ⟨hshed, hkept, hiff, hall⟩ := hwalk
      rw [hside.capacity, hof] at hiff hall
      generalize deficitShed xs u = t at *
      refine ⟨fun i hi h => ?_, fun i hi h => ?_, ?_, fun h => ?_⟩
      · by_cases he : x = i
        · subst he
          exact ⟨hkeep.trans htray, (NoticeIn.of_next hnext hrecords).more hrest⟩
        · have hmem := (List.mem_cons.mp hi).resolve_left fun e => he e.symm
          rw [wattsBefore_tail he] at h
          have hone := hshed i hmem (by rw [hside.capacity, hbefore]; omega)
          rw [hother i hmem, hside.time] at hone
          exact hone
      · by_cases he : x = i
        · subst he
          rw [wattsBefore_head] at h
          exact absurd h hroom
        · have hmem := (List.mem_cons.mp hi).resolve_left fun e => he e.symm
          rw [wattsBefore_tail he] at h
          have hone := hkept i hmem (by rw [hside.capacity, hbefore]; omega)
          exact hone.trans (hother i hmem)
      · rw [hsum, ← hiff]
        omega
      · rw [hsum] at h ⊢
        have hone := hall (by omega)
        omega

/-! ### The order of the walk in the words of the statement -/

theorem canBeShed_eq (t : Tray) : deficitCandidate t = canBeShed t := rfl

theorem shedFirst_eq (s : State) (a b : TrayId) : shedsBefore s.trays a b = shedFirst s a b := rfl

/-- A deficit sheds tray `a` before tray `b` (R87). -/
abbrev ShedsFirst (s : State) (a b : TrayId) : Prop :=
  s.trays[a].cfg.shedClass < s.trays[b].cfg.shedClass ∨
    (s.trays[a].cfg.shedClass = s.trays[b].cfg.shedClass ∧
      (s.trays[b].cfg.rank < s.trays[a].cfg.rank ∨ (s.trays[a].cfg.rank = s.trays[b].cfg.rank ∧ b < a)))

theorem shedsBefore_strict (s : State) : StrictBefore (shedsBefore s.trays) (ShedsFirst s) where
  iff := fun a b => by simp [shedsBefore, ShedsFirst]
  trans := fun a b c hab hbc => by simp only [ShedsFirst, Fin.lt_def] at *; omega
  connex := fun a b hab => by
    have hne : a.val ≠ b.val := fun h => hab (Fin.ext h)
    simp only [ShedsFirst, Fin.lt_def]
    omega

theorem ShedsFirst.asymm {s : State} {a b : TrayId} (h : ShedsFirst s a b) : ¬ ShedsFirst s b a := by
  simp only [ShedsFirst, Fin.lt_def] at *
  omega

theorem deficitCandidates_nodup (s : State) : (deficitCandidates s).Nodup := nodup_ordered _ (allTrays_nodup.filter _)

theorem wattsOf_candidates (s : State) : wattsOf s (deficitCandidates s) = shedWatts s (fun _ => true) := by
  have hperm : (deficitCandidates s).Perm (allTrays.filter fun i => canBeShed s.trays[i] && true) := by
    refine (ordered_perm _ _).trans (.of_eq (List.filter_congr fun i _ => ?_))
    rw [Bool.and_true]
    rfl
  exact (hperm.map _).sum_eq

theorem wattsBefore_candidates {s : State} {i : TrayId} (hi : deficitCandidate s.trays[i] = true) :
    wattsBefore s (deficitCandidates s) i = shedWatts s (fun j => shedFirst s j i) := by
  have hstrict := shedsBefore_strict s
  have hpair : (deficitCandidates s).Pairwise (ShedsFirst s) := pairwise_ordered hstrict (allTrays_nodup.filter _)
  have hfilter := takeWhile_eq_filter hstrict.iff (fun _ _ h => h.asymm) hpair (mem_deficitCandidates.mpr hi)
  rw [wattsBefore, hfilter, shedWatts]
  refine (List.Perm.map _ ?_).sum_eq
  refine (List.perm_ext_iff_of_nodup ((deficitCandidates_nodup s).filter _) (allTrays_nodup.filter _)).mpr fun j => ?_
  rw [List.mem_filter, List.mem_filter, mem_deficitCandidates, and_iff_right (mem_allTrays j), Bool.and_eq_true, canBeShed_eq, shedFirst_eq]

/-- What shedding for a deficit comes to (R87). -/
structure DeficitShed (s t : State) : Prop where
  shed : ∀ i : TrayId, shedForDeficit s s.budget.c i = true →
    t.trays[i] = deficitRecord s.trays[i] ∧
      NoticeIn { kind := .shedTray, subject := some i.val, value := some s.trays[i].counted, time := s.time } t
  kept : ∀ i : TrayId, shedForDeficit s s.budget.c i = false → t.trays[i] = s.trays[i]
  live : s.budget.c + shedWatts s (fun _ => true) < s.kLive ↔ s.budget.c < t.kLive
  all : s.budget.c + shedWatts s (fun _ => true) < s.kLive → t.kLive + shedWatts s (fun _ => true) = s.kLive

theorem shedForDeficit_iff (s : State) (c : Nat) (i : TrayId) :
    shedForDeficit s c i = true ↔ deficitCandidate s.trays[i] = true ∧ c + shedWatts s (fun j => shedFirst s j i) < s.kLive := by
  rw [shedForDeficit, Bool.and_eq_true, decide_eq_true_iff, canBeShed_eq]

theorem deficitShed_outcome (s : State) : DeficitShed s (deficitShed (deficitCandidates s) s) := by
  have hwalk := deficitShed_walked (s := s) (deficitCandidates_nodup s) fun i hi => mem_deficitCandidates.mp hi
  have hout : ∀ i : TrayId, i ∉ deficitCandidates s → (deficitShed (deficitCandidates s) s).trays[i] = s.trays[i] :=
    fun i hi => deficitShed_other hi s
  obtain ⟨hshed, hkept, hlive, hall⟩ := hwalk
  rw [wattsOf_candidates] at hlive hall
  generalize deficitShed (deficitCandidates s) s = t at *
  refine ⟨fun i hi => ?_, fun i hi => ?_, hlive, hall⟩
  · obtain ⟨hc, hlt⟩ := (shedForDeficit_iff _ _ _).mp hi
    rw [← shedTray_candidate hc]
    exact hshed i (mem_deficitCandidates.mpr hc) (by rw [wattsBefore_candidates hc]; exact hlt)
  · by_cases hc : deficitCandidate s.trays[i] = true
    · refine hkept i (mem_deficitCandidates.mpr hc) (Nat.le_of_not_lt fun hlt => ?_)
      rw [wattsBefore_candidates hc] at hlt
      exact Bool.false_ne_true (hi.symm.trans ((shedForDeficit_iff _ _ _).mpr ⟨hc, hlt⟩))
    · exact hout i fun hm => hc (mem_deficitCandidates.mp hm)

end Sys2Proof.Machine
end

section
/-! PROOFS. An evaluation of a deficit (R86 to R88). -/
namespace Sys2Proof.Machine

/-- The two deficit flags say whether K_live is above C (R86, R88). -/
abbrev Flagged (s : State) : Prop :=
  s.budget.deficitActive = decide (s.budget.c < s.kLive) ∧ s.budget.deficitUnresolved = decide (s.budget.c < s.kLive)

/-- What an evaluation of a deficit comes to in NORMAL. -/
structure DeficitTaken (s t : State) : Prop where
  side : TraySideOnly s t
  walk : DeficitShed s t
  run : RunShrinks s t
  notes : RackNotes s t
  active : t.budget.deficitActive = decide (s.budget.c + shedWatts s (fun _ => true) < s.kLive)
  unresolved : t.budget.deficitUnresolved = decide (s.budget.c + shedWatts s (fun _ => true) < s.kLive)
  room : s.kLive ≤ s.budget.c → Tallied s t
  starts : s.budget.c < s.kLive → s.budget.deficitActive = false →
    NoticeIn { kind := .capacityDeficit, subject := none, value := some (s.kLive - s.budget.c), time := s.time } t
  goesOn : s.budget.deficitActive = true → NoneOfKind .capacityDeficit s t
  tells : s.budget.c + shedWatts s (fun _ => true) < s.kLive → s.budget.deficitActive = false ∨ s.budget.deficitUnresolved = false →
    NoticeIn
      { kind := .deficitUnresolved, subject := none
        value := some (s.kLive - shedWatts s (fun _ => true) - s.budget.c), time := s.time } t

theorem DeficitTaken.flagged {s t : State} (h : DeficitTaken s t) : Flagged t := by
  have hlive : decide (s.budget.c + shedWatts s (fun _ => true) < s.kLive) = decide (t.budget.c < t.kLive) := by
    rw [h.side.capacity, decide_eq_decide]
    exact h.walk.live
  exact ⟨h.active.trans hlive, h.unresolved.trans hlive⟩

/-- Room for the live load leaves nothing to shed. -/
theorem deficitShed_room {s t : State} (h : s.kLive ≤ s.budget.c) (ht : t.trays = s.trays) : DeficitShed s t := by
  have hnot : ∀ n, ¬ s.budget.c + n < s.kLive := fun n hlt => absurd (Nat.lt_of_le_of_lt (Nat.le_add_right _ n) hlt) (Nat.not_lt.mpr h)
  refine ⟨fun i hi => absurd ((shedForDeficit_iff _ _ _).mp hi).2 (hnot _), fun i _ => by rw [ht], ?_, fun hlt => absurd hlt (hnot _)⟩
  rw [kLive_congr ht]
  exact ⟨fun hlt => absurd hlt (hnot _), fun hlt => absurd hlt (Nat.not_lt.mpr h)⟩

theorem evalDeficit_taken_room {s : State} (hn : s.ilc.state = .normal) (h : s.kLive ≤ s.budget.c) : DeficitTaken s (evalDeficit s) := by
  have heval : evalDeficit s = setDeficit false false s := (if_neg (not_not_intro hn)).trans (if_pos h)
  have hfalse : decide (s.budget.c + shedWatts s (fun _ => true) < s.kLive) = false :=
    decide_eq_false fun hlt => absurd (Nat.lt_of_le_of_lt (Nat.le_add_right _ _) hlt) (Nat.not_lt.mpr h)
  rw [heval]
  refine ⟨setDeficit_side _ _ s, deficitShed_room h rfl, .of_eq rfl rfl, .of_eq rfl, hfalse.symm, hfalse.symm,
    fun _ => setDeficit_tallied _ _ s, fun hlt => absurd hlt (Nat.not_lt.mpr h), fun _ => rfl, fun hlt => ?_⟩
  exact absurd (hfalse.symm.trans (decide_eq_true hlt)) Bool.false_ne_true

theorem deficitShed_budget (l : List TrayId) (s : State) : (deficitShed l s).budget = s.budget := by
  induction l generalizing s with
  | nil => rfl
  | cons i l ih =>
    unfold deficitShed
    split
    · rfl
    · rw [ih, deficitShedOne, post_budget]
      rfl

/-- The start of an episode (R86). -/
theorem deficitStart_outcome (s : State) :
    (deficitStart s).budget = { s.budget with
      deficitActive := true, deficitUnresolved := s.budget.deficitActive && s.budget.deficitUnresolved } ∧
      (s.budget.deficitActive = false →
        NoticeNext { kind := .capacityDeficit, subject := none, value := some (s.kLive - s.budget.c), time := s.time } s (deficitStart s)) ∧
      (s.budget.deficitActive = true → deficitStart s = s) := by
  unfold deficitStart
  cases ha : s.budget.deficitActive with
  | true =>
    refine ⟨?_, fun h => Bool.noConfusion h, fun _ => rfl⟩
    rw [if_pos rfl, Bool.true_and, ← ha]
  | false =>
    refine ⟨?_, fun _ => ?_, fun h => Bool.noConfusion h⟩
    · rw [if_neg Bool.false_ne_true, post_budget]
      rfl
    · rw [if_neg Bool.false_ne_true]
      exact noticeNext_post (by rfl) (by rfl)

/-- The end of the shedding (R86, R88). -/
theorem deficitFinish_outcome {s : State} (ha : s.budget.deficitActive = true) :
    (deficitFinish s).budget =
        { s.budget with deficitActive := decide (s.budget.c < s.kLive), deficitUnresolved := decide (s.budget.c < s.kLive) } ∧
      NoneOfKind .capacityDeficit s (deficitFinish s) ∧
      (s.budget.c < s.kLive → s.budget.deficitUnresolved = false →
        NoticeNext { kind := .deficitUnresolved, subject := none, value := some (s.kLive - s.budget.c), time := s.time } s (deficitFinish s)) := by
  unfold deficitFinish
  by_cases hroom : s.kLive ≤ s.budget.c
  · have hnot : ¬ s.budget.c < s.kLive := Nat.not_lt.mpr hroom
    rw [if_pos hroom]
    refine ⟨?_, rfl, fun hlt => absurd hlt hnot⟩
    rw [decide_eq_false hnot]
    rfl
  · have hlt : s.budget.c < s.kLive := Nat.lt_of_not_le hroom
    rw [if_neg hroom, decide_eq_true hlt]
    cases hu : s.budget.deficitUnresolved with
    | true =>
      rw [if_pos rfl]
      refine ⟨?_, rfl, fun _ h => Bool.noConfusion h⟩
      calc s.budget
          = { s.budget with deficitActive := s.budget.deficitActive, deficitUnresolved := s.budget.deficitUnresolved } := rfl
        _ = { s.budget with deficitActive := true, deficitUnresolved := true } := by rw [ha, hu]
    | false =>
      rw [if_neg Bool.false_ne_true]
      refine ⟨?_, ?_, fun _ _ => noticeNext_post (by rfl) (by rfl)⟩
      · rw [post_budget]
        rfl
      · exact post_noneOfKind _ _ (setDeficit true true s) (by decide)

theorem deficitShed_kinds (l : List TrayId) (s : State) : OnlyKinds (fun k => k == .shedTray) s (deficitShed l s) := by
  induction l generalizing s with
  | nil => exact .refl s
  | cons i l ih =>
    unfold deficitShed
    split
    · exact .refl s
    · exact (OnlyKinds.post_of (s := s) (t := putTray i (shedTray s.trays[i]) s) rfl .shedTray _ _ rfl).trans (ih _)

theorem shedWatts_congr {s t : State} (h : t.trays = s.trays) (p : TrayId → Bool) : shedWatts t p = shedWatts s p := by
  rw [shedWatts, shedWatts, h]

/-- What the walk finds does not depend on flags and notices. -/
theorem DeficitShed.of_calm {s d t : State} (h : DeficitShed d t) (hd : Calm s d) : DeficitShed s t := by
  have hc : d.budget.c = s.budget.c := hd.side.capacity
  have hfirst : ∀ j i, shedFirst d j i = shedFirst s j i := fun j i => by rw [shedFirst, shedFirst, hd.trays]
  have hfor : ∀ i, shedForDeficit d d.budget.c i = shedForDeficit s s.budget.c i := fun i => by
    rw [shedForDeficit, shedForDeficit, hc, hd.trays, kLive_congr hd.trays, shedWatts_congr hd.trays]
    simp only [hfirst]
  obtain ⟨hshed, hkept, hlive, hall⟩ := h
  simp only [hfor] at hshed hkept
  rw [hc, shedWatts_congr hd.trays, kLive_congr hd.trays] at hlive hall
  refine ⟨fun i hi => ?_, fun i hi => ?_, hlive, hall⟩
  · have hone := hshed i hi
    rw [hd.trays, hd.side.time] at hone
    exact hone
  · have hone := hkept i hi
    rw [hd.trays] at hone
    exact hone

/-- What the walk comes to is kept by a tally. -/
theorem DeficitShed.then {s t u : State} (h : DeficitShed s t) (htrays : u.trays = t.trays) (hmore : t.notices.records <+: u.notices.records) :
    DeficitShed s u := by
  obtain ⟨hshed, hkept, hlive, hall⟩ := h
  refine ⟨fun i hi => ⟨?_, (hshed i hi).2.more hmore⟩, fun i hi => ?_, ?_, ?_⟩
  · rw [htrays]
    exact (hshed i hi).1
  · rw [htrays]
    exact hkept i hi
  · rw [kLive_congr htrays]
    exact hlive
  · rw [kLive_congr htrays]
    exact hall

theorem evalDeficit_taken_above {s : State} (hn : s.ilc.state = .normal) (h : s.budget.c < s.kLive) : DeficitTaken s (evalDeficit s) := by
  have hside := evalDeficit_side s
  have hnotes := evalDeficit_notes s
  have hrun := (evalDeficit_turn s).run
  have heval : evalDeficit s = recomputeGrants (deficitFinish (deficitShed (deficitCandidates (deficitStart s)) (deficitStart s))) :=
    (if_neg (not_not_intro hn)).trans (if_neg (Nat.not_le.mpr h))
  obtain ⟨hbudget, hstarts, hsame⟩ := deficitStart_outcome s
  have hcalm := deficitStart_calm s
  rw [heval] at hside hnotes hrun ⊢
  generalize deficitStart s = d at *
  have hwalk := (deficitShed_outcome d).of_calm hcalm
  have hwbudget := deficitShed_budget (deficitCandidates d) d
  have hwrecords := deficitShed_records (deficitCandidates d) d
  have hwkinds := deficitShed_kinds (deficitCandidates d) d
  have hwtime := (deficitShed_side (deficitCandidates d) d).time
  generalize deficitShed (deficitCandidates d) d = w at *
  have hactive : w.budget.deficitActive = true := by rw [hwbudget, hbudget]
  have hcapacity : w.budget.c = s.budget.c := by rw [hwbudget, hbudget]
  obtain ⟨hfbudget, hfkind, hfnotice⟩ := deficitFinish_outcome hactive
  have hfcalm := deficitFinish_calm w
  generalize deficitFinish w = f at *
  have htrays : (recomputeGrants f).trays = w.trays := hfcalm.trays
  have hnotices : (recomputeGrants f).notices = f.notices := rfl
  have hrbudget : (recomputeGrants f).budget = f.budget := rfl
  have hlive : decide (w.budget.c < w.kLive) = decide (s.budget.c + shedWatts s (fun _ => true) < s.kLive) := by
    rw [hcapacity, decide_eq_decide]
    exact hwalk.live.symm
  generalize recomputeGrants f = t at *
  have hmore : w.notices.records <+: t.notices.records := by
    rw [hnotices]
    exact hfcalm.records
  refine ⟨hside, hwalk.then htrays hmore, hrun, hnotes, ?_, ?_, fun hroom => absurd h (Nat.not_lt.mpr hroom), fun _ ha => ?_, fun ha => ?_,
    fun hlt hno => ?_⟩
  · rw [hrbudget, hfbudget, ← hlive]
  · rw [hrbudget, hfbudget, ← hlive]
  · exact (NoticeIn.of_next (hstarts ha) hcalm.records).more (hwrecords.trans hmore)
  · have hd : NoneOfKind .capacityDeficit s d := by rw [hsame ha]
    have hf : NoneOfKind .capacityDeficit w t := by
      rw [NoneOfKind, hnotices]
      exact hfkind
    exact hf.trans ((hwkinds.kinds _ rfl).trans hd)
  · have hw : w.budget.deficitUnresolved = false := by
      rw [hwbudget, hbudget]
      rcases hno with hno | hno
      · rw [hno, Bool.false_and]
      · rw [hno, Bool.and_false]
    have hlt' : w.budget.c < w.kLive := by
      rw [hcapacity]
      exact hwalk.live.mp hlt
    have hvalue : w.kLive - w.budget.c = s.kLive - shedWatts s (fun _ => true) - s.budget.c := by
      have hall := hwalk.all hlt
      rw [hcapacity, ← hall, Nat.add_sub_cancel]
    have hnext := hfnotice hlt' hw
    have htime : w.time = s.time := hwtime.trans hcalm.side.time
    rw [hvalue, htime] at hnext
    have hin := NoticeIn.of_next hnext hfcalm.records
    rw [NoticeIn, hnotices]
    exact hin

/-- An evaluation of a deficit in NORMAL (R86 to R88). -/
theorem evalDeficit_taken {s : State} (hn : s.ilc.state = .normal) : DeficitTaken s (evalDeficit s) := by
  rcases Nat.lt_or_ge s.budget.c s.kLive with h | h
  · exact evalDeficit_taken_above hn h
  · exact evalDeficit_taken_room hn h

end Sys2Proof.Machine
end

section
/-! PROOFS. The deficit flags through starts (R79, R86). -/
namespace Sys2Proof.Machine

/-! ### A start is admitted only where no deficit is in progress -/

/-- No deficit is in progress. -/
abbrev NoDeficit (s : State) : Prop := s.budget.deficitActive = false ∧ s.budget.deficitUnresolved = false

theorem Flagged.noDeficit {s : State} (h : Flagged s) (hroom : s.kLive ≤ s.budget.c) : NoDeficit s := by
  have hf : decide (s.budget.c < s.kLive) = false := decide_eq_false (Nat.not_lt.mpr hroom)
  exact ⟨h.1.trans hf, h.2.trans hf⟩

theorem NoDeficit.flagged {s : State} (h : NoDeficit s) (hroom : s.kLive ≤ s.budget.c) : Flagged s := by
  have hf : decide (s.budget.c < s.kLive) = false := decide_eq_false (Nat.not_lt.mpr hroom)
  exact ⟨h.1.trans hf.symm, h.2.trans hf.symm⟩

theorem evalDeficit_noDeficit {s : State} (hroom : s.kLive ≤ s.budget.c) (h : NoDeficit s) : NoDeficit (evalDeficit s) := by
  unfold evalDeficit
  split
  · exact h
  · exact ⟨rfl, rfl⟩

theorem afterBudget_noDeficit {s0 s : State} (hroom : s.kLive ≤ s.budget.c) (h : NoDeficit s) : NoDeficit (afterBudget s0 s) := by
  have hgrants : Tallied s (if s.kT = s0.kT then s else recomputeGrants s) ∧ NoDeficit (if s.kT = s0.kT then s else recomputeGrants s) := by
    split
    · exact ⟨.refl s, h⟩
    · exact ⟨recomputeGrants_tallied s, h⟩
  unfold afterBudget
  dsimp only
  generalize (if s.kT = s0.kT then s else recomputeGrants s) = u at *
  obtain ⟨htallied, hu⟩ := hgrants
  split
  · exact hu
  · refine evalDeficit_noDeficit ?_ hu
    rw [kLive_congr htallied.trays, htallied.side.capacity]
    exact hroom

theorem Started.live {h : TrayId} {s t : State} (hs : Started h s t) : t.kLive ≤ t.budget.c := (kLive_le_kT _).trans hs.room

theorem entryPg_noDeficit {h : TrayId} {s y : State} (hy : Started h s y) (hin : y.trays[h] = enterInrush s.trays[h]) (hf : NoDeficit y) :
    NoDeficit (entryPg h y) := by
  unfold entryPg
  split
  · rw [trayPgRise_entered hin]
    split
    · have hon := (started_again hy hin (Or.inr (Or.inr rfl)) rfl).note (some h.val) none
      refine afterBudget_noDeficit hon.live ?_
      rw [NoDeficit, post_budget]
      exact hf
    · have hsettle := started_again hy hin (Or.inr (Or.inl rfl)) rfl
      exact afterBudget_noDeficit hsettle.live hf
  · exact hf

theorem enterInrush_live {h : TrayId} {s : State} (hroom : s.kT + s.trays[h].cfg.alloc + s.trays[h].cfg.surge ≤ s.budget.c) :
    (putTray h (enterInrush s.trays[h]) s).kLive ≤ s.budget.c := by
  have hkT := kT_putTray h (enterInrush s.trays[h]) s
  have hcounted : (enterInrush s.trays[h]).counted = s.trays[h].cfg.alloc + s.trays[h].cfg.surge := rfl
  refine (kLive_le_kT _).trans ((Nat.le_add_right _ _).trans (hkT.le.trans ?_))
  rwa [hcounted, ← Nat.add_assoc]

theorem beginInrush_noDeficit {h : TrayId} {s : State} (hroom : s.kT + s.trays[h].cfg.alloc + s.trays[h].cfg.surge ≤ s.budget.c)
    (hf : NoDeficit s) : NoDeficit (beginInrush h s) := by
  have hlive := enterInrush_live hroom
  have hb := fun t => putTray_budget h t s
  rw [beginInrush]
  refine afterBudget_noDeficit ?_ ?_
  · rw [hb]
    exact hlive
  · rw [NoDeficit, hb]
    exact hf

theorem startTray_noDeficit {h : TrayId} {s : State} (ha : admission s s.trays[h] = .start) (hf : NoDeficit s) : NoDeficit (startTray h s) := by
  have hroom : s.kT + s.trays[h].cfg.alloc + s.trays[h].cfg.surge ≤ s.budget.c :=
    (Nat.le_add_right _ _).trans ((Nat.le_add_right _ _).trans (admission_start ha).2.1)
  obtain ⟨hbegin, hin⟩ := beginInrush_started (s := spaced s) (h := h) hroom
  have hbegun := beginInrush_noDeficit (s := spaced s) (h := h) hroom hf
  rw [startTray_eq]
  exact entryPg_noDeficit hbegin hin hbegun

/-! ### What follows a change of the budget -/

/-- The flags stay, if they say what they are to say. -/
def FlagsKept (s t : State) : Prop :=
  Flagged s → t.budget.deficitActive = s.budget.deficitActive ∧ t.budget.deficitUnresolved = s.budget.deficitUnresolved ∧ Flagged t

theorem FlagsKept.trans {s t u : State} (h : FlagsKept s t) (k : FlagsKept t u) : FlagsKept s u := fun hs => by
  obtain ⟨h1, h2, ht⟩ := h hs
  obtain ⟨k1, k2, hu⟩ := k ht
  exact ⟨k1.trans h1, k2.trans h2, hu⟩

theorem FlagsKept.of_same {s t : State} (hb : t.budget = s.budget) (hk : t.kLive = s.kLive) : FlagsKept s t := fun h => by
  rw [Flagged, hb, hk]
  exact ⟨rfl, rfl, h⟩

theorem startTray_flags {h : TrayId} {s : State} (ha : admission s s.trays[h] = .start) : FlagsKept s (startTray h s) := fun hf => by
  have hroom : s.kLive ≤ s.budget.c :=
    (kLive_le_kT s).trans ((Nat.le_add_right _ _).trans ((Nat.le_add_right _ _).trans ((Nat.le_add_right _ _).trans
      ((Nat.le_add_right _ _).trans (admission_start ha).2.1))))
  have hno := hf.noDeficit hroom
  have hstarted := startTray_noDeficit ha hno
  exact ⟨hstarted.1.trans hno.1.symm, hstarted.2.trans hno.2.symm, hstarted.flagged (startTray_started ha).live⟩

theorem startLoop_flags (n : Nat) (s : State) : FlagsKept s (startLoop n s) := by
  induction n generalizing s with
  | zero => exact .of_same rfl rfl
  | succ n ih =>
    unfold startLoop
    split
    · exact .of_same rfl rfl
    · split
      · exact .of_same rfl rfl
      · exact .of_same rfl rfl
      · next hv => exact (startTray_flags (startVerdict_start hv).2.2.2.2).trans (ih _)

theorem testUpDone_budget (s : State) : (testUpDone s).budget = s.budget := by
  by_cases hc : upComplete s = true
  · rw [testUpDone_complete hc]
    exact post_budget _ _ _ _
  · rw [testUpDone_id (Bool.eq_false_iff.mpr hc)]

theorem testDownDone_budget (s : State) : (testDownDone s).budget = s.budget := by
  by_cases hc : downComplete s = true
  · rw [testDownDone_complete hc]
    exact post_budget _ _ _ _
  · rw [testDownDone_id (Bool.eq_false_iff.mpr hc)]

theorem testUpDone_flags (s : State) : FlagsKept s (testUpDone s) :=
  .of_same (testUpDone_budget s) (kLive_congr (testUpDone_trays s))

theorem testDownDone_flags (s : State) : FlagsKept s (testDownDone s) :=
  .of_same (testDownDone_budget s) (kLive_congr (testDownDone_trays s))

theorem evalStart_flags (s : State) : FlagsKept s (evalStart s) := by
  unfold evalStart
  split
  · exact (startLoop_flags _ s).trans (testUpDone_flags _)
  · exact .of_same rfl rfl

end Sys2Proof.Machine
end

section
/-! PROOFS. What the rack makes of a new capacity (R77, R86 to R89, R123). -/
namespace Sys2Proof.Machine

/-! ### What follows the budget's part -/

/-- The notices of starts and of the end of a run. -/
def startKind (k : NoticeKind) : Bool := k == .trayOn || k == .runDone

/-- What starts and the end of a run do after the budget's part (R82, R111 to R117). -/
structure Followed (s t : State) : Prop where
  side : TraySideOnly s t
  tray : ∀ j, StartedOrSame s t j
  startQueue : t.run.startQueue.Sublist s.run.startQueue
  kinds : OnlyKinds startKind s t
  flags : FlagsKept s t

namespace Followed
variable {s t u : State}

theorem refl (s : State) : Followed s s := ⟨.refl s, fun _ => Or.inl rfl, .refl _, .refl s, .of_same rfl rfl⟩

theorem trans (h : Followed s t) (k : Followed t u) : Followed s u where
  side := h.side.trans k.side
  tray := fun j => by
    rcases h.tray j with hs | ⟨hq, hout, he⟩
    · rcases k.tray j with kt | ⟨kq, kout, ke⟩
      · exact Or.inl (kt.trans hs)
      · exact Or.inr ⟨h.startQueue.subset kq, kout, hs ▸ ke⟩
    · rcases k.tray j with kt | ⟨kq, -, -⟩
      · exact Or.inr ⟨hq, fun hj => hout (k.startQueue.subset hj), kt ▸ he⟩
      · exact absurd kq hout
  startQueue := k.startQueue.trans h.startQueue
  kinds := h.kinds.trans k.kinds
  flags := h.flags.trans k.flags

theorem same (h : Followed s t) {j : TrayId} (hj : j ∉ s.run.startQueue) : t.trays[j] = s.trays[j] := (h.tray j).same hj

end Followed

theorem StartsTaken.kinds_start {s t : State} (h : StartsTaken s t) : OnlyKinds startKind s t := by
  refine ⟨h.records, fun k hk => h.kinds k ?_ ?_⟩
  · rintro rfl
    exact Bool.false_ne_true hk.symm
  · rintro rfl
    exact Bool.false_ne_true hk.symm

theorem StartsTaken.followed {s t : State} (h : StartsTaken s t) (hf : FlagsKept s t) : Followed s t :=
  ⟨h.side, h.tray, h.startQueue, h.kinds_start, hf⟩

theorem evalStart_followed (s : State) : Followed s (evalStart s) := (evalStart_taken s).followed (evalStart_flags s)

theorem testUpDone_followed (s : State) : Followed s (testUpDone s) := (testUpDone_taken s).followed (testUpDone_flags s)

theorem testDownDone_kinds (s : State) : OnlyKinds startKind s (testDownDone s) := by
  by_cases hc : downComplete s = true
  · have hpost := OnlyKinds.post (p := startKind) .runDone (some 1) (some s.run.stoppedCount) s rfl
    rw [testDownDone_complete hc]
    exact ⟨hpost.records, hpost.kinds⟩
  · rw [testDownDone_id (Bool.eq_false_iff.mpr hc)]
    exact .refl s

theorem testDownDone_followed (s : State) : Followed s (testDownDone s) where
  side := testDownDone_side s
  tray := fun j => Or.inl (by rw [testDownDone_trays])
  startQueue := by rw [testDownDone_startQueue]
  kinds := testDownDone_kinds s
  flags := testDownDone_flags s

theorem seqAfter_followed (s0 s : State) : Followed s (seqAfter s0 s) := by
  unfold seqAfter
  split
  · exact testDownDone_followed s
  · split
    · exact (evalStart_followed s).trans (testUpDone_followed _)
    · exact testUpDone_followed s

/-! ### Recovery and the flags -/

theorem joinAll_budget (l : List TrayId) (s : State) : (joinAll l s).budget = s.budget := by
  unfold joinAll
  induction l generalizing s with
  | nil => rfl
  | cons i l ih => exact ih _

theorem joinAll_kLive {l : List TrayId} {s : State} (h : ∀ i ∈ l, s.trays[i].state = .off) : (joinAll l s).kLive = s.kLive := by
  refine congrArg List.sum (List.map_congr_left fun i _ => ?_)
  rw [(joinAll_joined l s).tray i]
  split
  · next hi =>
    rw [Tray.countedLive, Tray.countedLive, Tray.counted, Tray.counted, h i hi]
    rfl
  · rfl

theorem joinAll_flags {l : List TrayId} {s : State} (h : ∀ i ∈ l, s.trays[i].state = .off) : FlagsKept s (joinAll l s) :=
  .of_same (joinAll_budget l s) (joinAll_kLive h)

theorem recovered_off {l : List TrayId} {s : State} {i : TrayId} (h : i ∈ recovered l s) : s.trays[i].state = .off :=
  ((Tray.eligible_iff _).mp (List.mem_filter.mp h).2).2.1

theorem newUp_flags (scope : Scope) (s : State) : FlagsKept s (newUp scope s) := .of_same rfl rfl

theorem recovery_flags (l : List TrayId) (s : State) : FlagsKept s (recovery l s) := by
  rcases recovery_cases l s with h | ⟨-, h⟩ | ⟨-, -, h⟩
  · rw [h]
    exact .of_same rfl rfl
  · rw [h, createUp_eq]
    exact ((newUp_flags _ s).trans (joinAll_flags fun i hi => recovered_off hi)).trans (evalStart_flags _)
  · rw [h]
    exact (joinAll_flags fun i hi => recovered_off hi).trans (evalStart_flags _)

theorem recovery_kinds (l : List TrayId) (s : State) : OnlyKinds startKind s (recovery l s) := by
  rcases recovery_cases l s with h | ⟨-, h⟩ | ⟨-, -, h⟩
  · rw [h]
    exact .refl s
  · have hnew : OnlyKinds startKind s (newUp (.trays (recovered l s)) s) := .of_eq rfl
    rw [h, createUp_eq]
    exact (hnew.trans (.of_eq (joinAll_joined _ _).notices)).trans (evalStart_taken _).kinds_start
  · rw [h]
    exact (OnlyKinds.of_eq (joinAll_joined _ _).notices).trans (evalStart_taken _).kinds_start

theorem clearShed_flags (s : State) : FlagsKept s (clearShed s) := .of_same (clearShed_budget s) (clearShed_locksOnly s).kLive

end Sys2Proof.Machine
end

section
/-! PROOFS. A new capacity: its way through budget, sequencer and recovery (R77, R86 to R89, R123). -/
namespace Sys2Proof.Machine

/-! ### Evaluations of the start rule at the end -/

/-- Some evaluations of the start rule, which do nothing to a run that is not RUNNING. -/
structure Retold (s t : State) : Prop where
  starts : StartsTaken s t
  flags : FlagsKept s t
  still : s.run.state ≠ .running → t = s
  outside : s.ilc.state ≠ .normal → t.trays = s.trays

theorem Retold.refl (s : State) : Retold s s := ⟨.refl s, .of_same rfl rfl, fun _ => rfl, fun _ => rfl⟩

theorem Retold.trans {s t u : State} (h : Retold s t) (k : Retold t u) : Retold s u :=
  ⟨h.starts.trans k.starts, h.flags.trans k.flags, fun hs => by
    have ht := h.still hs
    rw [k.still (by rw [ht]; exact hs), ht], fun hn => (k.outside (by rw [h.starts.side.ilc]; exact hn)).trans (h.outside hn)⟩

theorem tell_retold (s : State) : Retold s (tell s) :=
  ⟨evalStart_taken s, evalStart_flags s, fun h => evalStart_held h, evalStart_outside_trays⟩

theorem Retold.followed {s t : State} (h : Retold s t) : Followed s t := h.starts.followed h.flags

/-! ### The ways of a new capacity -/

/-- The part with the new C, and the grants that follow from it (R77, R84). -/
def withCapacity (c : Nat) (s : State) : State := recomputeGrants { s with budget := { s.budget with c := c } }

/-- The part after the evaluation of a deficit and the sequencer's part. -/
def capacityShed (c : Nat) (s : State) : State := seqAfter (withCapacity c s) (evalDeficit (withCapacity c s))

theorem capacityShed_side (c : Nat) (s : State) : TraySideOnly (withCapacity c s) (capacityShed c s) :=
  (evalDeficit_side _).trans (seqAfter_side _ _)

theorem withCapacity_shelf (c : Nat) (s : State) : (withCapacity c s).ilc.state = s.ilc.state := rfl

/-- The part after the evaluation, which is made in NORMAL only (R86). -/
def capacityEvaluated (c : Nat) (s : State) : State := if (withCapacity c s).ilc.state = .normal then capacityShed c s else withCapacity c s

/-- SHED is cleared at a rise in NORMAL (R89). -/
def capacityFreed (rise : Bool) (s : State) : State := if s.ilc.state = .normal ∧ rise then clearShedOnRise s else s

theorem capacityChanged_eq (c : Nat) (s : State) :
    capacityChanged c s =
      if decide (s.budget.c < c) then tell (capacityFreed (decide (s.budget.c < c)) (capacityEvaluated c s))
      else capacityFreed (decide (s.budget.c < c)) (capacityEvaluated c s) := rfl

theorem capacityEvaluated_normal (c : Nat) {s : State} (hn : s.ilc.state = .normal) : capacityEvaluated c s = capacityShed c s :=
  if_pos (show (withCapacity c s).ilc.state = .normal from hn)

theorem capacityChanged_fall {c : Nat} {s : State} (hn : s.ilc.state = .normal) (hc : ¬ s.budget.c < c) :
    capacityChanged c s = capacityShed c s := by
  rw [capacityChanged_eq, decide_eq_false hc, capacityEvaluated_normal c hn, if_neg Bool.false_ne_true, capacityFreed,
    if_neg fun h => Bool.false_ne_true h.2]

theorem capacityChanged_rise {c : Nat} {s : State} (hn : s.ilc.state = .normal) (hc : s.budget.c < c) :
    capacityChanged c s = tell (clearShedOnRise (capacityShed c s)) := by
  have hshed : (capacityShed c s).ilc.state = .normal := by
    rw [(capacityShed_side c s).ilc]
    exact hn
  rw [capacityChanged_eq, decide_eq_true hc, capacityEvaluated_normal c hn, if_pos rfl, capacityFreed, if_pos ⟨hshed, rfl⟩]

/-- Outside NORMAL a new C brings new grants and an evaluation of the start rule at most. -/
theorem capacityChanged_outside {c : Nat} {s : State} (hn : s.ilc.state ≠ .normal) : Retold (withCapacity c s) (capacityChanged c s) := by
  have hn' : (withCapacity c s).ilc.state ≠ .normal := hn
  have hfreed : ∀ rise, capacityFreed rise (withCapacity c s) = withCapacity c s := fun _ => if_neg fun h => hn' h.1
  have heval : capacityEvaluated c s = withCapacity c s := if_neg hn'
  rw [capacityChanged_eq, heval, hfreed]
  split
  · exact tell_retold _
  · exact .refl _

/-! ### The rectifier roster -/

/-- The roster hands on a changed C, and tells a changed L_meas (R45, R46, R68). -/
theorem rosterRecompute_retold (s0 s : State) :
    Retold (if capacityOf s.params.policy s.rects = s.budget.c then s else capacityChanged (capacityOf s.params.policy s.rects) s)
      (rosterRecompute s0 s) := by
  unfold rosterRecompute
  dsimp only
  split
  · split
    · exact .refl _
    · exact tell_retold _
  · split
    · exact .refl _
    · exact tell_retold _

/-- C is unchanged. -/
theorem rosterRecompute_same {s0 s : State} (h : capacityOf s.params.policy s.rects = s.budget.c) : Retold s (rosterRecompute s0 s) := by
  have hr := rosterRecompute_retold s0 s
  rw [if_pos h] at hr
  exact hr

section
variable {s0 s : State} (h : capacityOf s.params.policy s.rects ≠ s.budget.c)
include h

theorem rosterRecompute_changed : Retold (capacityChanged (capacityOf s.params.policy s.rects) s) (rosterRecompute s0 s) := by
  have hr := rosterRecompute_retold s0 s
  rw [if_neg h] at hr
  exact hr

theorem rosterRecompute_outside (hn : s.ilc.state ≠ .normal) :
    Retold (withCapacity (capacityOf s.params.policy s.rects) s) (rosterRecompute s0 s) :=
  (capacityChanged_outside hn).trans (rosterRecompute_changed h)

theorem rosterRecompute_fall (hn : s.ilc.state = .normal) (hc : ¬ s.budget.c < capacityOf s.params.policy s.rects) :
    Retold (capacityShed (capacityOf s.params.policy s.rects) s) (rosterRecompute s0 s) := by
  have hr := rosterRecompute_changed (s0 := s0) h
  rw [capacityChanged_fall hn hc] at hr
  exact hr

theorem rosterRecompute_rise (hn : s.ilc.state = .normal) (hc : s.budget.c < capacityOf s.params.policy s.rects) :
    Retold (clearShedOnRise (capacityShed (capacityOf s.params.policy s.rects) s)) (rosterRecompute s0 s) := by
  have hr := rosterRecompute_changed (s0 := s0) h
  rw [capacityChanged_rise hn hc] at hr
  exact (tell_retold _).trans hr

end

end Sys2Proof.Machine
end

section
/-! PROOFS. What the rack makes of the roster's capacity, in the words of the statements (R77, R86 to R89, R123). -/
namespace Sys2Proof.Machine

/-! ### The deficit part -/

/-- What the evaluation of a deficit against a new C, with the starts that follow, comes to in NORMAL. -/
structure ShedFor (s : State) (c : Nat) (x : State) : Prop where
  active : x.budget.deficitActive = decide (c + shedWatts s (fun _ => true) < s.kLive)
  unresolved : x.budget.deficitUnresolved = decide (c + shedWatts s (fun _ => true) < s.kLive)
  flagged : Flagged x
  queue : x.run.startQueue.Sublist s.run.startQueue
  shed : ∀ i : TrayId, i ∉ s.run.startQueue → shedForDeficit s c i = true → x.trays[i] = deficitRecord s.trays[i]
  kept : ∀ i : TrayId, i ∉ s.run.startQueue → shedForDeficit s c i = false → x.trays[i] = s.trays[i]
  records : s.notices.records <+: x.notices.records
  notice : ∀ i : TrayId, shedForDeficit s c i = true →
    NoticeIn { kind := .shedTray, subject := some i.val, value := some s.trays[i].counted, time := s.time } x
  room : s.kLive ≤ c → OnlyKinds startKind s x
  starts : c < s.kLive → s.budget.deficitActive = false →
    NoticeIn { kind := .capacityDeficit, subject := none, value := some (s.kLive - c), time := s.time } x
  goesOn : s.budget.deficitActive = true → NoneOfKind .capacityDeficit s x
  tells : c + shedWatts s (fun _ => true) < s.kLive → s.budget.deficitActive = false ∨ s.budget.deficitUnresolved = false →
    NoticeIn
      { kind := .deficitUnresolved, subject := none
        value := some (s.kLive - shedWatts s (fun _ => true) - c), time := s.time } x

theorem capacityShed_shedFor (c : Nat) {s : State} (hn : s.ilc.state = .normal) : ShedFor s c (capacityShed c s) := by
  have hd : DeficitTaken (withCapacity c s) (evalDeficit (withCapacity c s)) := evalDeficit_taken (s := withCapacity c s) hn
  have hf := seqAfter_followed (withCapacity c s) (evalDeficit (withCapacity c s))
  have hx : capacityShed c s = seqAfter (withCapacity c s) (evalDeficit (withCapacity c s)) := rfl
  rw [← hx] at hf
  generalize capacityShed c s = x at *
  generalize evalDeficit (withCapacity c s) = d at *
  obtain ⟨hactive, hunresolved, hflagged⟩ := hf.flags hd.flagged
  have hqueue : d.run.startQueue.Sublist s.run.startQueue := hd.run.startQueue
  have hrecords : s.notices.records <+: d.notices.records := hd.notes.records
  have hmore := hf.kinds.records
  have hshed := hd.walk.shed
  have hkept := hd.walk.kept
  have hstarts := hd.starts
  have hgoes := hd.goesOn
  have htells := hd.tells
  refine ⟨hactive.trans hd.active, hunresolved.trans hd.unresolved, hflagged, hf.startQueue.trans hqueue, fun i hq hi => ?_, fun i hq hi => ?_,
    hrecords.trans hmore, fun i hi => (hshed i hi).2.more hmore, fun hroom => ?_, fun hlt ha => (hstarts hlt ha).more hmore, fun ha => ?_,
    fun hlt hno => (htells hlt hno).more hmore⟩
  · exact (hf.same fun hm => hq (hqueue.subset hm)).trans (hshed i hi).1
  · exact (hf.same fun hm => hq (hqueue.subset hm)).trans (hkept i hi)
  · have hsame : d.notices = s.notices := (hd.room hroom).notices
    exact (OnlyKinds.of_eq hsame).trans hf.kinds
  · exact (hf.kinds.kinds _ rfl).trans (hgoes ha)

/-! ### After the deficit part -/

/-- What follows the deficit part: notices of starts, and flags that stay. -/
structure ThenStarts (x t : State) : Prop where
  kinds : OnlyKinds startKind x t
  flags : FlagsKept x t
  capacity : t.budget.c = x.budget.c

theorem ThenStarts.trans {x y t : State} (h : ThenStarts x y) (k : ThenStarts y t) : ThenStarts x t :=
  ⟨h.kinds.trans k.kinds, h.flags.trans k.flags, k.capacity.trans h.capacity⟩

theorem Retold.thenStarts {s t : State} (h : Retold s t) : ThenStarts s t := ⟨h.starts.kinds_start, h.flags, h.starts.side.capacity⟩

theorem clearShedOnRise_thenStarts (s : State) : ThenStarts s (clearShedOnRise s) := by
  have hclear : ThenStarts s (clearShed s) := ⟨.of_eq (clearShed_notices s), clearShed_flags s, (clearShed_side s).capacity⟩
  have hrec : ThenStarts (clearShed s) (recovery (shedTrays s) (clearShed s)) :=
    ⟨recovery_kinds _ _, recovery_flags _ _, (recovery_recovered _ _).side.capacity⟩
  exact hclear.trans hrec

theorem withCapacity_c (c : Nat) (s : State) : (withCapacity c s).budget.c = c := rfl

theorem capacityShed_c (c : Nat) (s : State) : (capacityShed c s).budget.c = c :=
  (capacityShed_side c s).capacity.trans (withCapacity_c c s)

/-- The roster's figure is the budget's C afterwards (R46, R77). -/
theorem rosterRecompute_c (s0 s : State) : (rosterRecompute s0 s).budget.c = capacityOf s.params.policy s.rects := by
  by_cases h : capacityOf s.params.policy s.rects = s.budget.c
  · rw [(rosterRecompute_same h).starts.side.capacity, h]
  · by_cases hn : s.ilc.state = .normal
    · by_cases hc : s.budget.c < capacityOf s.params.policy s.rects
      · exact (rosterRecompute_rise h hn hc).thenStarts.capacity.trans ((clearShedOnRise_thenStarts _).capacity.trans (capacityShed_c _ s))
      · exact (rosterRecompute_fall h hn hc).thenStarts.capacity.trans (capacityShed_c _ s)
    · exact (rosterRecompute_outside h hn).thenStarts.capacity

/-- In NORMAL a changed C goes through the deficit part (R86). -/
theorem rosterRecompute_thenStarts {s0 s : State} (h : capacityOf s.params.policy s.rects ≠ s.budget.c) (hn : s.ilc.state = .normal) :
    ThenStarts (capacityShed (capacityOf s.params.policy s.rects) s) (rosterRecompute s0 s) := by
  by_cases hc : s.budget.c < capacityOf s.params.policy s.rects
  · exact (clearShedOnRise_thenStarts _).trans (rosterRecompute_rise h hn hc).thenStarts
  · exact (rosterRecompute_fall h hn hc).thenStarts

/-! ### A rise -/

theorem rise_freed (s : State) {t : State} (h : Retold (clearShedOnRise s) t) (i : TrayId) : t.trays[i].locks.shed = false := by
  have hclear : (clearShedOnRise s).trays[i].locks.shed = false := by
    rw [clearShedOnRise, recovery_locks, clearShed_get]
    rfl
  rw [(h.starts.tray i).locks]
  exact hclear

/-- With room for the live load the deficit part leaves trays and run alone. -/
theorem capacityShed_room {c : Nat} {s : State} (hn : s.ilc.state = .normal) (ho : OpenLaw s) (hroom : s.kLive ≤ c) :
    Tallied (withCapacity c s) (capacityShed c s) := by
  have hd : DeficitTaken (withCapacity c s) (evalDeficit (withCapacity c s)) := evalDeficit_taken (s := withCapacity c s) hn
  have ht := hd.room hroom
  have hopen : OpenLaw (withCapacity c s) := ho
  rw [capacityShed]
  generalize evalDeficit (withCapacity c s) = d at *
  rw [seqAfter_same ht.trays ht.run hopen]
  exact ht

theorem clearShed_of_trays {s x : State} (h : x.trays = s.trays) (i : TrayId) : (clearShed x).trays[i] = freeShed s.trays[i] := by
  rw [clearShed_get, h]

/-- A rise hands the trays freed to recovery (R89, R123). -/
theorem rise_recovers {c : Nat} {s : State} (hn : s.ilc.state = .normal) (ht : TrayLaw s) (ho : OpenLaw s) (hroom : s.kLive ≤ c)
    {t : State} (h : Retold (clearShedOnRise (capacityShed c s)) t) : RecoveryTaken s t := by
  have htallied := capacityShed_room hn ho hroom
  rw [clearShedOnRise] at h
  generalize capacityShed c s = x at *
  have htrays : x.trays = s.trays := htallied.trays
  have hrun : x.run = s.run := htallied.run
  have hshed : shedTrays x = shedTrays s := by rw [shedTrays, shedTrays, htrays]
  have htray := clearShed_of_trays htrays
  have hcrun : (clearShed x).run = s.run := (clearShed_run x).trans hrun
  have hparams : (clearShed x).params = s.params := (clearShed_params x).trans htallied.side.params
  rw [hshed] at h
  generalize clearShed x = y at *
  have hover : HandedOver s y := by
    refine ⟨hparams, fun i _ => htray i, fun i hq => ⟨htray i, fun hm => ?_⟩, fun hi => by rw [hcrun]; exact hi, fun hi => by rw [hcrun]; exact hi,
      by rw [hcrun], fun _ hne => by rw [hcrun]; exact hne⟩
    rw [hcrun] at hm
    exact hq ((ht.1 i).2.2.1.mp hm)
  exact hover.recoveryTaken h.starts h.still

/-! ### All of it -/

/-- What the rack makes of the roster's figures (R77, R86 to R89, R123). -/
theorem rosterRecompute_taken {s0 s : State} (ht : TrayLaw s) (ho : OpenLaw s) : CapacityTaken s (rosterRecompute s0 s) := by
  have hc := rosterRecompute_c s0 s
  have hplace : ∀ i : TrayId, s.trays[i].state ≠ .queued → i ∉ s.run.startQueue := fun i hq hm => hq ((ht.1 i).2.2.1.mp hm)
  have hsame := rosterRecompute_same (s0 := s0) (s := s)
  have houtside := rosterRecompute_outside (s0 := s0) (s := s)
  have hfall := rosterRecompute_fall (s0 := s0) (s := s)
  have hrise := rosterRecompute_rise (s0 := s0) (s := s)
  have hthen := rosterRecompute_thenStarts (s0 := s0) (s := s)
  have hshedFor := fun hn => capacityShed_shedFor (capacityOf s.params.policy s.rects) (s := s) hn
  have hrecovers := fun hn hroom t (h : Retold (clearShedOnRise (capacityShed (capacityOf s.params.policy s.rects) s)) t) =>
    rise_recovers hn ht ho hroom h
  generalize rosterRecompute s0 s = t at *
  rw [← hc] at hsame houtside hfall hrise hthen hshedFor hrecovers
  refine ⟨fun hn => ?_, fun he => ?_, fun hn hne => ?_, fun hn hlt i => ?_, fun hn hlt => ⟨?_, fun hroom => ?_⟩⟩
  · by_cases he : t.budget.c = s.budget.c
    · exact (hsame he).outside hn
    · exact (houtside he hn).outside hn
  · have h := hsame he
    exact ⟨h.starts.kinds_start.kinds _ rfl, h.starts.kinds_start.kinds _ rfl, fun i hq => h.followed.same (hplace i hq)⟩
  · have hx := hshedFor hn
    obtain ⟨hkinds, hflags, -⟩ := hthen hne hn
    obtain ⟨h1, h2, -⟩ := hflags hx.flagged
    refine ⟨h1.trans hx.active, h2.trans hx.unresolved, fun hroom => ?_, fun hlt ha => (hx.starts hlt ha).more hkinds.records,
      fun ha => (hkinds.kinds _ rfl).trans (hx.goesOn ha), fun hlt hno => (hx.tells hlt hno).more hkinds.records,
      fun i hi => (hx.notice i hi).more hkinds.records⟩
    have hroomKinds := hx.room hroom
    exact ⟨(hkinds.kinds _ rfl).trans (hroomKinds.kinds _ rfl), (hkinds.kinds _ rfl).trans (hroomKinds.kinds _ rfl),
      (hkinds.kinds _ rfl).trans (hroomKinds.kinds _ rfl)⟩
  · have hx := hshedFor hn
    have hf := (hfall (Nat.ne_of_lt hlt) hn (Nat.lt_asymm hlt)).followed
    have hout : ∀ i : TrayId, i ∉ s.run.startQueue → t.trays[i] = (capacityShed t.budget.c s).trays[i] := fun i hq =>
      hf.same fun hm => hq (hx.queue.subset hm)
    refine ⟨fun hi => ?_, fun hi hq => (hout i (hplace i hq)).trans (hx.kept i (hplace i hq) hi)⟩
    have hrunning := candidate_running ((shedForDeficit_iff _ _ _).mp hi).1
    have hq : s.trays[i].state ≠ .queued := fun hq => by
      rcases hrunning with h | h <;> exact TrayState.noConfusion (h.symm.trans hq)
    exact (hout i (hplace i hq)).trans (hx.shed i (hplace i hq) hi)
  · exact rise_freed _ (hrise (Nat.ne_of_gt hlt) hn hlt)
  · exact hrecovers hn hroom t (hrise (Nat.ne_of_gt hlt) hn hlt)

end Sys2Proof.Machine
end

section
/-! PROOFS. The rectifier roster's turn at the end of a command (R42 to R46, R77, R86 to R89, R123). -/
namespace Sys2Proof.Machine

/-! ### What the roster's turn leaves alone -/

theorem withCapacity_only (c : Nat) (s : State) : RackOnly s (withCapacity c s) := by
  have hgrants : RackOnly { s with budget := { s.budget with c := c } } (withCapacity c s) := .of_side (recomputeGrants_side _)
  exact RackOnly.trans (t := { s with budget := { s.budget with c := c } }) ⟨rfl, fun _ => rfl⟩ hgrants

/-- What the budget, the sequencer and recovery leave alone while they take up a capacity. -/
structure Paced (s t : State) : Prop where
  only : RackOnly s t
  notes : RackNotes s t
  unmarked : s.store.autoPending = false → t.store.autoPending = false

namespace Paced
variable {s t u : State}

theorem trans (h : Paced s t) (k : Paced t u) : Paced s u :=
  ⟨h.only.trans k.only, h.notes.trans k.notes, fun hs => k.unmarked (h.unmarked hs)⟩

theorem of_side (h : TraySideOnly s t) (hn : RackNotes s t) : Paced s t :=
  ⟨.of_side h, hn, fun hs => by rw [h.store]; exact hs⟩

end Paced

theorem Retold.paced {s t : State} (h : Retold s t) : Paced s t := .of_side h.starts.side h.starts.notes

theorem withCapacity_paced (c : Nat) (s : State) : Paced s (withCapacity c s) := ⟨withCapacity_only c s, .of_eq rfl, fun h => h⟩

theorem capacityShed_paced (c : Nat) (s : State) : Paced s (capacityShed c s) :=
  (withCapacity_paced c s).trans (.of_side (capacityShed_side c s) ((evalDeficit_notes _).trans (seqAfter_notes _ _)))

theorem clearShedOnRise_paced (s : State) : Paced s (clearShedOnRise s) := by
  have hclear : Paced s (clearShed s) := .of_side (clearShed_side s) (.of_eq (clearShed_notices s))
  have hrec := recovery_recovered (shedTrays s) (clearShed s)
  exact hclear.trans ⟨.of_rackSide hrec.side, hrec.notes, recovery_unmarked⟩

theorem rosterRecompute_paced (s0 s : State) : Paced s (rosterRecompute s0 s) := by
  by_cases h : capacityOf s.params.policy s.rects = s.budget.c
  · exact (rosterRecompute_same h).paced
  · by_cases hn : s.ilc.state = .normal
    · by_cases hc : s.budget.c < capacityOf s.params.policy s.rects
      · exact (capacityShed_paced _ s).trans ((clearShedOnRise_paced _).trans (rosterRecompute_rise h hn hc).paced)
      · exact (capacityShed_paced _ s).trans (rosterRecompute_fall h hn hc).paced
    · exact (withCapacity_paced _ s).trans (rosterRecompute_outside h hn).paced

/-! ### In terms of the part before the command -/

/-- The part is as before the command in all that the capacity's way reads. -/
structure CapacityPrelude (s y : State) : Prop where
  trays : y.trays = s.trays
  run : y.run = s.run
  budget : y.budget = s.budget
  shelf : y.ilc.state = s.ilc.state
  autoRecover : y.params.autoRecover = s.params.autoRecover
  time : y.time = s.time
  quiet : ∀ k, rackKind k = true → NoneOfKind k s y

namespace CapacityPrelude
variable {s y : State} (h : CapacityPrelude s y)
include h

theorem kLive : y.kLive = s.kLive := by rw [State.kLive, State.kLive, h.trays]

theorem shedFirst : shedFirst y = shedFirst s := by
  funext a b
  rw [Machine.shedFirst, Machine.shedFirst, h.trays]

theorem shedWatts : shedWatts y = shedWatts s := by
  funext p
  rw [Machine.shedWatts, Machine.shedWatts, h.trays]

theorem shedForDeficit : shedForDeficit y = shedForDeficit s := by
  funext c i
  rw [Machine.shedForDeficit, Machine.shedForDeficit, h.kLive, h.shedWatts, h.shedFirst, h.trays]

theorem trayLaw (hs : TrayLaw s) : TrayLaw y := by
  have hplace : ∀ i : TrayId, placeLaw s i → placeLaw y i := fun i hi => by
    unfold placeLaw at hi ⊢
    rw [h.trays, h.run]
    exact hi
  refine ⟨fun i => ⟨?_, ?_, hplace i (hs.1 i).2.2⟩, ?_⟩
  · rw [h.trays]
    exact (hs.1 i).1
  · rw [h.trays]
    exact (hs.1 i).2.1
  · rw [h.run]
    exact hs.2

theorem openLaw (hs : OpenLaw s) : OpenLaw y := hs.congr h.trays h.run

theorem recoveryTaken {t : State} (k : RecoveryTaken y t) : RecoveryTaken s t := by
  unfold RecoveryTaken at k ⊢
  rw [h.trays, h.run, h.autoRecover] at k
  exact k

theorem noneOfKind {t : State} {k : NoticeKind} (hk : rackKind k = true) (hn : NoneOfKind k y t) : NoneOfKind k s t := hn.trans (h.quiet k hk)

/-- What the rack makes of a capacity, in terms of the part before the command. -/
theorem taken {t : State} (k : CapacityTaken y t) : CapacityTaken s t := by
  obtain ⟨hout, hsame, hnew, hfall, hrise⟩ := k
  rw [h.shelf, h.trays] at hout
  rw [h.budget, h.trays] at hsame
  rw [h.shelf, h.budget, h.kLive, h.shedWatts, h.shedForDeficit, h.trays, h.time] at hnew
  rw [h.shelf, h.budget, h.shedForDeficit, h.trays] at hfall
  rw [h.shelf, h.budget, h.kLive] at hrise
  refine ⟨hout, fun hc => ?_, fun hn hc => ?_, hfall, fun hn hc => ⟨(hrise hn hc).1, fun hroom => h.recoveryTaken ((hrise hn hc).2 hroom)⟩⟩
  · obtain ⟨hd, hs, ht⟩ := hsame hc
    exact ⟨h.noneOfKind rfl hd, h.noneOfKind rfl hs, ht⟩
  · obtain ⟨hactive, hunresolved, hroom, hstarts, hgoes, htells, hnotes⟩ := hnew hn hc
    refine ⟨hactive, hunresolved, fun hlive => ?_, hstarts, fun ha => h.noneOfKind rfl (hgoes ha), htells, hnotes⟩
    obtain ⟨hd, hs, hu⟩ := hroom hlive
    exact ⟨h.noneOfKind rfl hd, h.noneOfKind rfl hs, h.noneOfKind rfl hu⟩

end CapacityPrelude

end Sys2Proof.Machine
end

section
/-! PROOFS. The telemetry of a rectifier, from its bytes to U, and the roster's turn (R42 to R46, R77). -/
namespace Sys2Proof.Machine

/-! ### The bytes -/

theorem rectFaultOf_none (n : Nat) : rectFaultOf n = .none ↔ n = 0 := by
  unfold rectFaultOf
  split <;> simp_all

theorem rectFaultCode_faultOf (n : Nat) : rectFaultCode (rectFaultOf n) = min 4 n := by
  match n with
  | 0 => rfl
  | 1 => rfl
  | 2 => rfl
  | 3 => rfl
  | n + 4 => exact (Nat.min_eq_left (Nat.le_add_left 4 n)).symm

theorem rectFault_none_iff (b : Byte) : rectFaultOf b.toNat = .none ↔ b = 0 := (rectFaultOf_none _).trans (byte_toNat_eq_zero b)

theorem rectTelemetryOf_bytes (b0 b1 b2 b3 b4 b5 b6 b7 : Byte) :
    rectTelemetryOf [b0, b1, b2, b3, b4, b5, b6, b7] =
      { output := min 8000 (b0.toNat + 256 * b1.toNat), rated := min 8000 (b2.toNat + 256 * b3.toNat),
        tempClass := min 3 b4.toNat, inputPresent := b5 != 0, outputOn := b6 != 0, fault := rectFaultOf b7.toNat } := by
  rw [← yes_byte, ← yes_byte]
  rfl

/-- The state of an arrival from its bytes (R43). -/
theorem rectStateOf_bytes (b0 b1 b2 b3 b4 b5 b6 b7 : Byte) (inService : Bool) :
    rectStateOf (rectTelemetryOf [b0, b1, b2, b3, b4, b5, b6, b7]) inService =
      if b7 ≠ 0 then .faulted else if inService = false then .standby
      else if b5 = 0 then .inputLost else if b6 ≠ 0 then .sourcing else .starting := by
  rw [rectTelemetryOf_bytes, rectStateOf]
  dsimp only
  simp only [ne_eq, rectFault_none_iff, Bool.not_eq_true', bne_iff_ne, bne_eq_false_iff_eq]

theorem derating_byte (b : Byte) :
    derating (min 3 b.toNat) = if b = 0 then 100 else if b = 1 then 90 else if b = 2 then 75 else 50 := by
  have hiff : ∀ k : Byte, b = k ↔ b.toNat = k.toNat := fun k => BitVec.toNat_inj.symm
  rw [if_congr (hiff 0) rfl (if_congr (hiff 1) rfl (if_congr (hiff 2) rfl rfl))]
  generalize b.toNat = n
  match n with
  | 0 => rfl
  | 1 => rfl
  | 2 => rfl
  | n + 3 =>
    rw [Nat.min_eq_left (Nat.le_add_left 3 n)]
    simp [derating]

/-! ### The record -/

/-- The record of a rectifier slot with the telemetry and the state of an arrival (R42, R43). -/
def toldRect (t : RectTelemetry) (inService : Bool) (x : RectSlot) : RectSlot :=
  { x with telemetry := some t, state := rectStateOf t inService }

theorem rectFaultNews_iff (x : RectSlot) (t : RectTelemetry) (inService : Bool) :
    rectFaultNews x (toldRect t inService x) = true ↔
      t.fault ≠ .none ∧ (x.state ≠ .faulted ∨ x.telemetry.map (·.fault) ≠ some t.fault) := by
  have hstate : rectStateOf t inService = .faulted ↔ t.fault ≠ .none := by
    unfold rectStateOf
    repeat' split
    all_goals simp_all
  have hcode : t.fault ≠ .none → (x.faultCode ≠ t.fault ↔ x.telemetry.map (·.fault) ≠ some t.fault) := fun hf => by
    unfold RectSlot.faultCode
    cases x.telemetry with
    | none => simp [hf.symm]
    | some x => simp
  have hnew : (toldRect t inService x).faultCode = t.fault := rfl
  have hnewState : (toldRect t inService x).state = rectStateOf t inService := rfl
  simp only [rectFaultNews, hnew, hnewState, Bool.and_eq_true, Bool.or_eq_true, beq_iff_eq, bne_iff_ne, hstate]
  exact and_congr_right fun hf => or_congr_right (hcode hf)

theorem toldRect_usable (x : RectSlot) (inService : Bool) (b0 b1 b2 b3 b4 b5 b6 b7 : Byte) :
    (toldRect (rectTelemetryOf [b0, b1, b2, b3, b4, b5, b6, b7]) inService x).usablePower =
      if b7 = 0 ∧ inService = true ∧ b5 ≠ 0 ∧ b6 ≠ 0 then
        min 8000 (b2.toNat + 256 * b3.toNat) * (if b4 = 0 then 100 else if b4 = 1 then 90 else if b4 = 2 then 75 else 50) / 100
      else 0 := by
  have hstate := rectStateOf_bytes b0 b1 b2 b3 b4 b5 b6 b7 inService
  have hsourcing : rectStateOf (rectTelemetryOf [b0, b1, b2, b3, b4, b5, b6, b7]) inService = .sourcing ↔
      b7 = 0 ∧ inService = true ∧ b5 ≠ 0 ∧ b6 ≠ 0 := by
    rw [hstate]
    repeat' split
    all_goals simp_all
  by_cases h : b7 = 0 ∧ inService = true ∧ b5 ≠ 0 ∧ b6 ≠ 0
  · rw [if_pos h, ← derating_byte, toldRect, hsourcing.mpr h, rectTelemetryOf_bytes]
    rfl
  · rw [if_neg h]
    exact usablePower_notSourcing fun hs => h (hsourcing.mp hs)

/-! ### The roster's turn -/

theorem afterRoster_paced (s0 s : State) : Paced s (afterRoster s0 s) := by
  refine ⟨.of_rackSide (afterRoster_side s0 s), ?_, fun h => ?_⟩
  · unfold afterRoster
    split
    · exact autoStartTest_notes s
    · exact .refl s
  · unfold afterRoster
    split
    · rw [autoStartTest_unmarked h]
      exact h
    · exact h

theorem afterRoster_unmarked {s0 s : State} (h : s.store.autoPending = false) : afterRoster s0 s = s := by
  unfold afterRoster
  split
  · exact autoStartTest_unmarked h
  · rfl

/-- The roster's turn, with the test for the automatic run that may follow it. -/
structure RosterTurn (y t : State) : Prop where
  paced : Paced y t
  capacity : t.budget.c = capacityOf y.params.policy y.rects
  taken : y.store.autoPending = false → TrayLaw y → OpenLaw y → CapacityTaken y t

theorem rosterTurn (s0 s1 y : State) : RosterTurn y (afterRoster s1 (rosterRecompute s0 y)) := by
  have hpaced := rosterRecompute_paced s0 y
  have hcap := rosterRecompute_c s0 y
  have htaken := fun ht ho => rosterRecompute_taken (s0 := s0) (s := y) ht ho
  generalize rosterRecompute s0 y = u at *
  refine ⟨hpaced.trans (afterRoster_paced s1 u), (afterRoster_side s1 u).capacity.trans hcap, fun hm ht ho => ?_⟩
  rw [afterRoster_unmarked (hpaced.unmarked hm)]
  exact htaken ht ho

end Sys2Proof.Machine
end

section
/-! PROOFS. A valid reply of a rectifier: the obligation (R36, R38, R42 to R46, R77, R86 to R89, R123). -/
namespace Sys2Proof.Machine

/-! ### Up to the roster's turn -/

/-- The part with a rectifier's telemetry and state stored, and MODULE-FAULT posted (R42 to R44). -/
def rectTold (r : RectId) (t : RectTelemetry) (inService : Bool) (s : State) : State :=
  if rectFaultNews s.rects[r] (toldRect t inService s.rects[r]) then
    post .moduleFault (some (rectSlotNo r).val) (some (rectFaultCode t.fault)) (putRect r (toldRect t inService s.rects[r]) s)
  else putRect r (toldRect t inService s.rects[r]) s

theorem rectArrival_eq (r : RectId) (payload : List Byte) (inService : Bool) (s : State) :
    rectArrival r payload inService s = rosterRecompute s (rectTold r (rectTelemetryOf payload) inService s) := rfl

/-- What a rectifier's reply writes before the roster's turn. -/
structure RectTold (r : RectId) (t : RectTelemetry) (inService : Bool) (s y : State) : Prop where
  frame : y = { s with mbc := y.mbc, rects := s.rects.set r (toldRect t inService s.rects[r]), notices := y.notices }
  slots : y.mbc.slots = s.mbc.slots.set (rectSlotNo r) (answeredSlot s.mbc.slots[rectSlotNo r])
  schedule : y.mbc.schedule = s.mbc.schedule.tail
  poll : y.mbc.poll.map Poll.slot = s.mbc.schedule.head?
  kinds : OnlyKinds (fun n => n == .moduleBack || n == .moduleFault) s y
  back : s.mbc.slots[rectSlotNo r].announced = true →
    NoticeNext { kind := .moduleBack, subject := some r.val, value := none, time := s.time } s y
  fault : rectFaultNews s.rects[r] (toldRect t inService s.rects[r]) = true →
    NoticeIn { kind := .moduleFault, subject := some r.val, value := some (rectFaultCode t.fault), time := s.time } y
  noFault : rectFaultNews s.rects[r] (toldRect t inService s.rects[r]) = false → NoneOfKind .moduleFault s y

theorem rectTold_frame (r : RectId) (t : RectTelemetry) (inService : Bool) (s : State) :
    rectTold r t inService s =
      { s with rects := s.rects.set r (toldRect t inService s.rects[r]), notices := (rectTold r t inService s).notices } := by
  unfold rectTold
  split
  · rw [post_eq]
    rfl
  · rfl

theorem rectTold_notices (r : RectId) (t : RectTelemetry) (inService : Bool) (s : State) :
    OnlyKinds (fun n => n == .moduleFault) s (rectTold r t inService s) ∧
      (rectFaultNews s.rects[r] (toldRect t inService s.rects[r]) = true →
        NoticeNext { kind := .moduleFault, subject := some r.val, value := some (rectFaultCode t.fault), time := s.time } s
          (rectTold r t inService s)) ∧
      (rectFaultNews s.rects[r] (toldRect t inService s.rects[r]) = false → (rectTold r t inService s).notices = s.notices) := by
  unfold rectTold
  by_cases hn : rectFaultNews s.rects[r] (toldRect t inService s.rects[r]) = true
  · rw [if_pos hn]
    exact ⟨.post_of (by rfl) _ _ _ rfl, fun _ => noticeNext_post (by rfl) (by rfl), fun h => Bool.noConfusion (h.symm.trans hn)⟩
  · rw [if_neg hn]
    exact ⟨.of_eq rfl, fun h => absurd h hn, fun _ => rfl⟩

theorem rectTold_outcome (r : RectId) (t : RectTelemetry) (inService : Bool) (s : State) :
    RectTold r t inService s (rectTold r t inService (slotHeard (rectSlotNo r) (nextPoll s))) := by
  have hheard := slotHeard_outcome (rectSlotNo r) s
  generalize slotHeard (rectSlotNo r) (nextPoll s) = x at *
  have hframe := rectTold_frame r t inService x
  obtain ⟨hkinds, hfault, hsame⟩ := rectTold_notices r t inService x
  have htime : x.time = s.time := (congrArg State.time hheard.frame).trans rfl
  have hrects : x.rects = s.rects := (congrArg State.rects hheard.frame).trans rfl
  rw [hrects] at hframe hfault hsame
  rw [htime] at hfault
  generalize rectTold r t inService x = y at *
  have hmbc : y.mbc = x.mbc := (congrArg State.mbc hframe).trans rfl
  have hall : OnlyKinds (fun n => n == .moduleBack || n == .moduleFault) s y :=
    (hheard.kinds.mono fun k hk => (Bool.or_eq_false_iff.mp hk).1).trans (hkinds.mono fun k hk => (Bool.or_eq_false_iff.mp hk).2)
  refine ⟨?_, ?_, ?_, ?_, hall, fun ha => (hheard.back ha).then_more hkinds.records, fun hn => .of_next (hfault hn) hkinds.records, fun hn => ?_⟩
  · generalize toldRect t inService s.rects[r] = v at *
    rw [hmbc]
    calc y = { x with rects := s.rects.set r v, notices := y.notices } := hframe
      _ = { s with mbc := x.mbc, rects := s.rects.set r v, notices := y.notices } :=
        congrArg (fun z : State => { z with rects := s.rects.set r v, notices := y.notices }) hheard.frame
  · rw [hmbc]
    exact hheard.slots
  · rw [hmbc]
    exact hheard.schedule
  · rw [hmbc]
    exact hheard.poll
  · exact ((OnlyKinds.of_eq (p := fun _ => false) (hsame hn)).kinds _ rfl).trans (hheard.kinds.kinds _ rfl)

/-- The command of a rectifier's valid reply. -/
theorem exec_rectReply {s : State} {p : Poll} {r : RectId} {payload : List Byte} (hfree : s.held = none) (hp : s.mbc.poll = some p)
    (hslot : p.slot = rectSlotNo r) (hlen : payload.length = 8) :
    exec (.moduleReplyReceived (.complete (slotStation p.slot) 0xE0 p.tag payload (crc16 payload))) s =
      .next (afterRoster s (rosterRecompute (slotHeard (rectSlotNo r) (nextPoll s))
        (rectTold r (rectTelemetryOf payload) p.inService (slotHeard (rectSlotNo r) (nextPoll s))))) := by
  obtain ⟨hkind, hlength⟩ := rectSlotNo_reply r
  rw [exec_validReply hfree hp (by rw [hslot]; exact hkind.symm) (by rw [hslot]; exact hlen.trans hlength.symm), hslot, ownerArrival_rect,
    rectArrival_eq]

/-! ### The rectifiers' part of a command -/

/-- Before the roster's turn a command has reached the pins, the bus, the rectifiers and the notice queue. -/
structure RosterPrelude (s y : State) : Prop where
  frame : y = { s with pins := y.pins, mbc := y.mbc, rects := y.rects, notices := y.notices }
  quiet : ∀ k, rackKind k = true → NoneOfKind k s y

namespace RosterPrelude
variable {s y t : State} (h : RosterPrelude s y)
include h

theorem capacityPrelude : CapacityPrelude s y where
  trays := (congrArg State.trays h.frame).trans rfl
  run := (congrArg State.run h.frame).trans rfl
  budget := (congrArg State.budget h.frame).trans rfl
  shelf := (congrArg (fun x : State => x.ilc.state) h.frame).trans rfl
  autoRecover := (congrArg (fun x : State => x.params.autoRecover) h.frame).trans rfl
  time := (congrArg State.time h.frame).trans rfl
  quiet := h.quiet

theorem params : y.params = s.params := (congrArg State.params h.frame).trans rfl

theorem store : y.store = s.store := (congrArg State.store h.frame).trans rfl

theorem bbus : y.bbus = s.bbus := (congrArg State.bbus h.frame).trans rfl

/-- What the roster's turn makes of it, in terms of the part before the command. -/
theorem turn (k : RosterTurn y t) :
    t = withRackOf { s with pins := y.pins, mbc := y.mbc, rects := y.rects } t ∧ t.mbc = y.mbc ∧ t.rects = y.rects ∧ GrantsOnly s t ∧
      t.budget.c = capacityOf s.params.policy t.rects ∧
      (TrayLaw s → OpenLaw s → s.store.autoPending = false → CapacityTaken s t) := by
  have hpre := h.capacityPrelude
  have honly := k.paced.only
  have hrects := honly.rects
  refine ⟨?_, honly.mbc, hrects, fun b => (honly.2 b).trans ?_, ?_, fun ht ho hm => ?_⟩
  · calc t = withRackOf y t := honly.1
      _ = withRackOf { s with pins := y.pins, mbc := y.mbc, rects := y.rects, notices := y.notices } t :=
        congrArg (fun x : State => withRackOf x t) h.frame
      _ = withRackOf { s with pins := y.pins, mbc := y.mbc, rects := y.rects } t := rfl
  · rw [h.bbus]
  · rw [hrects, k.capacity, h.params]
  · exact hpre.taken (k.taken (by rw [h.store]; exact hm) (hpre.trayLaw ht) (hpre.openLaw ho))

end RosterPrelude

theorem RectTold.prelude {r : RectId} {t : RectTelemetry} {inService : Bool} {s y : State} (h : RectTold r t inService s y) :
    RosterPrelude s y := by
  have hframe := h.frame
  refine ⟨?_, fun k hk => h.kinds.kinds k ?_⟩
  · have hrects : y.rects = s.rects.set r (toldRect t inService s.rects[r]) := (congrArg State.rects hframe).trans rfl
    have hpins : y.pins = s.pins := (congrArg State.pins hframe).trans rfl
    rw [hrects, hpins]
    exact hframe
  · revert hk
    cases k <;> decide

/-- Settles O37. -/
theorem rectifierReply : Obligations.RectifierReply := by
  intro s p r b0 b1 b2 b3 b4 b5 b6 b7 hfree hp hslot
  have hexec := exec_rectReply (payload := [b0, b1, b2, b3, b4, b5, b6, b7]) hfree hp hslot rfl
  have htold := rectTold_outcome r (rectTelemetryOf [b0, b1, b2, b3, b4, b5, b6, b7]) p.inService s
  have hturn := rosterTurn (slotHeard (rectSlotNo r) (nextPoll s)) s
    (rectTold r (rectTelemetryOf [b0, b1, b2, b3, b4, b5, b6, b7]) p.inService (slotHeard (rectSlotNo r) (nextPoll s)))
  have husable := toldRect_usable s.rects[r] p.inService b0 b1 b2 b3 b4 b5 b6 b7
  have hnews := rectFaultNews_iff s.rects[r] (rectTelemetryOf [b0, b1, b2, b3, b4, b5, b6, b7]) p.inService
  have hbytes := rectTelemetryOf_bytes b0 b1 b2 b3 b4 b5 b6 b7
  have hstate := rectStateOf_bytes b0 b1 b2 b3 b4 b5 b6 b7 p.inService
  have hfault : (rectTelemetryOf [b0, b1, b2, b3, b4, b5, b6, b7]).fault = rectFaultOf b7.toNat := by rw [hbytes]
  have hcode := rectFaultCode_faultOf b7.toNat
  have hnone := rectFault_none_iff b7
  generalize rectTelemetryOf [b0, b1, b2, b3, b4, b5, b6, b7] = x at *
  generalize rectTold r x p.inService (slotHeard (rectSlotNo r) (nextPoll s)) = y at *
  generalize afterRoster s (rosterRecompute (slotHeard (rectSlotNo r) (nextPoll s)) y) = t at *
  obtain ⟨hframe, hmbc, hrects, hgrants, hcap, htaken⟩ := htold.prelude.turn hturn
  have hyrects : y.rects = s.rects.set r (toldRect x p.inService s.rects[r]) := (congrArg State.rects htold.frame).trans rfl
  have hypins : y.pins = s.pins := (congrArg State.pins htold.frame).trans rfl
  have hrecords := hturn.paced.notes.records
  rw [hfault, ne_eq, hnone] at hnews
  refine ⟨t, hexec, ?_, hgrants, ?_, ?_, ?_, ?_, ?_, hcap, fun ha => (htold.back ha).then_more hrecords, fun hb hnew => ?_, fun hno => ?_,
    htaken⟩
  · rw [hmbc, hrects]
    rw [hypins] at hframe
    exact hframe
  · rw [hmbc]
    exact htold.slots
  · rw [hmbc]
    exact htold.schedule
  · rw [hmbc]
    exact htold.poll
  · rw [hrects, hyrects, toldRect, hstate, hbytes]
  · have hget : t.rects[r] = toldRect x p.inService s.rects[r] := by
      rw [hrects, hyrects]
      exact (vector_set_get _ _ _ _).trans (if_pos rfl)
    rw [hget]
    exact husable
  · have hin := htold.fault (hnews.mpr ⟨hb, hnew⟩)
    rw [hfault, hcode] at hin
    exact hin.more hrecords
  · refine (hturn.paced.notes.kinds _ rfl).trans (htold.noFault (Bool.eq_false_iff.mpr fun hn => ?_))
    obtain ⟨hb, hnew⟩ := hnews.mp hn
    rcases hno with h0 | ⟨hf, ht⟩
    · exact hb h0
    · exact hnew.elim (fun h => h hf) fun h => h ht

end Sys2Proof.Machine
end

section
/-! PROOFS. A battery slot whose state changes without telemetry (R56, R58, R66, R156). -/
namespace Sys2Proof.Machine

/-! ### An empty slot keeps its grant of 0 -/

/-- The unit is EMPTY with a grant of 0. -/
abbrev EmptySlot (b : BbuId) (s : State) : Prop := s.bbus[b].state = .empty ∧ s.bbus[b].grant = 0

theorem EmptySlot.congr {b : BbuId} {s t : State} (h : EmptySlot b s) (ht : t.bbus = s.bbus) : EmptySlot b t := by
  rw [EmptySlot, ht]
  exact h

theorem grantEligible_empty {b : BbuId} {s : State} (h : s.bbus[b].state = .empty) : grantEligible s b = false :=
  Bool.eq_false_iff.mpr fun he => BbuState.noConfusion (((grantEligible_iff s b).mp he).1.symm.trans h)

theorem recomputeGrants_emptySlot {b : BbuId} {s : State} (h : s.bbus[b].state = .empty) : EmptySlot b (recomputeGrants s) := by
  have hget := recomputeGrants_ineligible (b := b) (s := s) (grantEligible_empty h)
  exact ⟨(congrArg Bbu.state hget).trans h, (congrArg Bbu.grant hget).trans rfl⟩

theorem RackMove.emptySlot {b : BbuId} {s t : State} (h : RackMove s t) (hs : EmptySlot b s) : EmptySlot b t := by
  induction h with
  | refl s => exact hs
  | trans _ _ h k => exact k (h hs)
  | note k x v s => exact hs.congr (post_bbus _ _ _ _)
  | grants s => exact recomputeGrants_emptySlot hs.1
  | deficit a u s => exact hs
  | run r s => exact hs
  | tray i t s => exact hs
  | start i s => exact hs

theorem afterRoster_emptySlot {b : BbuId} (s0 : State) {s : State} (h : EmptySlot b s) : EmptySlot b (afterRoster s0 s) := by
  unfold afterRoster autoStartTest
  repeat' split
  · rw [createUp_eq]
    have hnew : EmptySlot b (newUp .all s) := h
    exact (evalStart_move _).emptySlot (hnew.congr (joinAll_bbus _ _))
  · exact h
  · exact h

/-! ### The test hears of a state -/

/-- What the test sequencer does when it hears of a unit's state. -/
structure TestHeard (b : BbuId) (s t : State) : Prop where
  move : TestMove b s t
  unit : SameUnit b s t
  after : Aftermath s t
  empty : EmptySlot b s → EmptySlot b t

theorem TestHeard.refl (b : BbuId) (s : State) : TestHeard b s s := ⟨.refl b s, rfl, .refl s, id⟩

/-- Neither R nor T_est reads a grant or a test power. -/
theorem reserve_congr {s t : State} (hp : t.params = s.params)
    (h : ∀ c : BbuId, ({ t.bbus[c] with grant := 0, testPower := 0 } : Bbu) = { s.bbus[c] with grant := 0, testPower := 0 }) :
    t.reserve = s.reserve ∧ t.tEst = s.tEst := by
  have husable : t.usable = s.usable := funext fun c => by
    have hc := congrArg (Bbu.usable s.params.floorFraction) (h c)
    rw [State.usable, State.usable, hp]
    exact hc
  have hreserve : t.reserve = s.reserve := by rw [State.reserve, State.reserve, husable]
  have hdelivered : ∀ c : BbuId, t.bbus[c].delivered = s.bbus[c].delivered := fun c => by
    have hc := congrArg Bbu.delivered (h c)
    exact hc
  have hload : t.lDis = s.lDis := congrArg List.sum (List.map_congr_left fun c _ => hdelivered c)
  exact ⟨hreserve, by rw [State.tEst, State.tEst, hreserve, hload]⟩

theorem abortTest_heard {why : AbortReason} {b : BbuId} {s : State} (ha : s.testActive = true) (hb : s.test.target = some b) :
    TestHeard b s (abortTest why s) := by
  have hmove := TestMove.abort (why := why) ha hb
  obtain ⟨-, -, hunits, -⟩ := abortTest_outcome (why := why) ha hb
  have hempty : EmptySlot b s → EmptySlot b (abortTest why s) := fun h => by
    have hended : EmptySlot b (withTestEnded why b s) := by
      have hget : (withTestEnded why b s).bbus[b] = { s.bbus[b] with testPower := 0 } := (vector_set_get _ _ _ _).trans (if_pos rfl)
      rw [EmptySlot, hget]
      exact h
    rw [abortTest_active ha hb]
    split
    · exact (recomputeGrants_emptySlot hended.1).congr (post_bbus _ _ _ _)
    · exact hended.congr (post_bbus _ _ _ _)
  generalize abortTest why s = t at *
  have hframe := hmove.frame
  have hsame : ∀ c : BbuId, ({ t.bbus[c] with grant := 0, testPower := 0 } : Bbu) = { s.bbus[c] with grant := 0, testPower := 0 } :=
    fun c => congrArg (fun u : Bbu => { u with testPower := 0 }) (hunits c)
  obtain ⟨hreserve, hest⟩ := reserve_congr (s := s) (t := t) ((congrArg State.params hframe).trans rfl) hsame
  exact ⟨hmove, hsame b, ⟨(congrArg State.ilc hframe).trans rfl, fun _ => (congrArg State.trays hframe).trans rfl, hmove.kinds.records,
    hmove.kinds.kinds _ rfl, hreserve, hest⟩, hempty⟩

theorem testHearsState_heard (b : BbuId) (s : State) : TestHeard b s (testHearsState b s) := by
  unfold testHearsState
  split
  · next h =>
    obtain ⟨ha, hb⟩ := (isTarget_iff s b).mp (Bool.and_eq_true_iff.mp h).1
    exact abortTest_heard ha hb
  · exact .refl b s

/-! ### The change -/

/-- The kinds that a change of a battery slot's state can post. -/
def stateKind (k : NoticeKind) : Bool := reserveKind k || testKind k

/-- What the report of a state to budget, sequencer and test leaves alone. -/
structure StateTold (b : BbuId) (s t : State) : Prop where
  frame : t = withRackOf { s with test := t.test } t
  others : ∀ c : BbuId, c ≠ b → { t.bbus[c] with grant := 0 } = { s.bbus[c] with grant := 0 }
  unit : SameUnit b s t
  kinds : OnlyKinds stateKind s t
  after : Aftermath s t

namespace StateTold
variable {b : BbuId} {s t u : State}

theorem trans (h : StateTold b s t) (k : StateTold b t u) : StateTold b s u where
  frame := by
    calc u = withRackOf { t with test := u.test } u := k.frame
      _ = withRackOf { withRackOf { s with test := t.test } t with test := u.test } u :=
        congrArg (fun x : State => withRackOf { x with test := u.test } u) h.frame
      _ = withRackOf { s with test := u.test } u := rfl
  others := fun c hc => (k.others c hc).trans (h.others c hc)
  unit := k.unit.trans h.unit
  kinds := h.kinds.trans k.kinds
  after := h.after.trans k.after

theorem refl (b : BbuId) (s : State) : StateTold b s s := ⟨rfl, fun _ _ => rfl, rfl, .refl s, .refl s⟩

theorem of_reported (h : Reported b s t) : StateTold b s t where
  frame := by
    rw [h.only.test]
    exact h.only.1
  others := fun c _ => h.only.2 c
  unit := .of_grants h.only.2
  kinds := h.notes.reserve.mono fun _ hk => (Bool.or_eq_false_iff.mp hk).1
  after := h.aftermath

theorem of_heard (h : TestHeard b s t) : StateTold b s t where
  frame := by
    have hframe := h.move.frame
    generalize t.test = r at hframe ⊢
    generalize t.bbus = v at hframe
    generalize t.notices = n at hframe
    subst hframe
    rfl
  others := h.move.others
  unit := h.unit
  kinds := h.move.kinds.mono fun _ hk => (Bool.or_eq_false_iff.mp hk).2
  after := h.after

end StateTold

theorem reportBbuState_told (b : BbuId) (s : State) :
    StateTold b s (reportBbuState b s) ∧ (s.bbus[b].state = .empty → EmptySlot b (reportBbuState b s)) := by
  have hbudget := budgetTold_reported b s
  have hempty : s.bbus[b].state = .empty → EmptySlot b (budgetTold s) := fun h => by
    have hre : EmptySlot b (refloored s) := recomputeGrants_emptySlot (s := recomputeFloor s) h
    unfold budgetTold
    split
    · exact (tell_move _).emptySlot hre
    · exact hre
  have hheard := testHearsState_heard b (budgetTold s)
  rw [reportBbuState_eq]
  generalize budgetTold s = y at *
  exact ⟨(StateTold.of_reported hbudget).trans (.of_heard hheard), fun h => hheard.empty (hempty h)⟩

/-- What a change of a battery slot's state comes to. -/
structure BbuChanged (b : BbuId) (u : Bbu) (s t : State) : Prop where
  frame : t = withRackOf { s with ilc := t.ilc, test := t.test } t
  others : ∀ c : BbuId, c ≠ b → { t.bbus[c] with grant := 0 } = { s.bbus[c] with grant := 0 }
  unit : ({ t.bbus[b] with grant := 0, testPower := 0 } : Bbu) = { u with grant := 0, testPower := 0 }
  kinds : OnlyKinds stateKind s t
  after : Aftermath (tEstArrival (putBbu b u s)) t
  empty : u.state = .empty → s.bbus[b].state ≠ .empty → EmptySlot b t

theorem bbuStateChange_changed (b : BbuId) (u : Bbu) (s : State) : BbuChanged b u s (bbuStateChange b u s) := by
  have hshelf := reserveChanged_shelf (putBbu b u s)
  have hkinds := reserveChanged_kinds (putBbu b u s)
  have hafter := reserveChanged_aftermath (putBbu b u s)
  have hput : ∀ c : BbuId, (putBbu b u s).bbus[c] = if b = c then u else s.bbus[c] := fun c => putBbu_get _ _ _ _
  have hframe : reserveChanged (putBbu b u s) = withRackOf { s with ilc := (reserveChanged (putBbu b u s)).ilc } (reserveChanged (putBbu b u s)) :=
    hshelf.1
  have hnotices : OnlyKinds stateKind s (reserveChanged (putBbu b u s)) :=
    OnlyKinds.trans (t := putBbu b u s) (.of_eq rfl) (hkinds.mono fun _ hk => (Bool.or_eq_false_iff.mp hk).1)
  unfold bbuStateChange
  dsimp only
  generalize reserveChanged (putBbu b u s) = y at *
  have hown : { y.bbus[b] with grant := 0 } = { u with grant := 0 } := (hshelf.2 b).trans (by rw [hput, if_pos rfl])
  have hothers : ∀ c : BbuId, c ≠ b → { y.bbus[c] with grant := 0 } = { s.bbus[c] with grant := 0 } := fun c hc =>
    (hshelf.2 c).trans (by rw [hput, if_neg fun e => hc e.symm])
  have hunit : ({ y.bbus[b] with grant := 0, testPower := 0 } : Bbu) = { u with grant := 0, testPower := 0 } :=
    congrArg (fun v : Bbu => { v with testPower := 0 }) hown
  have hstate : y.bbus[b].state = u.state := by
    have h := congrArg Bbu.state hown
    exact h
  by_cases hs : u.state = s.bbus[b].state
  · rw [if_pos hs]
    have htest : y.test = s.test := (congrArg State.test hframe).trans rfl
    refine ⟨?_, hothers, hunit, hnotices, hafter, fun he hne => absurd (hs.symm.trans he) hne⟩
    rw [htest]
    exact hframe
  · rw [if_neg hs]
    obtain ⟨htold, hempty⟩ := reportBbuState_told b y
    generalize reportBbuState b y = t at *
    have hilc : t.ilc = y.ilc := htold.after.ilc
    refine ⟨?_, fun c hc => (htold.others c hc).trans (hothers c hc), htold.unit.trans hunit, hnotices.trans htold.kinds,
      hafter.trans htold.after, fun he _ => hempty (hstate.trans he)⟩
    rw [hilc]
    calc t = withRackOf { y with test := t.test } t := htold.frame
      _ = withRackOf { withRackOf { s with ilc := y.ilc } y with test := t.test } t :=
        congrArg (fun x : State => withRackOf { x with test := t.test } t) hframe
      _ = withRackOf { s with ilc := y.ilc, test := t.test } t := rfl

theorem BbuChanged.afterRoster {b : BbuId} {u : Bbu} {s t : State} (h : BbuChanged b u s t) (s0 : State) :
    BbuChanged b u s (Machine.afterRoster s0 t) := by
  have hreported := afterRoster_reported b s0 t
  have hempty : EmptySlot b t → EmptySlot b (Machine.afterRoster s0 t) := afterRoster_emptySlot s0
  generalize Machine.afterRoster s0 t = v at *
  have htold := StateTold.of_reported hreported
  refine ⟨?_, fun c hc => (htold.others c hc).trans (h.others c hc), htold.unit.trans h.unit, h.kinds.trans htold.kinds, h.after.trans htold.after,
    fun he hne => hempty (h.empty he hne)⟩
  rw [hreported.only.ilc, hreported.only.test]
  calc v = withRackOf t v := hreported.only.1
    _ = withRackOf (withRackOf { s with ilc := t.ilc, test := t.test } t) v := congrArg (fun x : State => withRackOf x v) h.frame
    _ = withRackOf { s with ilc := t.ilc, test := t.test } v := rfl

end Sys2Proof.Machine
end

section
/-! PROOFS. A module slot's presence: the obligation (R32, R43, R56). -/
namespace Sys2Proof.Machine

/-! ### The owners -/

theorem slot_cases (k : SlotId) : (∃ r, k = rectSlotNo r) ∨ ∃ b, k = bbuSlotNo b := by
  revert k
  decide

theorem rectSlotNo_inj {r q : RectId} (h : rectSlotNo r = rectSlotNo q) : r = q := by
  have hval := congrArg Fin.val h
  exact Fin.ext hval

theorem bbuSlotNo_inj {b c : BbuId} (h : bbuSlotNo b = bbuSlotNo c) : b = c := Fin.ext (Nat.add_right_cancel (Fin.val_eq_of_eq h))

theorem rectSlotNo_ne_bbuSlotNo (r : RectId) (b : BbuId) : rectSlotNo r ≠ bbuSlotNo b := by
  revert r b
  decide

/-! ### What comes before the owner's turn -/

/-- The kinds that the bus posts itself. -/
def busKind (k : NoticeKind) : Bool := k == .moduleBack || k == .moduleSilent

/-- Before a slot's owner hears of it a command has reached the pins, the bus and the notice queue. -/
structure BusPrelude (s x : State) : Prop where
  frame : x = { s with pins := x.pins, mbc := x.mbc, notices := x.notices }
  kinds : OnlyKinds busKind s x

namespace BusPrelude
variable {s x : State} (h : BusPrelude s x)
include h

theorem rects : x.rects = s.rects := (congrArg State.rects h.frame).trans rfl

theorem bbus : x.bbus = s.bbus := (congrArg State.bbus h.frame).trans rfl

theorem time : x.time = s.time := (congrArg State.time h.frame).trans rfl

/-- A rectifier slot's record is written. -/
theorem rect (r : RectId) (v : RectSlot) : RosterPrelude s (putRect r v x) := by
  refine ⟨?_, fun k hk => h.kinds.kinds k ?_⟩
  · calc putRect r v x = { x with rects := x.rects.set r v } := rfl
      _ = { s with pins := x.pins, mbc := x.mbc, rects := x.rects.set r v, notices := x.notices } :=
        congrArg (fun z : State => { z with rects := x.rects.set r v }) h.frame
  · revert hk
    cases k <;> decide

/-- A battery slot's record is written. -/
theorem bbu (b : BbuId) (u : Bbu) : Prelude s (putBbu b u x) where
  trays := (congrArg State.trays h.frame).trans rfl
  run := (congrArg State.run h.frame).trans rfl
  ilc := (congrArg State.ilc h.frame).trans rfl
  params := (congrArg State.params h.frame).trans rfl
  time := h.time
  records := h.kinds.records
  stages := h.kinds.kinds _ rfl

theorem changed {b : BbuId} {u : Bbu} {t : State} (k : BbuChanged b u x t) :
    t = withRackOf { s with pins := x.pins, mbc := x.mbc, ilc := t.ilc, test := t.test } t := by
  calc t = withRackOf { x with ilc := t.ilc, test := t.test } t := k.frame
    _ = withRackOf { { s with pins := x.pins, mbc := x.mbc, notices := x.notices } with ilc := t.ilc, test := t.test } t :=
      congrArg (fun z : State => withRackOf { z with ilc := t.ilc, test := t.test } t) h.frame
    _ = withRackOf { s with pins := x.pins, mbc := x.mbc, ilc := t.ilc, test := t.test } t := rfl

theorem reserveTaken {b : BbuId} {u : Bbu} {t : State} (k : BbuChanged b u x t) (hs : ShelfLaw s) (ho : OpenLaw s) : ReserveTaken s t :=
  reserveTaken_of (h.bbu b u) k.after hs ho

end BusPrelude

/-! ### What comes of a command for one slot -/

/-- What the owner's turn leaves alone. -/
structure OwnerFrame (s x t : State) : Prop where
  frame : t = withRackOf { s with pins := x.pins, mbc := x.mbc, rects := t.rects, ilc := t.ilc, test := t.test } t
  mbc : t.mbc = x.mbc
  records : x.notices.records <+: t.notices.records

/-- What the owner's turn makes of a slot's new state, by the slot's kind. -/
structure OwnerTurn (k : SlotId) (v : RectSlot → RectSlot) (u : Bbu → Bbu) (s x t : State) : Prop extends OwnerFrame s x t where
  rect : ∀ r : RectId, k = rectSlotNo r →
    t.rects = s.rects.set r (v s.rects[r]) ∧ t.budget.c = capacityOf s.params.policy t.rects ∧
      (TrayLaw s → OpenLaw s → s.store.autoPending = false → CapacityTaken s t)
  bbu : ∀ b : BbuId, k = bbuSlotNo b → BbuChanged b (u s.bbus[b]) x t
  reserve : ∀ b : BbuId, k = bbuSlotNo b → ShelfLaw s → OpenLaw s → ReserveTaken s t

theorem OwnerTurn.of_rect {s x t : State} {r : RectId} {v : RectSlot → RectSlot} {u : Bbu → Bbu} (h : BusPrelude s x)
    (hturn : RosterTurn (putRect r (v x.rects[r]) x) t) : OwnerTurn (rectSlotNo r) v u s x t := by
  obtain ⟨hframe, hmbc, hrects, -, hcap, htaken⟩ := (h.rect r (v x.rects[r])).turn hturn
  rw [h.rects] at hrects
  have hilc : t.ilc = s.ilc := (congrArg State.ilc hframe).trans rfl
  have htest : t.test = s.test := (congrArg State.test hframe).trans rfl
  have hset : (putRect r (v s.rects[r]) x).rects = s.rects.set r (v s.rects[r]) := by
    rw [← h.rects]
    rfl
  refine ⟨⟨?_, hmbc, hturn.paced.notes.records⟩, fun q hq => ?_, fun b hb => absurd hb (rectSlotNo_ne_bbuSlotNo r b), fun b hb => absurd hb (rectSlotNo_ne_bbuSlotNo r b)⟩
  · rw [hilc, htest, hrects]
    rw [h.rects] at hframe
    exact hframe
  · rw [← rectSlotNo_inj hq]
    exact ⟨hrects.trans hset, hcap, htaken⟩

theorem OwnerTurn.of_bbu {s x t : State} {b : BbuId} {v : RectSlot → RectSlot} {u : Bbu → Bbu} (h : BusPrelude s x)
    (hchanged : BbuChanged b (u x.bbus[b]) x t) : OwnerTurn (bbuSlotNo b) v u s x t := by
  have hframe := h.changed hchanged
  have hrects : t.rects = s.rects := (congrArg State.rects hframe).trans rfl
  refine ⟨⟨?_, (congrArg State.mbc hframe).trans rfl, hchanged.kinds.records⟩, fun r hr => absurd hr.symm (rectSlotNo_ne_bbuSlotNo r b), fun c hc => ?_,
    fun c _ => h.reserveTaken hchanged⟩
  · rw [hrects]
    exact hframe
  · rw [← bbuSlotNo_inj hc, ← h.bbus]
    exact hchanged

/-! ### The release -/

/-- The bus record of a slot whose presence is released or asserted (R32). -/
def freshSlot (present : Bool) : ModuleSlot := { present := present, missCount := 0, announced := false }

/-- The part with the slot out of the schedule (R32). -/
def unscheduled (k : SlotId) (s : State) : State :=
  putSlot k (freshSlot false) (setBus { s.mbc with schedule := s.mbc.schedule.filter fun j => j != k } s)

/-- The part with the slot's poll ended (R32). -/
def unpolled (k : SlotId) (s : State) : State :=
  if s.mbc.poll.map Poll.slot = some k then nextPoll (unscheduled k s) else unscheduled k s

theorem moduleReleased_eq (k : SlotId) (s : State) : moduleReleased k s = afterRoster s (ownerEmptied k (unpolled k s)) := by
  have hpoll : (match s.mbc.poll with
      | some p => if p.slot = k then nextPoll (unscheduled k s) else unscheduled k s
      | none => unscheduled k s) = unpolled k s := by
    unfold unpolled
    cases s.mbc.poll with
    | none => rfl
    | some p => simp only [Option.map_some, Option.some.injEq]
  rw [← hpoll]
  rfl

/-- What the release of a slot makes of the bus. -/
structure Unpolled (k : SlotId) (s x : State) : Prop where
  frame : x = { s with mbc := x.mbc }
  slots : x.mbc.slots = s.mbc.slots.set k (freshSlot false)
  other : s.mbc.poll.map Poll.slot ≠ some k → x.mbc.poll = s.mbc.poll ∧ x.mbc.schedule = s.mbc.schedule.filter fun j => j != k
  own : s.mbc.poll.map Poll.slot = some k → x.mbc.poll.map Poll.slot = (s.mbc.schedule.filter fun j => j != k).head?

theorem unpolled_outcome (k : SlotId) (s : State) : Unpolled k s (unpolled k s) := by
  unfold unpolled
  by_cases h : s.mbc.poll.map Poll.slot = some k
  · rw [if_pos h]
    refine ⟨?_, nextPoll_slots _, fun hne => absurd h hne, fun _ => (nextPoll_poll _).1⟩
    have hnext := nextPoll_mbc (unscheduled k s)
    generalize nextPoll (unscheduled k s) = x at *
    exact hnext
  · rw [if_neg h]
    exact ⟨rfl, rfl, fun _ => ⟨rfl, rfl⟩, fun hk => absurd hk h⟩

/-- The record of an empty rectifier slot (R43). -/
def emptyRect (x : RectSlot) : RectSlot := { x with state := .empty, telemetry := none }

/-- The record of an empty battery slot (R56). -/
def emptyBbu (u : Bbu) : Bbu :=
  { u with state := .empty, telemetry := none, seeded := false, stored := 0, lastArrival := none, grant := 0 }

theorem ownerEmptied_turn (k : SlotId) (s0 : State) {s x : State} (h : BusPrelude s x) :
    OwnerTurn k emptyRect emptyBbu s x (afterRoster s0 (ownerEmptied k x)) := by
  rcases slot_cases k with ⟨r, rfl⟩ | ⟨b, rfl⟩
  · have hown : ownerEmptied (rectSlotNo r) x = rosterRecompute x (putRect r (emptyRect x.rects[r]) x) := by
      rw [ownerEmptied, slotOwner_rectSlotNo]
      rfl
    rw [hown]
    exact .of_rect h (rosterTurn x s0 _)
  · have hown : ownerEmptied (bbuSlotNo b) x = bbuStateChange b (emptyBbu x.bbus[b]) x := by
      rw [ownerEmptied, slotOwner_bbuSlotNo]
      rfl
    rw [hown]
    exact .of_bbu h ((bbuStateChange_changed b _ x).afterRoster s0)

/-! ### The assertion -/

/-- The record of a rectifier slot just fitted (R43). -/
def fittedRect (x : RectSlot) : RectSlot := { x with state := .silent, telemetry := none }

/-- The record of a battery slot just fitted (R56). -/
def fittedBbu (u : Bbu) : Bbu := { u with state := .silent, telemetry := none, seeded := false }

theorem ownerFitted_turn (k : SlotId) {s x : State} (h : BusPrelude s x) : OwnerTurn k fittedRect fittedBbu s x (ownerFitted k x) := by
  rcases slot_cases k with ⟨r, rfl⟩ | ⟨b, rfl⟩
  · have hturn := rosterTurn x x (putRect r (fittedRect x.rects[r]) x)
    have hsame : afterRoster x (rosterRecompute x (putRect r (fittedRect x.rects[r]) x)) = rosterRecompute x (putRect r (fittedRect x.rects[r]) x) := by
      refine afterRoster_id fun hr => ?_
      rw [(rosterRecompute_paced x _).only.mbc] at hr
      exact hr
    have hown : ownerFitted (rectSlotNo r) x = rosterRecompute x (putRect r (fittedRect x.rects[r]) x) := by
      rw [ownerFitted, slotOwner_rectSlotNo]
      rfl
    rw [hsame] at hturn
    rw [hown]
    exact .of_rect h hturn
  · have hown : ownerFitted (bbuSlotNo b) x = bbuStateChange b (fittedBbu x.bbus[b]) x := by
      rw [ownerFitted, slotOwner_bbuSlotNo]
      rfl
    rw [hown]
    exact .of_bbu h (bbuStateChange_changed b _ x)

/-! ### The obligation -/

theorem emptied_unit {b : BbuId} {u : Bbu} {s t : State} (h : BbuChanged b (emptyBbu u) s t) (hs : s.bbus[b].state ≠ .empty) :
    ({ t.bbus[b] with testPower := 0 } : Bbu) = { emptyBbu u with testPower := 0 } := by
  have hgrant := (h.empty rfl hs).2
  calc ({ t.bbus[b] with testPower := 0 } : Bbu) = { t.bbus[b] with grant := 0, testPower := 0 } := by rw [← hgrant]
    _ = { emptyBbu u with grant := 0, testPower := 0 } := h.unit
    _ = { emptyBbu u with testPower := 0 } := rfl

/-- Settles O41. -/
theorem modulePresence : Obligations.ModulePresence := by
  intro s k r b hfree
  refine ⟨?_, fun hp => ?_, fun hp => ?_⟩
  · have hexec : exec (.modulePresenceReleased k) s =
        .next (afterRoster (setModulePin k false s) (ownerEmptied k (unpolled k (setModulePin k false s)))) :=
      (awake_free (moduleReleased k) (s := setModulePin k false s) hfree).trans (congrArg _ (moduleReleased_eq k _))
    have hbus := unpolled_outcome k (setModulePin k false s)
    generalize unpolled k (setModulePin k false s) = x at *
    have hpre : BusPrelude s x := by
      have hframe := hbus.frame
      have hnotices : x.notices = s.notices := (congrArg State.notices hframe).trans rfl
      have hpins : x.pins = (setModulePin k false s).pins := (congrArg State.pins hframe).trans rfl
      refine ⟨?_, .of_eq hnotices⟩
      rw [hnotices, hpins]
      exact hframe
    have hturn := ownerEmptied_turn k (setModulePin k false s) hpre
    generalize afterRoster (setModulePin k false s) (ownerEmptied k x) = t at *
    have hpins : x.pins = { s.pins with modulePresent := s.pins.modulePresent.set k false } := (congrArg State.pins hbus.frame).trans rfl
    refine ⟨t, hexec, ?_, ?_, fun hne => ?_, fun he => ?_, fun hk => ?_, fun hk hne => ⟨?_, hturn.reserve b hk⟩⟩
    · rw [← hpins, hturn.mbc]
      exact hturn.frame
    · rw [hturn.mbc]
      exact hbus.slots
    · rw [hturn.mbc]
      exact hbus.other hne
    · rw [hturn.mbc]
      exact hbus.own he
    · exact hturn.rect r hk
    · refine emptied_unit (hturn.bbu b hk) ?_
      rw [hpre.bbus]
      exact hne
  · have hexec : exec (.modulePresenceAsserted k) s = .next (ownerFitted k (putSlot k (freshSlot true) (setModulePin k true s))) :=
      (awake_free (moduleAsserted k) (s := setModulePin k true s) hfree).trans
        (congrArg _ (if_neg (by rw [show (setModulePin k true s).mbc = s.mbc from rfl, hp]; exact Bool.false_ne_true)))
    have hpre : BusPrelude s (putSlot k (freshSlot true) (setModulePin k true s)) := ⟨rfl, .of_eq rfl⟩
    have hturn := ownerFitted_turn k hpre
    generalize ownerFitted k (putSlot k (freshSlot true) (setModulePin k true s)) = t at *
    exact ⟨t, hexec, hturn.frame, fun hk => (hturn.rect r hk).1, fun hk _ => (hturn.bbu b hk).unit⟩
  · exact (awake_free (moduleAsserted k) (s := setModulePin k true s) hfree).trans
      (congrArg _ (if_pos hp))

end Sys2Proof.Machine
end

section
/-! PROOFS. The bytes of a reply on the module bus (R35, R36, R161; assumption log 4). -/
namespace Sys2Proof.Machine

/-! ### The framer leaves no trace when its poll ends -/

theorem nextPoll_setFramer (f : BusFramer) (s : State) : nextPoll (setFramer f s) = nextPoll s := by
  have hschedule : (setFramer f s).mbc.schedule = s.mbc.schedule := rfl
  unfold nextPoll
  rw [hschedule]
  cases s.mbc.schedule with
  | nil => rfl
  | cons k rest => rfl

theorem pollMissed_none {s : State} (h : s.mbc.poll = none) : pollMissed s = s := by rw [pollMissed, h]

theorem pollMissed_some {s : State} {p : Poll} (h : s.mbc.poll = some p) : pollMissed s = afterRoster s (slotMisses p.slot (nextPoll s)) := by
  rw [pollMissed, h]

theorem frameTaken_none {s : State} (h : s.mbc.poll = none) (station kind tag : Byte) (payload : List Byte) (check : BitVec 16) :
    frameTaken station kind tag payload check s = s := by
  rw [frameTaken, h]

theorem frameTaken_some {s : State} {p : Poll} (h : s.mbc.poll = some p) (station kind tag : Byte) (payload : List Byte) (check : BitVec 16) :
    frameTaken station kind tag payload check s =
      if validReply p station kind tag payload check then afterRoster s (slotAnswers p.slot payload p.inService (nextPoll s))
      else pollMissed s := by
  rw [frameTaken, h]

section
variable {s : State} (h : s.mbc.poll ≠ none)
include h

theorem pollMissed_setFramer (f : BusFramer) : pollMissed (setFramer f s) = pollMissed s := by
  obtain ⟨p, hp⟩ := Option.ne_none_iff_exists'.mp h
  rw [pollMissed_some hp, pollMissed_some (s := setFramer f s) hp, nextPoll_setFramer]
  rfl

theorem frameTaken_setFramer (f : BusFramer) (station kind tag : Byte) (payload : List Byte) (check : BitVec 16) :
    frameTaken station kind tag payload check (setFramer f s) = frameTaken station kind tag payload check s := by
  obtain ⟨p, hp⟩ := Option.ne_none_iff_exists'.mp h
  rw [frameTaken_some hp, frameTaken_some (s := setFramer f s) hp, nextPoll_setFramer, pollMissed_setFramer h]
  rfl

/-! ### One event -/

theorem busEvent_byte (b : Byte) : busEvent (.byte b) s = busByte b s := if_pos (Option.isSome_iff_ne_none.mpr h)

/-- A byte while the framer has got so far. -/
theorem busEvent_framed (f : BusFramer) (b : Byte) : busEvent (.byte b) (setFramer f s) = busByte b (setFramer f s) := by
  have hpoll : (setFramer f s).mbc.poll ≠ none := h
  exact busEvent_byte hpoll b

theorem busEvent_broken {e : BusEvent} (he : e = .gap ∨ ∃ why, e = .byteError why) : busEvent e s = busBroken s := by
  have hsome : s.mbc.poll.isSome = true := Option.isSome_iff_ne_none.mpr h
  rcases he with rfl | ⟨why, rfl⟩
  · exact if_pos hsome
  · exact if_pos hsome

end

theorem busBroken_begun {s : State} (hf : s.mbc.framer ≠ .hunt) : busBroken s = pollMissed s := by
  unfold busBroken
  split
  · next he => exact absurd he hf
  · rfl
  · rfl

theorem busEvent_noPoll {s : State} (h : s.mbc.poll = none) (e : BusEvent) : busEvent e s = s := by
  exact if_neg (by rw [h]; exact Bool.false_ne_true)

theorem busHears_noPoll {s : State} (h : s.mbc.poll = none) (l : List BusEvent) : busHears l s = s := by
  induction l with
  | nil => rfl
  | cons e l ih =>
    rw [busHears, List.foldl_cons, busEvent_noPoll h e]
    exact ih

/-- A byte error or a gap before a frame does nothing (R35). -/
theorem busEvent_hunt {s : State} (hf : s.mbc.framer = .hunt) {e : BusEvent} (he : e = .gap ∨ ∃ why, e = .byteError why) : busEvent e s = s := by
  by_cases h : s.mbc.poll = none
  · exact busEvent_noPoll h e
  · rw [busEvent_broken h he, busBroken, hf]

/-- A wrong header drops the frame (R35). -/
theorem busByte_wrongHeader {s : State} {station kind tag length b0 : Byte} (hf : s.mbc.framer = .header [station, kind, tag, length])
    (hwrong : crc8 [station, kind, tag, length] ≠ b0 ∨ 248 < length.toNat) : busByte b0 s = pollMissed s := by
  have hbad : ¬ (crc8 [station, kind, tag, length] = b0 ∧ length.toNat ≤ Config.maxPayload) := fun ⟨hc, hl⟩ =>
    hwrong.elim (fun hne => hne hc) fun hlt => absurd hl (Nat.not_le.mpr hlt)
  rw [busByte, hf]
  exact if_neg hbad

/-! ### The bytes of a whole frame -/

theorem busHears_cons (e : BusEvent) (l : List BusEvent) (s : State) : busHears (e :: l) s = busHears l (busEvent e s) := rfl

section
variable {s : State} (h : s.mbc.poll ≠ none)
include h

theorem busHears_marker (hf : s.mbc.framer = .hunt) (l : List BusEvent) :
    busHears (.byte Config.marker :: l) s = busHears l (setFramer (.header []) s) := by
  rw [busHears_cons, busEvent_byte h, busByte, hf]
  rfl

theorem busHears_headerByte {bytes : List Byte} (hlen : bytes.length < 4) (b : Byte) (l : List BusEvent) :
    busHears (.byte b :: l) (setFramer (.header bytes) s) = busHears l (setFramer (.header (bytes ++ [b])) s) := by
  rw [busHears_cons, busEvent_framed h]
  exact congrArg (busHears l) (if_pos hlen)

theorem busHears_headerCheck {station kind tag length : Byte} (hlen : length.toNat ≤ 248) (l : List BusEvent) :
    busHears (.byte (crc8 [station, kind, tag, length]) :: l) (setFramer (.header [station, kind, tag, length]) s) =
      busHears l (if length = 0 then frameTaken station kind tag [] 0 s else setFramer (.body station kind tag length.toNat []) s) := by
  have hjudge : judgeBusHeader ([station, kind, tag, length] ++ [crc8 [station, kind, tag, length]])
      (setFramer (.header [station, kind, tag, length]) s) =
        if length = 0 then frameTaken station kind tag [] 0 s else setFramer (.body station kind tag length.toNat []) s := by
    rw [← frameTaken_setFramer h (.header [station, kind, tag, length])]
    exact if_pos ⟨rfl, hlen⟩
  rw [busHears_cons, busEvent_framed h, ← hjudge]
  rfl

/-- The rest of a body, its check included, completes the frame (R161). -/
theorem busHears_body {station kind tag : Byte} {length : Nat} (rest got : List Byte) (hlen : got.length + rest.length = length + 2)
    (hrest : rest ≠ []) :
    busHears (rest.map .byte) (setFramer (.body station kind tag length got) s) =
      frameTaken station kind tag ((got ++ rest).take length) (bodyCheck length (got ++ rest)) s := by
  induction rest generalizing got with
  | nil => exact absurd rfl hrest
  | cons b rest ih =>
    rw [List.length_cons] at hlen
    rw [List.map_cons, busHears_cons, busEvent_framed h]
    by_cases hlast : rest = []
    · subst hlast
      rw [List.length_nil] at hlen
      rw [← frameTaken_setFramer h (.body station kind tag length got)]
      exact if_neg (by rw [List.length_append, List.length_singleton]; omega)
    · have hpos : 0 < rest.length := List.length_pos_iff.mpr hlast
      have hmore := ih (got ++ [b]) (by rw [List.length_append, List.length_singleton]; omega) hlast
      rw [List.append_assoc, List.singleton_append] at hmore
      rw [← hmore]
      exact congrArg (busHears (rest.map .byte)) (if_pos (by rw [List.length_append, List.length_singleton]; omega))

/-- A frame without payload has no check (R160). -/
theorem frameTaken_empty (station kind tag : Byte) (c d : BitVec 16) : frameTaken station kind tag [] c s = frameTaken station kind tag [] d s := by
  obtain ⟨p, hp⟩ := Option.ne_none_iff_exists'.mp h
  rw [frameTaken_some hp, frameTaken_some hp]
  rfl

/-- The bytes of a whole frame do what the frame does (R35, R161). -/
theorem busHears_frame (hf : s.mbc.framer = .hunt) (station kind tag : Byte) {payload : List Byte} (hlen : payload.length ≤ 248) :
    busHears ((frameBytes station kind tag payload).map .byte) s = frameTaken station kind tag payload (crc16 payload) s := by
  have hlength : (BitVec.ofNat 8 payload.length).toNat = payload.length := by
    rw [BitVec.toNat_ofNat]
    omega
  have hhead : ∀ l : List BusEvent,
      busHears (.byte Config.marker :: .byte station :: .byte kind :: .byte tag :: .byte (BitVec.ofNat 8 payload.length) ::
        .byte (crc8 [station, kind, tag, BitVec.ofNat 8 payload.length]) :: l) s =
      busHears l (if BitVec.ofNat 8 payload.length = 0 then frameTaken station kind tag [] 0 s
        else setFramer (.body station kind tag payload.length []) s) := fun l => by
    rw [busHears_marker h hf, busHears_headerByte h (by simp), busHears_headerByte h (by simp), busHears_headerByte h (by simp),
      busHears_headerByte h (by simp)]
    refine (busHears_headerCheck h (by rw [hlength]; exact hlen) l).trans ?_
    rw [hlength]
  refine (hhead _).trans ?_
  cases payload with
  | nil => exact frameTaken_empty h station kind tag _ _
  | cons b rest =>
    have hne : BitVec.ofNat 8 (b :: rest).length ≠ 0 := fun e => by
      rw [e] at hlength
      cases hlength
    rw [if_neg hne]
    refine (busHears_body h ((b :: rest) ++ checkBytes (crc16 (b :: rest))) [] ?_ ?_).trans ?_
    · simp [checkBytes]
    · simp
    · have htake : ([] ++ ((b :: rest) ++ checkBytes (crc16 (b :: rest)))).take (b :: rest).length = b :: rest := by simp
      have hcheck : bodyCheck (b :: rest).length ([] ++ ((b :: rest) ++ checkBytes (crc16 (b :: rest)))) =
          crc16 (b :: rest) := (bodyCheck_append (b :: rest) _ _).trans (checkOf_checkBytes _)
      rw [htake, hcheck]

end

end Sys2Proof.Machine
end

section
/-! PROOFS. A poll that is missed: the obligation (R35 to R37; assumption log 4, 10). -/
namespace Sys2Proof.Machine

/-! ### The bus before the owner's turn -/

/-- The slot record after a miss (R37). -/
def missedSlot (x : ModuleSlot) : ModuleSlot :=
  { x with missCount := min 3 (x.missCount + 1), announced := if x.missCount = 2 then true else x.announced }

/-- The miss makes MODULE-SILENT known (R37; assumption log 10). -/
def announces (x : ModuleSlot) : Bool := x.missCount == 2 && !x.announced

/-- The bus as a slot's owner finds it after a miss of the slot (R37). -/
def missedBus (k : SlotId) (s : State) : State :=
  if announces s.mbc.slots[k] then post .moduleSilent (some k.val) none (putSlot k (missedSlot s.mbc.slots[k]) s)
  else putSlot k (missedSlot s.mbc.slots[k]) s

theorem putSlot_same (k : SlotId) (s : State) : putSlot k s.mbc.slots[k] s = s := by
  have hslots : s.mbc.slots.set k s.mbc.slots[k] = s.mbc.slots := Vector.set_getElem_self k.isLt
  rw [putSlot, hslots]
  rfl

/-- Only the third miss reaches the slot's owner (R37). -/
theorem slotMisses_eq {k : SlotId} {s : State} (hle : s.mbc.slots[k].missCount ≤ 3) :
    slotMisses k s = if s.mbc.slots[k].missCount = 2 then ownerSilenced k (missedBus k s) else missedBus k s := by
  unfold slotMisses missedBus announces
  generalize hx : s.mbc.slots[k] = x at *
  dsimp only
  by_cases h2 : x.missCount = 2
  · have hmissed : missedSlot x = { x with missCount := 3, announced := true } := by rw [missedSlot, h2]; rfl
    rw [if_neg (by rw [h2]; exact Nat.lt_irrefl 2), if_pos h2, if_pos h2, hmissed, h2]
    cases x.announced with
    | true => rfl
    | false => rfl
  · have hquiet : (x.missCount == 2 && !x.announced) = false := by rw [beq_eq_false_iff_ne.mpr h2, Bool.false_and]
    rw [if_neg h2, if_neg h2, hquiet, if_neg Bool.false_ne_true, missedSlot, if_neg h2]
    by_cases hlt : x.missCount < 2
    · rw [if_pos hlt, Nat.min_eq_right (by omega)]
    · have h3 : min 3 (x.missCount + 1) = x.missCount := by omega
      rw [if_neg hlt, h3, ← hx]
      exact (putSlot_same k s).symm

/-- What a miss makes of the bus. -/
structure MissedBus (k : SlotId) (s x : State) : Prop where
  prelude : BusPrelude s x
  pins : x.pins = s.pins
  slots : x.mbc.slots = s.mbc.slots.set k (missedSlot s.mbc.slots[k])
  schedule : x.mbc.schedule = s.mbc.schedule.tail
  poll : x.mbc.poll.map Poll.slot = s.mbc.schedule.head?
  silent : announces s.mbc.slots[k] = true →
    NoticeNext { kind := .moduleSilent, subject := some k.val, value := none, time := s.time } s x

theorem missedBus_frame (k : SlotId) (s : State) :
    missedBus k s = { s with mbc := { s.mbc with slots := s.mbc.slots.set k (missedSlot s.mbc.slots[k]) }, notices := (missedBus k s).notices } := by
  unfold missedBus
  split
  · rw [post_eq]
    rfl
  · rfl

theorem missedBus_outcome (k : SlotId) (s : State) : MissedBus k s (missedBus k (nextPoll s)) := by
  have hnext := nextPoll_mbc s
  have hslots := nextPoll_slots s
  obtain ⟨hpoll, hschedule⟩ := nextPoll_poll s
  generalize nextPoll s = y at *
  have hnotices : y.notices = s.notices := (congrArg State.notices hnext).trans rfl
  have htime : y.time = s.time := (congrArg State.time hnext).trans rfl
  have hkinds : OnlyKinds busKind s (missedBus k y) := by
    unfold missedBus
    split
    · exact .post_of (t := putSlot k (missedSlot y.mbc.slots[k]) y) hnotices .moduleSilent _ _ rfl
    · exact .of_eq hnotices
  have hsilent : announces s.mbc.slots[k] = true →
      NoticeNext { kind := .moduleSilent, subject := some k.val, value := none, time := s.time } s (missedBus k y) := fun h => by
    rw [missedBus, hslots, if_pos h]
    exact noticeNext_post hnotices htime
  have hframe := missedBus_frame k y
  generalize missedBus k y = x at *
  have hmbc : x.mbc = { y.mbc with slots := y.mbc.slots.set k (missedSlot y.mbc.slots[k]) } := (congrArg State.mbc hframe).trans rfl
  rw [← hmbc] at hframe
  have hall : x = { s with mbc := x.mbc, notices := x.notices } :=
    hframe.trans (congrArg (fun z : State => { z with mbc := x.mbc, notices := x.notices }) hnext)
  have hpins : x.pins = s.pins := (congrArg State.pins hall).trans rfl
  refine ⟨⟨?_, hkinds⟩, hpins, ?_, ?_, ?_, hsilent⟩
  · rw [hpins]
    exact hall
  · rw [hmbc, hslots]
  · rw [hmbc]
    exact hschedule
  · rw [hmbc]
    exact hpoll

/-! ### The owner's turn -/

/-- The record of a silent rectifier slot (R43). -/
def silentRect (x : RectSlot) : RectSlot := { x with state := .silent }

/-- The record of a silent battery slot (R56). -/
def silentBbu (u : Bbu) : Bbu := { u with state := .silent, seeded := false }

theorem BusPrelude.racked {s x t : State} (h : BusPrelude s x) (k : RackOnly x t) (hn : RackNotes x t) :
    OwnerFrame s x t ∧ t.rects = s.rects ∧ GrantsOnly s t := by
  have hframe : t = withRackOf { s with pins := x.pins, mbc := x.mbc } t :=
    k.1.trans ((congrArg (fun z : State => withRackOf z t) h.frame).trans rfl)
  have hrects : t.rects = s.rects := k.rects.trans h.rects
  have hilc : t.ilc = s.ilc := (congrArg State.ilc hframe).trans rfl
  have htest : t.test = s.test := (congrArg State.test hframe).trans rfl
  refine ⟨⟨?_, k.mbc, hn.records⟩, hrects, fun b => (k.2 b).trans (by rw [h.bbus])⟩
  rw [hrects, hilc, htest]
  exact hframe

theorem afterRoster_racked (s0 : State) {s x : State} (h : BusPrelude s x) :
    OwnerFrame s x (afterRoster s0 x) ∧ (afterRoster s0 x).rects = s.rects ∧ GrantsOnly s (afterRoster s0 x) :=
  h.racked (afterRoster_paced s0 x).only (afterRoster_paced s0 x).notes

/-- What the third miss makes of the slot's owner (R37, R43, R56). -/
structure SilenceTurn (k : SlotId) (s x t : State) : Prop extends OwnerFrame s x t where
  rect : ∀ r : RectId, k = rectSlotNo r →
    t.rects = s.rects.set r (silentRect s.rects[r]) ∧ t.budget.c = capacityOf s.params.policy t.rects ∧
      (TrayLaw s → OpenLaw s → s.store.autoPending = false → CapacityTaken s t)
  bbu : ∀ b : BbuId, k = bbuSlotNo b → s.bbus[b].state ≠ .silent →
    BbuChanged b (silentBbu s.bbus[b]) x t ∧ (ShelfLaw s → OpenLaw s → ReserveTaken s t)

theorem SilenceTurn.of_turn {k : SlotId} {s x t : State} (h : OwnerTurn k silentRect silentBbu s x t) : SilenceTurn k s x t :=
  ⟨h.toOwnerFrame, h.rect, fun b hb _ => ⟨h.bbu b hb, h.reserve b hb⟩⟩

theorem ownerSilenced_turn (k : SlotId) (s0 : State) {s x : State} (h : BusPrelude s x) :
    SilenceTurn k s x (afterRoster s0 (ownerSilenced k x)) := by
  rcases slot_cases k with ⟨r, rfl⟩ | ⟨b, rfl⟩
  · have hown : ownerSilenced (rectSlotNo r) x = rosterRecompute x (putRect r (silentRect x.rects[r]) x) := by
      rw [ownerSilenced, slotOwner_rectSlotNo]
      rfl
    rw [hown]
    exact .of_turn (.of_rect h (rosterTurn x s0 _))
  · have hown : ownerSilenced (bbuSlotNo b) x = bbuSilenced b x := by rw [ownerSilenced, slotOwner_bbuSlotNo]
    rw [hown, bbuSilenced]
    by_cases hs : x.bbus[b].state = .silent
    · rw [if_pos hs]
      refine ⟨(afterRoster_racked s0 h).1, fun r hr => absurd hr.symm (rectSlotNo_ne_bbuSlotNo r b), fun c hc hne => ?_⟩
      rw [← bbuSlotNo_inj hc, ← h.bbus] at hne
      exact absurd hs hne
    · rw [if_neg hs]
      exact .of_turn (.of_bbu h ((bbuStateChange_changed b (silentBbu x.bbus[b]) x).afterRoster s0))

/-! ### The obligation -/

/-- What a miss comes to. -/
theorem missed_outcome {s : State} {p : Poll} {r : RectId} {b : BbuId} (hp : s.mbc.poll = some p) (hle : s.mbc.slots[p.slot].missCount ≤ 3) :
    ∃ t, pollMissed s = t ∧
      t = withRackOf { s with mbc := t.mbc, rects := t.rects, ilc := t.ilc, test := t.test } t ∧
      t.mbc.slots = s.mbc.slots.set p.slot (missedSlot s.mbc.slots[p.slot]) ∧
      t.mbc.schedule = s.mbc.schedule.tail ∧ t.mbc.poll.map Poll.slot = s.mbc.schedule.head? ∧
      (s.mbc.slots[p.slot].missCount ≠ 2 → t.rects = s.rects ∧ GrantsOnly s t) ∧
      (s.mbc.slots[p.slot].missCount = 2 → p.slot = rectSlotNo r →
        t.rects = s.rects.set r (silentRect s.rects[r]) ∧ t.budget.c = capacityOf s.params.policy t.rects ∧
          (TrayLaw s → OpenLaw s → s.store.autoPending = false → CapacityTaken s t)) ∧
      (s.mbc.slots[p.slot].missCount = 2 → p.slot = bbuSlotNo b → s.bbus[b].state ≠ .silent →
        ({ t.bbus[b] with grant := 0, testPower := 0 } : Bbu) = { silentBbu s.bbus[b] with grant := 0, testPower := 0 } ∧
          (ShelfLaw s → OpenLaw s → ReserveTaken s t)) ∧
      (s.mbc.slots[p.slot].missCount = 2 → s.mbc.slots[p.slot].announced = false →
        NoticeNext { kind := .moduleSilent, subject := some p.slot.val, value := none, time := s.time } s t) := by
  have hbus := missedBus_outcome p.slot s
  have hslots := nextPoll_slots s
  have hmisses := slotMisses_eq (k := p.slot) (s := nextPoll s) (by rw [hslots]; exact hle)
  rw [hslots] at hmisses
  refine ⟨_, rfl, ?_⟩
  rw [pollMissed_some hp, hmisses]
  generalize missedBus p.slot (nextPoll s) = x at *
  have hpins := hbus.pins
  have hquiet := afterRoster_racked s hbus.prelude
  have hturn := ownerSilenced_turn p.slot s hbus.prelude
  by_cases h2 : s.mbc.slots[p.slot].missCount = 2
  · rw [if_pos h2]
    generalize afterRoster s (ownerSilenced p.slot x) = t at *
    have hframe := hturn.frame
    rw [hpins] at hframe
    rw [hturn.mbc]
    refine ⟨hframe, hbus.slots, hbus.schedule, hbus.poll, fun hne => absurd h2 hne, fun _ hr => hturn.rect r hr, fun _ hb hs => ?_, fun _ ha => ?_⟩
    · obtain ⟨hchanged, hreserve⟩ := hturn.bbu b hb hs
      exact ⟨hchanged.unit, hreserve⟩
    · refine (hbus.silent ?_).then_more hturn.records
      rw [announces, h2, ha]
      rfl
  · rw [if_neg h2]
    generalize afterRoster s x = t at *
    obtain ⟨hframe, hrects, hgrants⟩ := hquiet
    have hall := hframe.frame
    have hmbc := hframe.mbc
    rw [hpins] at hall
    rw [hmbc]
    exact ⟨hall, hbus.slots, hbus.schedule, hbus.poll, fun _ => ⟨hrects, hgrants⟩, fun h => absurd h h2, fun h => absurd h h2, fun h => absurd h h2⟩

/-- Settles O40. -/
theorem pollMisses : Obligations.PollMisses := by
  intro s p station kind tag length b0 payload check events why r b hfree
  have hreply : ∀ f, exec (.moduleReplyReceived f) s = .next (busReply f s) := fun f => awake_free (busReply f) hfree
  have hexpiry : exec .replyWindowExpiry s = .next (pollMissed s) := awake_free pollMissed hfree
  have hone : ∀ e, exec (.moduleReplyReceived (.heard [e])) s = .next (busEvent e s) := fun e => hreply (.heard [e])
  refine ⟨fun hp => ⟨?_, ?_, ?_⟩, fun hp hf hlen => ?_, fun hp hf => ⟨?_, ?_⟩, fun hf => ⟨?_, ?_⟩, fun hp hf hwrong => ?_, fun hp hbad => ?_,
    fun _ => (hreply .dropped).trans hexpiry.symm, fun hp hle => ?_⟩
  · rw [hexpiry, pollMissed_none hp]
  · exact (hreply _).trans (congrArg _ (frameTaken_none hp station kind tag payload check))
  · exact (hreply _).trans (congrArg _ (busHears_noPoll hp events))
  · rw [hreply, hreply]
    exact congrArg _ (busHears_frame hp hf station kind tag hlen)
  · rw [hone, hexpiry, busEvent_broken hp (.inl rfl), busBroken_begun hf]
  · rw [hone, hexpiry, busEvent_broken hp (.inr ⟨why, rfl⟩), busBroken_begun hf]
  · rw [hone, busEvent_hunt hf (.inl rfl)]
  · rw [hone, busEvent_hunt hf (.inr ⟨why, rfl⟩)]
  · rw [hone, hexpiry, busEvent_byte hp, busByte_wrongHeader hf hwrong]
  · have hinvalid : validReply p station kind tag payload check ≠ true := fun hv => by
      obtain ⟨hcheck, hstation, hkind, htag, hlength⟩ := (validReply_iff _ _ _ _ _ _).mp hv
      rcases hbad with ⟨hne, hcrc⟩ | h | h | h | h
      · exact hcheck.elim hne hcrc
      · exact h hstation
      · exact h hkind
      · exact h htag
      · exact h hlength
    refine (hreply _).trans (.trans (congrArg _ ?_) hexpiry.symm)
    exact (frameTaken_some hp station kind tag payload check).trans (if_neg hinvalid)
  · obtain ⟨t, ht, hout⟩ := missed_outcome (r := r) (b := b) hp hle
    exact ⟨t, hexpiry.trans (congrArg _ ht), hout⟩

end Sys2Proof.Machine
end

section
/-! PROOFS. The shelf parameters as a list of values (R183). -/
namespace Sys2Proof.Machine

/-- The values of the shelf parameters in the order of their identifiers. -/
def paramValues (p : Params) : List Nat :=
  [p.period, policyCode p.policy, p.margin, p.chargeFloor, p.readyMin, p.efficiency, p.floorFraction, p.qualifyTime, p.restoreHold,
    p.tau1, p.tau2, p.tau3, p.slots, p.startSpacing, p.stopSpacing, p.autoRecover.toNat, p.autoStart.toNat, p.scanInterval,
    p.valveTravel, p.testPower, p.prepareLimit, p.weakThreshold, p.hostSilence]

theorem paramGet_eq (p : Params) {k : Nat} (hk : k ≤ 22) : paramGet p k = (paramValues p).getD k 0 := by
  interval_cases k <;> rfl

/-- The value that a parameter reads as once it has been given: a code or a yes/no is normalised. -/
def paramRead (k v : Nat) : Nat :=
  if k = 1 then policyCode (policyOfCode v) else if k = 15 ∨ k = 16 then (yes v).toNat else v

theorem paramValues_put (p : Params) {k : Nat} (hk : k ≤ 22) (v : Nat) : paramValues (paramPut p k v) = (paramValues p).set k (paramRead k v) := by
  interval_cases k <;> rfl

theorem bit_read {v : Nat} (h : v ≤ 1) : policyCode (policyOfCode v) = v ∧ (yes v).toNat = v := by
  interval_cases v <;> exact ⟨rfl, rfl⟩

theorem paramRead_of_le {k v : Nat} (h : v ≤ (paramRange k).2) : paramRead k v = v := by
  unfold paramRead
  split
  · next hk =>
    subst hk
    exact (bit_read h).1
  · split
    · next hk => rcases hk with rfl | rfl <;> exact (bit_read h).2
    · rfl

theorem paramGet_put_self (p : Params) {k v : Nat} (hk : k ≤ 22) (hv : v ≤ (paramRange k).2) : paramGet (paramPut p k v) k = v := by
  have hlen : k < (paramValues p).length := Nat.lt_succ_of_le hk
  rw [paramGet_eq _ hk, paramValues_put p hk, paramRead_of_le hv, List.getD_eq_getElem?_getD, List.getElem?_set_self hlen]
  rfl

theorem paramGet_put_other (p : Params) {j k : Nat} (v : Nat) (hk : k ≤ 22) (hj : j ≤ 22) (h : j ≠ k) :
    paramGet (paramPut p k v) j = paramGet p j := by
  rw [paramGet_eq _ hj, paramGet_eq _ hj, paramValues_put p hk, List.getD_eq_getElem?_getD, List.getD_eq_getElem?_getD,
    List.getElem?_set_ne (Ne.symm h)]

theorem paramClamp_le (k v : Nat) : paramClamp k v ≤ (paramRange k).2 := Nat.min_le_left _ _

theorem paramClamp_eq (k v : Nat) : paramClamp k v = min (paramRange k).2 (max (paramRange k).1 v) := rfl

end Sys2Proof.Machine
end

section
/-! PROOFS. What leaves the configurations of the trays alone (R6, R18, R19, R178). -/
namespace Sys2Proof.Machine

/-- Each tray has the active and the staged configuration of before. -/
def SameConfig (s t : State) : Prop := ∀ i : TrayId, t.trays[i].cfg = s.trays[i].cfg ∧ t.trays[i].staged = s.trays[i].staged

namespace SameConfig
variable {s t u : State}

theorem refl (s : State) : SameConfig s s := fun _ => ⟨rfl, rfl⟩

theorem trans (h : SameConfig s t) (k : SameConfig t u) : SameConfig s u := fun i => ⟨(k i).1.trans (h i).1, (k i).2.trans (h i).2⟩

theorem of_trays (h : t.trays = s.trays) : SameConfig s t := fun i => by
  rw [h]
  exact ⟨rfl, rfl⟩

theorem of_get (h : ∀ i : TrayId, ∃ x : Tray, t.trays[i] = x ∧ x.cfg = s.trays[i].cfg ∧ x.staged = s.trays[i].staged) : SameConfig s t := fun i => by
  obtain ⟨x, hx, hsame⟩ := h i
  rw [hx]
  exact hsame

end SameConfig

theorem Entered.sameConfig {a b : Tray} (h : Entered a b) : b.cfg = a.cfg ∧ b.staged = a.staged := by
  rcases h with h | h | h <;> subst h <;> exact ⟨rfl, rfl⟩

theorem sameConfig_started {s t : State} (h : ∀ j, StartedOrSame s t j) : SameConfig s t := fun i => by
  rcases h i with he | ⟨-, -, he⟩
  · rw [he]
    exact ⟨rfl, rfl⟩
  · exact he.sameConfig

theorem tell_sameConfig (s : State) : SameConfig s (tell s) := sameConfig_started (evalStart_taken s).tray

theorem seqAfter_sameConfig (s0 s : State) : SameConfig s (seqAfter s0 s) := sameConfig_started (seqAfter_followed s0 s).tray

/-- A deficit sheds trays that are under power, which keep their staged configuration (R87). -/
theorem evalDeficit_sameConfig {s : State} (hn : s.ilc.state = .normal) : SameConfig s (evalDeficit s) := by
  have hwalk := (evalDeficit_taken hn).walk
  refine .of_get fun i => ?_
  by_cases h : shedForDeficit s s.budget.c i = true
  · exact ⟨_, (hwalk.shed i h).1, rfl, rfl⟩
  · exact ⟨_, hwalk.kept i (Bool.eq_false_iff.mpr h), rfl, rfl⟩

theorem afterBudget_sameConfig (s0 : State) {s : State} (hn : s.ilc.state = .normal) : SameConfig s (afterBudget s0 s) := by
  have hgrants : SameConfig s (if s.kT = s0.kT then s else recomputeGrants s) := by
    split
    · exact .refl s
    · exact .of_trays rfl
  have hnormal : (if s.kT = s0.kT then s else recomputeGrants s).ilc.state = .normal := by
    split
    · exact hn
    · exact hn
  unfold afterBudget
  dsimp only
  split
  · exact hgrants
  · exact hgrants.trans (evalDeficit_sameConfig hnormal)

theorem propagate_sameConfig (s0 : State) {s : State} (hn : s.ilc.state = .normal) : SameConfig s (propagate s0 s) :=
  (afterBudget_sameConfig s0 hn).trans (seqAfter_sameConfig s0 _)

theorem JoinedAll.sameConfig {l : List TrayId} {s t : State} (h : JoinedAll l s t) : SameConfig s t := fun i => by
  rw [h.tray i]
  split
  · exact ⟨rfl, rfl⟩
  · exact ⟨rfl, rfl⟩

theorem createUp_sameConfig (scope : Scope) (l : List TrayId) (s : State) : SameConfig s (createUp scope l s) := by
  have hnew : SameConfig s (newUp scope s) := .of_trays rfl
  rw [createUp_eq]
  exact hnew.trans ((joinAll_joined l _).sameConfig.trans (tell_sameConfig _))

theorem recovery_sameConfig (l : List TrayId) (s : State) : SameConfig s (recovery l s) := by
  rcases recovery_cases l s with h | ⟨-, h⟩ | ⟨-, -, h⟩
  · rw [h]
    exact .refl s
  · rw [h]
    exact createUp_sameConfig _ _ s
  · rw [h]
    exact (joinAll_joined _ s).sameConfig.trans (tell_sameConfig _)

theorem autoStartTest_sameConfig (s : State) : SameConfig s (autoStartTest s) := by
  unfold autoStartTest
  split
  · exact createUp_sameConfig _ _ s
  · exact .refl s

theorem clearShedOnRise_sameConfig (s : State) : SameConfig s (clearShedOnRise s) := by
  have hclear : SameConfig s (clearShed s) := .of_get fun i => ⟨_, clearShed_get i s, rfl, rfl⟩
  exact hclear.trans (recovery_sameConfig _ _)

theorem capacityShed_sameConfig (c : Nat) {s : State} (hn : s.ilc.state = .normal) : SameConfig s (capacityShed c s) := by
  have hwith : SameConfig s (withCapacity c s) := .of_trays rfl
  exact hwith.trans ((evalDeficit_sameConfig (s := withCapacity c s) hn).trans (seqAfter_sameConfig _ _))

theorem Retold.sameConfig {s t : State} (h : Retold s t) : SameConfig s t := sameConfig_started h.starts.tray

theorem rosterRecompute_sameConfig (s0 : State) {s : State} (hn : s.ilc.state = .normal) : SameConfig s (rosterRecompute s0 s) := by
  by_cases h : capacityOf s.params.policy s.rects = s.budget.c
  · exact (rosterRecompute_same h).sameConfig
  · by_cases hc : s.budget.c < capacityOf s.params.policy s.rects
    · exact (capacityShed_sameConfig _ hn).trans ((clearShedOnRise_sameConfig _).trans (rosterRecompute_rise h hn hc).sameConfig)
    · exact (capacityShed_sameConfig _ hn).trans (rosterRecompute_fall h hn hc).sameConfig

/-! ### A reserve in NORMAL -/

/-- A reserve that is handed on in NORMAL is stored, and the start rule may be evaluated (R66, R82). -/
theorem reserveChanged_normal {s : State} (hn : s.ilc.state = .normal) :
    reserveChanged s = withHanded s ∨ reserveChanged s = tell (withHanded s) := by
  have hstored : tEstArrival s = withHanded s := tEstArrival_quiet (.inl hn)
  unfold reserveChanged
  dsimp only
  rw [hstored]
  split
  · exact .inl rfl
  · exact .inr rfl

theorem reserveChanged_sameConfig {s : State} (hn : s.ilc.state = .normal) : SameConfig s (reserveChanged s) := by
  have hhanded : SameConfig s (withHanded s) := .of_trays rfl
  rcases reserveChanged_normal hn with h | h <;> rw [h]
  · exact hhanded
  · exact hhanded.trans (tell_sameConfig _)

/-- In NORMAL only R and T_est change in the input loss record. -/
theorem reserveChanged_ilc {s : State} (hn : s.ilc.state = .normal) :
    (reserveChanged s).ilc = { s.ilc with lastR := s.reserve, lastTEst := s.tEst } := by
  rcases reserveChanged_normal hn with h | h <;> rw [h]
  · rfl
  · exact (tell_side _).ilc

/-! ### The LEAK lockouts -/

/-- No tray waits in the start queue. -/
def NoneQueued (s : State) : Prop := ∀ i : TrayId, s.trays[i].state ≠ .queued

theorem stopTray_sameConfig {t : Tray} (h : t.state ≠ .queued) : (stopTray t).cfg = t.cfg ∧ (stopTray t).staged = t.staged := by
  unfold stopTray
  split
  case h_1 hq => exact absurd hq h
  all_goals exact ⟨rfl, rfl⟩

theorem isolateTray_sameConfig {t : Tray} (h : t.state ≠ .queued) : (isolateTray t).cfg = t.cfg ∧ (isolateTray t).staged = t.staged :=
  stopTray_sameConfig (t := { t with locks := { t.locks with leak := true } }) h

/-- Where no tray is QUEUED the LEAK lockouts leave the configurations alone (R17, R135). -/
theorem leakRecompute_sameConfig {s : State} (hn : s.ilc.state = .normal) (hq : NoneQueued s) : SameConfig s (leakRecompute s) := by
  have hgains : (leakGains s).Nodup := allTrays_nodup.filter _
  have hlosses : (leakLosses s).Nodup := allTrays_nodup.filter _
  have hgain : SameConfig s (putTrays (leakGains s) isolateTray s) := fun i => by
    rw [putTrays_get hgains]
    split
    · exact isolateTray_sameConfig (hq i)
    · exact ⟨rfl, rfl⟩
  have hloss : ∀ x : State, SameConfig x (putTrays (leakLosses s) freeLeak x) := fun x i => by
    rw [putTrays_get hlosses]
    split
    · exact ⟨rfl, rfl⟩
    · exact ⟨rfl, rfl⟩
  have hnormal : (putTrays (leakLosses s) freeLeak (putTrays (leakGains s) isolateTray s)).ilc.state = .normal := by
    rw [(putTrays_side _ _ _).ilc, (putTrays_side _ _ _).ilc, hn]
  unfold leakRecompute
  exact (hgain.trans (hloss _)).trans (propagate_sameConfig s hnormal)

end Sys2Proof.Machine
end

section
/-! PROOFS. A shelf parameter that is taken (R183, R34, R46, R69, R78, R82, R97, R104, R129, R166). -/
namespace Sys2Proof.Machine

/-! ### The rack's part -/

/-- A step of the rack that leaves every configuration in NORMAL. -/
structure RackConfig (s t : State) : Prop where
  only : RackOnly s t
  config : s.ilc.state = .normal → SameConfig s t

namespace RackConfig
variable {s t u : State}

theorem refl (s : State) : RackConfig s s := ⟨.refl s, fun _ => .refl s⟩

theorem trans (h : RackConfig s t) (k : RackConfig t u) : RackConfig s u :=
  ⟨h.only.trans k.only, fun hn => (h.config hn).trans (k.config (by rw [h.only.ilc]; exact hn))⟩

theorem tell (s : State) : RackConfig s (Machine.tell s) := ⟨.of_side (tell_side s), fun _ => tell_sameConfig s⟩

theorem tellIf (c : Prop) [Decidable c] (s : State) : RackConfig s (if c then Machine.tell s else s) := by
  split
  · exact .tell s
  · exact .refl s

theorem grants (s : State) : RackConfig s (recomputeGrants s) := ⟨.of_side (recomputeGrants_side s), fun _ => .of_trays rfl⟩

theorem floor (s : State) : RackConfig s (recomputeFloor s) := ⟨⟨rfl, fun _ => rfl⟩, fun _ => .of_trays rfl⟩

theorem roster (s0 s : State) : RackConfig s (rosterRecompute s0 s) :=
  ⟨(rosterRecompute_paced s0 s).only, rosterRecompute_sameConfig s0⟩

end RackConfig

/-- A step of rack and input loss controller which in NORMAL leaves every configuration, and changes R and T_est at most. -/
structure ShelfConfig (s t : State) : Prop where
  only : ShelfOnly s t
  config : s.ilc.state = .normal → SameConfig s t
  ilc : s.ilc.state = .normal → t.ilc = { s.ilc with lastR := t.ilc.lastR, lastTEst := t.ilc.lastTEst }

theorem RackConfig.shelf {s t : State} (h : RackConfig s t) : ShelfConfig s t :=
  ⟨.of_rackOnly h.only, h.config, fun _ => by rw [h.only.ilc]⟩

theorem reserveChanged_shelfConfig (s : State) : ShelfConfig s (reserveChanged s) :=
  ⟨reserveChanged_shelf s, reserveChanged_sameConfig, fun hn => by rw [reserveChanged_ilc hn]⟩

theorem evalStage_shelfConfig (s : State) : ShelfConfig s (if s.ilc.state = .rideThrough then evalStage s else s) := by
  split
  · next h =>
    exact ⟨evalStage_shelf s, fun hn => ShelfState.noConfusion (h.symm.trans hn), fun hn => ShelfState.noConfusion (h.symm.trans hn)⟩
  · exact (RackConfig.refl s).shelf

/-! ### The identifiers -/

/-- The part with the new value among the parameters. -/
def withParam (k v : Nat) (s : State) : State := setParams (paramPut s.params k v) s

/-- The parameters that only a later event reads (R183). -/
def laterParams : List Nat := [5, 7, 8, 13, 14, 15, 16, 18, 19, 20, 21]

theorem applyParam_later {k : Nat} (h : k ∈ laterParams) (v : Nat) (s : State) : applyParam k v s = withParam k v s := by
  simp only [laterParams, List.mem_cons, List.not_mem_nil, or_false] at h
  rcases h with rfl | rfl | rfl | rfl | rfl | rfl | rfl | rfl | rfl | rfl | rfl <;> rfl

/-- The parameters that the budget, the roster or the sequencer takes up at once. -/
theorem applyParam_rack {k : Nat} (h : k ∈ [1, 2, 3, 4, 12]) (v : Nat) (s : State) : RackConfig (withParam k v s) (applyParam k v s) := by
  simp only [List.mem_cons, List.not_mem_nil, or_false] at h
  rcases h with rfl | rfl | rfl | rfl | rfl
  · exact .roster s _
  · exact (RackConfig.grants _).trans (.tellIf _ _)
  · exact (RackConfig.floor _).trans (.tellIf _ _)
  · exact .tellIf _ _
  · exact .tellIf _ _

/-- The parameters that the input loss controller takes up at once. -/
theorem applyParam_shelf {k : Nat} (h : k ∈ [6, 9, 10, 11]) (v : Nat) (s : State) : ShelfConfig (withParam k v s) (applyParam k v s) := by
  simp only [List.mem_cons, List.not_mem_nil, or_false] at h
  rcases h with rfl | rfl | rfl | rfl
  · exact reserveChanged_shelfConfig _
  · exact evalStage_shelfConfig _
  · exact evalStage_shelfConfig _
  · exact evalStage_shelfConfig _

/-- Every identifier is of one of these kinds. -/
theorem param_cases {k : Nat} (h : k ≤ 22) :
    k = 0 ∨ k = 17 ∨ k = 22 ∨ k ∈ laterParams ∨ k ∈ [1, 2, 3, 4, 12] ∨ k ∈ [6, 9, 10, 11] := by
  interval_cases k <;> decide

/-! ### What a parameter changes -/

/-- What a parameter that is taken changes, and what it leaves alone. -/
structure ParamTaken (k v : Nat) (s t : State) : Prop where
  frame : t = withRackOf
    { s with
      ilc := t.ilc, params := t.params, stagedScan := t.stagedScan, hli := t.hli
      mbc := { s.mbc with stagedPeriod := t.mbc.stagedPeriod } } t
  grants : GrantsOnly s t
  ilc : k ∉ [6, 9, 10, 11] → t.ilc = s.ilc
  normal : s.ilc.state = .normal → t.ilc = { s.ilc with lastR := t.ilc.lastR, lastTEst := t.ilc.lastTEst }
  config : s.ilc.state = .normal → SameConfig s t
  params : t.params = if k = 0 ∨ k = 17 then s.params else paramPut s.params k v
  period : t.mbc.stagedPeriod = if k = 0 then some v else s.mbc.stagedPeriod
  scan : t.stagedScan = if k = 17 then some v else s.stagedScan
  link : t.hli = if k = 22 then { s.hli with silence := silenceStart t.params.hostSilence } else s.hli

theorem ParamTaken.of_shelf {k v : Nat} {s t : State} (h : ShelfConfig (withParam k v s) t) (h0 : k ≠ 0) (h17 : k ≠ 17) (h22 : k ≠ 22)
    (hilc : k ∉ [6, 9, 10, 11] → t.ilc = s.ilc) : ParamTaken k v s t := by
  have hframe : t = withRackOf { withParam k v s with ilc := t.ilc } t := h.only.1
  have hparams : t.params = paramPut s.params k v := (congrArg State.params hframe).trans rfl
  have hmbc : t.mbc = s.mbc := (congrArg State.mbc hframe).trans rfl
  have hscan : t.stagedScan = s.stagedScan := (congrArg State.stagedScan hframe).trans rfl
  have hlink : t.hli = s.hli := (congrArg State.hli hframe).trans rfl
  refine ⟨?_, h.only.2, hilc, h.ilc, h.config, ?_, ?_, ?_, ?_⟩
  · rw [hparams, hmbc, hscan, hlink]
    exact hframe
  · rw [if_neg (not_or.mpr ⟨h0, h17⟩), hparams]
  · rw [if_neg h0, hmbc]
  · rw [if_neg h17, hscan]
  · rw [if_neg h22, hlink]

theorem applyParam_taken {k : Nat} (hk : k ≤ 22) (v : Nat) (s : State) : ParamTaken k v s (applyParam k v s) := by
  rcases param_cases hk with rfl | rfl | rfl | h | h | h
  · exact ⟨rfl, fun _ => rfl, fun _ => rfl, fun _ => rfl, fun _ => .of_trays rfl, rfl, rfl, rfl, rfl⟩
  · exact ⟨rfl, fun _ => rfl, fun _ => rfl, fun _ => rfl, fun _ => .of_trays rfl, rfl, rfl, rfl, rfl⟩
  · exact ⟨rfl, fun _ => rfl, fun _ => rfl, fun _ => rfl, fun _ => .of_trays rfl, rfl, rfl, rfl, rfl⟩
  · have hne : ∀ j, j ∉ laterParams → k ≠ j := fun j hj he => hj (he ▸ h)
    rw [applyParam_later h]
    exact .of_shelf (RackConfig.refl _).shelf (hne 0 (by decide)) (hne 17 (by decide)) (hne 22 (by decide)) fun _ => rfl
  · have hne : ∀ j, j ∉ [1, 2, 3, 4, 12] → k ≠ j := fun j hj he => hj (he ▸ h)
    have hrack := applyParam_rack h v s
    exact .of_shelf hrack.shelf (hne 0 (by decide)) (hne 17 (by decide)) (hne 22 (by decide)) fun _ => hrack.only.ilc
  · have hne : ∀ j, j ∉ [6, 9, 10, 11] → k ≠ j := fun j hj he => hj (he ▸ h)
    exact .of_shelf (applyParam_shelf h v s) (hne 0 (by decide)) (hne 17 (by decide)) (hne 22 (by decide)) fun hno => absurd h hno

/-- The working value is the new one, and no other parameter's changes (R34, R129, R183). -/
theorem ParamTaken.working {k v : Nat} {s t : State} (h : ParamTaken k v s t) (hk : k ≤ 22) (hv : v ≤ (paramRange k).2) :
    workingParam t k = v ∧ ∀ j, j ≤ 22 → j ≠ k → workingParam t j = workingParam s j := by
  have hparams := h.params
  have hperiod := h.period
  have hscan := h.scan
  unfold workingParam
  by_cases h0 : k = 0
  · subst h0
    rw [if_pos rfl] at hperiod
    rw [if_neg (by decide)] at hscan
    rw [if_pos (.inl rfl)] at hparams
    refine ⟨by rw [if_pos rfl, hperiod]; rfl, fun j _ hj => ?_⟩
    rw [if_neg hj, if_neg hj, hscan, hparams]
  · by_cases h17 : k = 17
    · subst h17
      rw [if_neg (by decide)] at hperiod
      rw [if_pos rfl] at hscan
      rw [if_pos (.inr rfl)] at hparams
      refine ⟨by rw [if_neg (by decide), if_pos rfl, hscan]; rfl, fun j _ hj => ?_⟩
      rw [if_neg hj, if_neg hj, hperiod, hparams]
    · rw [if_neg h0] at hperiod
      rw [if_neg h17] at hscan
      rw [if_neg (not_or.mpr ⟨h0, h17⟩)] at hparams
      have hget : ∀ j, j ≤ 22 → j ≠ k → paramGet t.params j = paramGet s.params j := fun j hj hne => by
        rw [hparams, paramGet_put_other s.params v hk hj hne]
      refine ⟨?_, fun j hj hne => ?_⟩
      · rw [if_neg h0, if_neg h17, hparams, paramGet_put_self s.params hk hv]
      · have hp : t.params.period = s.params.period := hget 0 (by decide) (Ne.symm h0)
        have hs : t.params.scanInterval = s.params.scanInterval := hget 17 (by decide) (Ne.symm h17)
        rw [hperiod, hscan, hp, hs, hget j hj hne]

end Sys2Proof.Machine
end

section
/-! PROOFS. The shelf parameters: the obligation (R183, R34, R46, R69, R78, R104, R124, R129, R144, R148, R166). -/
namespace Sys2Proof.Machine

/-! ### The answers -/

theorem answerGetShelfParam_badIndex {k : Nat} (hk : 23 ≤ k) (s : State) : answerGetShelfParam k s = refuse .badIndex s := if_pos hk

theorem answerGetShelfParam_data {k : Nat} (hk : k ≤ 22) (s : State) :
    answerGetShelfParam k s = answerData (le8 k ++ le32 (workingParam s k)) s := if_neg (Nat.not_lt.mpr hk)

theorem answerSetShelfParam_badIndex {k : Nat} (hk : 23 ≤ k) (v : Nat) (s : State) : answerSetShelfParam k v s = refuse .badIndex s := if_pos hk

theorem answerSetShelfParam_busy {k : Nat} (hk : k ≤ 22) (v : Nat) {s : State} (h : s.store.saving ≠ none) :
    answerSetShelfParam k v s = refuse .busy s :=
  (if_neg (Nat.not_lt.mpr hk)).trans (if_pos (saveInFlight_of_ne s h))

theorem answerSetShelfParam_taken {k : Nat} (hk : k ≤ 22) (v : Nat) {s : State} (h : s.store.saving = none) :
    answerSetShelfParam k v s = (.ack (paramClamped k v) false, applyParam k (paramClamp k v) s) :=
  (if_neg (Nat.not_lt.mpr hk)).trans (if_neg (Bool.eq_false_iff.mp (saveInFlight_of_none s h)))

theorem replyOf_ack (kind : Byte) (clamped : Bool) : replyOf kind (.ack clamped false) = (0x80, if clamped then [1] else []) := by
  cases clamped <;> rfl

/-! ### The policy -/

/-- The policy's value is in force before the roster takes it up (R46). -/
theorem policy_prelude (r : Request) (v : Nat) (s : State) : CapacityPrelude s (withParam 1 v (asked r s)) :=
  ⟨rfl, rfl, rfl, rfl, rfl, rfl, fun _ _ => rfl⟩

theorem policy_taken (r : Request) (v : Nat) (s : State) :
    (applyParam 1 v (asked r s)).budget.c =
        capacityOf (applyParam 1 v (asked r s)).params.policy (applyParam 1 v (asked r s)).rects ∧
      (TrayLaw s → OpenLaw s → CapacityTaken s (applyParam 1 v (asked r s))) := by
  have hpre := policy_prelude r v s
  have heq : applyParam 1 v (asked r s) = rosterRecompute (asked r s) (withParam 1 v (asked r s)) := rfl
  have hc := rosterRecompute_c (asked r s) (withParam 1 v (asked r s))
  have honly := (rosterRecompute_paced (asked r s) (withParam 1 v (asked r s))).only
  have htaken := fun ht ho => rosterRecompute_taken (s0 := asked r s) (s := withParam 1 v (asked r s)) ht ho
  rw [heq]
  generalize rosterRecompute (asked r s) (withParam 1 v (asked r s)) = t at *
  generalize withParam 1 v (asked r s) = y at *
  refine ⟨?_, fun ht ho => hpre.taken (htaken (hpre.trayLaw ht) (hpre.openLaw ho))⟩
  rw [honly.params, honly.rects]
  exact hc

/-! ### The obligation -/

/-- A change of the host link alone. -/
theorem ParamTaken.replying {k v : Nat} {s t : State} {r : Request} (h : ParamTaken k v (asked r s) t) (a : Answer) :
    replying r a t = withRackOf
      { s with
        ilc := (replying r a t).ilc, params := (replying r a t).params, stagedScan := (replying r a t).stagedScan, hli := (replying r a t).hli
        mbc := { s.mbc with stagedPeriod := (replying r a t).mbc.stagedPeriod } } (replying r a t) := by
  exact congrArg (Machine.replying r a) h.frame

theorem later_asked {k : Nat} (h : k ∈ laterParams) (v : Nat) (r : Request) (s : State) :
    withParam k v (asked r s) = asked r (withParam k v s) := by
  have hsilence : (paramPut s.params k v).hostSilence = s.params.hostSilence := by
    simp only [laterParams, List.mem_cons, List.not_mem_nil, or_false] at h
    rcases h with rfl | rfl | rfl | rfl | rfl | rfl | rfl | rfl | rfl | rfl | rfl <;> rfl
  have hlink : (asked r (withParam k v s)).hli = (asked r s).hli := by
    simp only [asked, withParam, setParams, hsilence]
  calc withParam k v (asked r s) = { withParam k v s with hli := (asked r s).hli } := rfl
    _ = { withParam k v s with hli := (asked r (withParam k v s)).hli } := by rw [hlink]
    _ = asked r (withParam k v s) := rfl

/-- Settles O26. -/
theorem shelfParameters : Obligations.ShelfParameters := by
  intro s tag k value hready
  have hset := fun {t a} (ha : answerBody (.setShelfParam k value) s.hli.arm (asked ⟨0x0A, tag, .setShelfParam k value⟩ s) = (a, t)) =>
    request_of_answer (kind := 0x0A) (tag := tag) hready ha
  have hget := fun {t a} (ha : answerBody (.getShelfParam k) s.hli.arm (asked ⟨0x09, tag, .getShelfParam k⟩ s) = (a, t)) =>
    request_of_answer (kind := 0x09) (tag := tag) hready ha
  refine ⟨fun hk => ⟨hset (answerSetShelfParam_badIndex hk _ _), hget (answerGetShelfParam_badIndex hk _)⟩,
    fun hk => hget (answerGetShelfParam_data hk _), fun hk hsave => hset (answerSetShelfParam_busy hk _ hsave), fun hk hsave => ?_,
    fun hk hsave => ?_⟩
  · have hexec := hset (answerSetShelfParam_taken hk value (s := asked ⟨0x0A, tag, .setShelfParam k value⟩ s) hsave)
    have htaken := applyParam_taken hk (paramClamp k value) (asked ⟨0x0A, tag, .setShelfParam k value⟩ s)
    have hpolicy := policy_taken ⟨0x0A, tag, .setShelfParam k value⟩ (paramClamp k value) s
    have hone : k = 1 → applyParam 1 (paramClamp k value) (asked ⟨0x0A, tag, .setShelfParam k value⟩ s) =
        applyParam k (paramClamp k value) (asked ⟨0x0A, tag, .setShelfParam k value⟩ s) := fun h => by rw [h]
    obtain ⟨hself, hother⟩ := htaken.working hk (paramClamp_le k value)
    generalize applyParam k (paramClamp k value) (asked ⟨0x0A, tag, .setShelfParam k value⟩ s) = t at *
    refine ⟨_, hexec, ?_, hself.trans (paramClamp_eq k value), fun j hj => hother j (Nat.le_of_lt_succ j.isLt) hj, htaken.replying _, htaken.grants,
      fun hno => htaken.ilc hno, fun h => ?_, fun h => ?_, fun h => ?_⟩
    · exact congrArg some (congrArg (fun x : Byte × List Byte => ({ kind := x.1, tag := tag, payload := x.2 } : Reply)) (replyOf_ack 0x0A _))
    · have hparams := htaken.params
      rw [if_pos h] at hparams
      exact hparams
    · rw [hone h] at hpolicy
      exact hpolicy
    · have hlink := htaken.link
      rw [if_pos h] at hlink
      exact (congrArg HostLink.silence hlink).trans rfl
  · have hle : k ≤ 22 := by
      rcases List.mem_cons.mp hk with rfl | hk
      · decide
      · simp only [List.mem_cons, List.not_mem_nil, or_false] at hk
        omega
    refine (hset (answerSetShelfParam_taken hle value (s := asked ⟨0x0A, tag, .setShelfParam k value⟩ s) hsave)).trans ?_
    rw [applyParam_later hk, later_asked hk]
    rfl

end Sys2Proof.Machine
end

section
/-! PROOFS. A stored configuration that is loaded (R178; assumption log 23). -/
namespace Sys2Proof.Machine

/-! ### A list of values taken one by one -/

/-- A list of records taken one by one: each of them is written once, and the others are left. -/
theorem foldl_get {ι σ α : Type} [DecidableEq ι] {P : σ → Prop} {step : σ → ι → σ} {get : σ → ι → α} {f : ι → α → α}
    (hP : ∀ s i, P s → P (step s i)) (hget : ∀ s i j, P s → get (step s i) j = if i = j then f i (get s j) else get s j)
    {l : List ι} (hl : l.Nodup) {s : σ} (hs : P s) :
    P (l.foldl step s) ∧ ∀ j, get (l.foldl step s) j = if j ∈ l then f j (get s j) else get s j := by
  induction l generalizing s with
  | nil => exact ⟨hs, fun _ => rfl⟩
  | cons i l ih =>
    obtain ⟨hi, hl⟩ := List.nodup_cons.mp hl
    obtain ⟨hfold, hall⟩ := ih hl (hP s i hs)
    refine ⟨hfold, fun j => ?_⟩
    rw [List.foldl_cons, hall j, hget s i j hs]
    by_cases hij : i = j
    · subst hij
      simp [hi]
    · simp [hij, Ne.symm hij]

/-! ### What loading leaves alone -/

/-- Beside what a stored configuration is made of, and what follows from it in NORMAL, nothing has changed (R178). -/
def Loaded (s t : State) : Prop :=
  t = { s with
    trays := t.trays, run := t.run, budget := t.budget, bbus := t.bbus, notices := t.notices
    channels := t.channels, params := t.params, stagedScan := t.stagedScan, hli := t.hli
    mbc := { s.mbc with stagedPeriod := t.mbc.stagedPeriod }
    ilc := { s.ilc with lastR := t.ilc.lastR, lastTEst := t.ilc.lastTEst }
    store := { s.store with autoPending := t.store.autoPending } }

namespace Loaded
variable {s t u : State}

theorem refl (s : State) : Loaded s s := rfl

theorem normal (h : Loaded s t) (hn : s.ilc.state = .normal) : t.ilc.state = .normal :=
  ((congrArg (fun x : State => x.ilc.state) h).trans rfl).trans hn

/-- The changes of `u` made in `s`. -/
def carried (s u : State) : State :=
  { s with
    trays := u.trays, run := u.run, budget := u.budget, bbus := u.bbus, notices := u.notices
    channels := u.channels, params := u.params, stagedScan := u.stagedScan, hli := u.hli
    mbc := { s.mbc with stagedPeriod := u.mbc.stagedPeriod }
    ilc := { s.ilc with lastR := u.ilc.lastR, lastTEst := u.ilc.lastTEst }
    store := { s.store with autoPending := u.store.autoPending } }

theorem trans (h : Loaded s t) (k : Loaded t u) : Loaded s u := by
  calc u = carried t u := k
    _ = carried (carried s t) u := congrArg (fun x => carried x u) h
    _ = carried s u := rfl

theorem of_rack (h : t = withRackOf { s with ilc := t.ilc } t)
    (hi : t.ilc = { s.ilc with lastR := t.ilc.lastR, lastTEst := t.ilc.lastTEst }) : Loaded s t := by
  have hchannels : t.channels = s.channels := (congrArg State.channels h).trans rfl
  have hparams : t.params = s.params := (congrArg State.params h).trans rfl
  have hscan : t.stagedScan = s.stagedScan := (congrArg State.stagedScan h).trans rfl
  have hlink : t.hli = s.hli := (congrArg State.hli h).trans rfl
  have hmbc : t.mbc = s.mbc := (congrArg State.mbc h).trans rfl
  rw [Loaded, ← hi, hchannels, hparams, hscan, hlink, hmbc]
  exact h

theorem of_rackOnly (h : RackOnly s t) : Loaded s t := by
  have hilc := h.ilc
  refine .of_rack ?_ (by rw [hilc])
  rw [hilc]
  exact h.1

end Loaded

/-! ### The trays -/

/-- A tray's record with a configuration taken (R19). -/
def configuredTray (c : TrayConfig) (t : Tray) : Tray := if t.state = .off then { t with cfg := c, staged := none } else { t with staged := some c }

theorem applyTrayConfig_eq (i : TrayId) (c : TrayConfig) (s : State) : applyTrayConfig i c s = putTray i (configuredTray c s.trays[i]) s := by
  unfold applyTrayConfig configuredTray
  dsimp only
  split
  · rfl
  · rfl

theorem configuredTray_state (c : TrayConfig) (t : Tray) : (configuredTray c t).state = t.state := by
  unfold configuredTray
  split
  · rfl
  · rfl

/-- A part with some of its trays' configurations taken. -/
structure TraysTaken (s t : State) : Prop where
  loaded : Loaded s t
  states : ∀ i : TrayId, t.trays[i].state = s.trays[i].state
  run : t.run.state = s.run.state

theorem applyTrayConfig_get (i j : TrayId) (c : TrayConfig) (s : State) :
    (applyTrayConfig i c s).trays[j] = if i = j then configuredTray c s.trays[j] else s.trays[j] := by
  rw [applyTrayConfig_eq, putTray_get]
  split
  · next h => rw [h]
  · rfl

theorem applyTrayConfig_step (i : TrayId) (c : TrayConfig) {s0 s : State} (h : TraysTaken s0 s) : TraysTaken s0 (applyTrayConfig i c s) := by
  refine ⟨h.loaded.trans ?_, fun j => ?_, ?_⟩
  · rw [applyTrayConfig_eq]
    rfl
  · rw [applyTrayConfig_get]
    split
    · rw [configuredTray_state, h.states j]
    · exact h.states j
  · rw [applyTrayConfig_eq]
    exact h.run

/-- The trays' part of a load. -/
def loadTrays (w : WorkingConfig) (s : State) : State :=
  allTrays.foldl (fun s i => applyTrayConfig i (clampTrayConfig (rawOfTrayConfig w.trays[i])) s) s

theorem loadTrays_outcome (w : WorkingConfig) (s : State) :
    TraysTaken s (loadTrays w s) ∧
      ∀ i : TrayId, (loadTrays w s).trays[i] = configuredTray (clampTrayConfig (rawOfTrayConfig w.trays[i])) s.trays[i] := by
  obtain ⟨htaken, hget⟩ := foldl_get (P := TraysTaken s) (get := fun (x : State) (j : TrayId) => x.trays[j])
    (f := fun i => configuredTray (clampTrayConfig (rawOfTrayConfig w.trays[i])))
    (step := fun s i => applyTrayConfig i (clampTrayConfig (rawOfTrayConfig w.trays[i])) s)
    (fun x i hx => applyTrayConfig_step i _ hx) (fun x i j _ => applyTrayConfig_get i j _ x)
    allTrays_nodup (s := s) ⟨.refl s, fun _ => rfl, rfl⟩
  exact ⟨htaken, fun i => (hget i).trans (if_pos (mem_allTrays i))⟩

/-! ### The battery units -/

/-- The configuration of a unit: rated energy, largest charge and full energy. -/
def bbuConfig (u : Bbu) : Nat × Nat × Nat := (u.eRated, u.maxCharge, u.eFull)

theorem bbuConfig_grants {s t : State} (h : GrantsOnly s t) (b : BbuId) : bbuConfig t.bbus[b] = bbuConfig s.bbus[b] := by
  have hb := congrArg bbuConfig (h b)
  exact hb

/-- A part with some of its units' configurations taken. -/
structure BbusTaken (s t : State) : Prop where
  loaded : Loaded s t
  trays : t.trays = s.trays
  run : t.run = s.run

/-- With no run under way a unit's configuration is stored with its consequences for reserve and grants (R66, R70, R84). -/
theorem applyBbuConfig_calm (b : BbuId) (e m f : Nat) {s : State} (hn : s.ilc.state = .normal) (hr : s.run.state ≠ .running) :
    applyBbuConfig b e m f s =
      recomputeGrants (withHanded (putBbu b (configuredBbu e m (if f = 0 then s.bbus[b].eFull else f) s.bbus[b]) s)) := by
  rw [applyBbuConfig_eq]
  rcases reserveChanged_normal (s := putBbu b (configuredBbu e m (if f = 0 then s.bbus[b].eFull else f) s.bbus[b]) s) hn with h | h
  · rw [h]
  · rw [h, tell, evalStart_held]
    exact hr

theorem applyBbuConfig_step (b : BbuId) (e m f : Nat) {s0 s : State} (hn : s0.ilc.state = .normal) (hr : s0.run.state ≠ .running)
    (h : BbusTaken s0 s) : BbusTaken s0 (applyBbuConfig b e m f s) := by
  have hcalm := applyBbuConfig_calm b e m f (h.loaded.normal hn) (by rw [h.run]; exact hr)
  rw [hcalm]
  exact ⟨h.loaded.trans rfl, h.trays, h.run⟩

theorem applyBbuConfig_config (b c : BbuId) (e m : Nat) {f : Nat} (hf : f ≠ 0) (s : State) :
    bbuConfig (applyBbuConfig b e m f s).bbus[c] = if b = c then (e, m, f) else bbuConfig s.bbus[c] := by
  obtain ⟨-, hown, hothers, -, -⟩ := applyBbuConfig_outcome b e m f s _ rfl
  generalize applyBbuConfig b e m f s = t at *
  split
  · next h =>
    subst h
    have hconfig := congrArg bbuConfig hown
    rw [if_neg hf] at hconfig
    exact hconfig
  · next h =>
    have hconfig := congrArg bbuConfig (hothers c fun he => h he.symm)
    exact hconfig

/-- The battery units' part of a load. -/
def loadBbus (w : WorkingConfig) (s : State) : State :=
  allBbus.foldl
    (fun s b =>
      applyBbuConfig b (clamp 10000 4000000 w.bbus[b].eRated) (clamp 0 3000 w.bbus[b].maxCharge) (clamp 1000 4000000 w.bbus[b].eFull) s) s

theorem clamp_pos (n : Nat) : clamp 1000 4000000 n ≠ 0 := by
  unfold clamp
  omega

theorem loadBbus_outcome (w : WorkingConfig) {s : State} (hn : s.ilc.state = .normal) (hr : s.run.state ≠ .running) :
    BbusTaken s (loadBbus w s) ∧
      ∀ b : BbuId, bbuConfig (loadBbus w s).bbus[b] =
        (clamp 10000 4000000 w.bbus[b].eRated, clamp 0 3000 w.bbus[b].maxCharge, clamp 1000 4000000 w.bbus[b].eFull) := by
  obtain ⟨htaken, hget⟩ := foldl_get (P := BbusTaken s) (get := fun (x : State) (c : BbuId) => bbuConfig x.bbus[c])
    (f := fun b _ => (clamp 10000 4000000 w.bbus[b].eRated, clamp 0 3000 w.bbus[b].maxCharge, clamp 1000 4000000 w.bbus[b].eFull))
    (step := fun s b =>
      applyBbuConfig b (clamp 10000 4000000 w.bbus[b].eRated) (clamp 0 3000 w.bbus[b].maxCharge) (clamp 1000 4000000 w.bbus[b].eFull) s)
    (fun x b hx => applyBbuConfig_step b _ _ _ hn hr hx) (fun x b c _ => applyBbuConfig_config b c _ _ (clamp_pos _) x)
    allBbus_nodup (s := s) ⟨.refl s, rfl, rfl⟩
  exact ⟨htaken, fun b => (hget b).trans (if_pos (mem_allBbus b))⟩

end Sys2Proof.Machine
end

section
/-! PROOFS. LOAD-PROFILE: the obligation (R178; assumption log 23). -/
namespace Sys2Proof.Machine

/-! ### The leak channels -/

/-- A part with some of its leak channels' configurations taken. -/
structure ChannelsTaken (s t : State) : Prop where
  loaded : Loaded s t
  trays : t.trays = s.trays
  bbus : t.bbus = s.bbus

/-- The leak channels' part of a load, the LEAK lockouts aside. -/
def loadChannels (w : WorkingConfig) (s : State) : State :=
  allChannels.foldl (fun s c => applyChannelConfig c (clampChannelConfig w.channels[c]) s) s

theorem applyChannelConfig_cfg (c d : ChannelId) (g : ChannelConfig) (s : State) :
    (applyChannelConfig c g s).channels[d].cfg = if c = d then g else s.channels[d].cfg := by
  rw [applyChannelConfig, putChannel_get]
  split
  · exact configureChannel_cfg g _
  · rfl

theorem loadChannels_outcome (w : WorkingConfig) (s : State) :
    ChannelsTaken s (loadChannels w s) ∧ ∀ c : ChannelId, (loadChannels w s).channels[c].cfg = clampChannelConfig w.channels[c] := by
  obtain ⟨htaken, hget⟩ := foldl_get (P := ChannelsTaken s) (get := fun (x : State) (d : ChannelId) => x.channels[d].cfg)
    (f := fun c _ => clampChannelConfig w.channels[c]) (step := fun s c => applyChannelConfig c (clampChannelConfig w.channels[c]) s)
    (fun x c hx => ⟨hx.loaded.trans rfl, hx.trays, hx.bbus⟩) (fun x c d _ => applyChannelConfig_cfg c d _ x)
    (List.nodup_finRange _) (s := s) ⟨.refl s, rfl, rfl⟩
  exact ⟨htaken, fun c => (hget c).trans (if_pos (List.mem_finRange c))⟩

/-! ### What follows the configurations -/

/-- A step of a load that leaves the configurations of trays, units and channels alone. -/
structure LoadStep (s t : State) : Prop where
  loaded : Loaded s t
  config : SameConfig s t
  grants : GrantsOnly s t
  channels : t.channels = s.channels

theorem LoadStep.refl (s : State) : LoadStep s s := ⟨.refl s, .refl s, fun _ => rfl, rfl⟩

theorem LoadStep.trans {s t u : State} (h : LoadStep s t) (k : LoadStep t u) : LoadStep s u :=
  ⟨h.loaded.trans k.loaded, h.config.trans k.config, fun b => (k.grants b).trans (h.grants b), k.channels.trans h.channels⟩

theorem leakRecompute_step {s : State} (hn : s.ilc.state = .normal) (hq : NoneQueued s) : LoadStep s (leakRecompute s) := by
  have hside := leakRecompute_side s
  exact ⟨.of_rackOnly (.of_side hside), leakRecompute_sameConfig hn hq, hside.bbus, hside.channels⟩

theorem autoStartTest_step (s : State) : LoadStep s (autoStartTest s) := by
  have hside := autoStartTest_side s
  exact ⟨.of_rackOnly (.of_rackSide hside), autoStartTest_sameConfig s, hside.bbus, hside.channels⟩

theorem ParamTaken.step {k v : Nat} {s t : State} (h : ParamTaken k v s t) (hn : s.ilc.state = .normal) : LoadStep s t := by
  have hframe := h.frame
  have hilc := h.normal hn
  have hchannels : t.channels = s.channels := (congrArg State.channels hframe).trans rfl
  refine ⟨?_, h.config hn, h.grants, hchannels⟩
  rw [Loaded, ← hilc, hchannels]
  exact hframe

/-! ### The shelf parameters -/

/-- The shelf parameters' part of a load. -/
def loadParams (w : WorkingConfig) (s : State) : State :=
  (List.range 23).foldl (fun s k => applyParam k (paramClamp k (paramGet w.params k)) s) s

theorem loadParams_eq (w : WorkingConfig) (s : State) :
    loadParams w s = (List.finRange 23).foldl (fun s k => applyParam k.val (paramClamp k.val (paramGet w.params k.val)) s) s := by
  rw [loadParams, ← List.map_coe_finRange_eq_range, List.foldl_map]

theorem applyParam_working (k j : Fin 23) (v : Nat) (s : State) (hv : v ≤ (paramRange k).2) :
    workingParam (applyParam k v s) j = if k = j then v else workingParam s j := by
  obtain ⟨hself, hother⟩ := (applyParam_taken (Nat.le_of_lt_succ k.isLt) v s).working (Nat.le_of_lt_succ k.isLt) hv
  split
  · next h => rw [← h, hself]
  · next h => exact hother j (Nat.le_of_lt_succ j.isLt) fun he => h (Fin.ext he.symm)

theorem loadParams_outcome (w : WorkingConfig) {s : State} (hn : s.ilc.state = .normal) :
    LoadStep s (loadParams w s) ∧ ∀ k : Fin 23, workingParam (loadParams w s) k = paramClamp k (paramGet w.params k) := by
  obtain ⟨hstep, hget⟩ := foldl_get (P := LoadStep s) (get := fun (x : State) (j : Fin 23) => workingParam x j)
    (f := fun k _ => paramClamp k.val (paramGet w.params k.val))
    (step := fun s (k : Fin 23) => applyParam k.val (paramClamp k.val (paramGet w.params k.val)) s)
    (fun x k hx => hx.trans ((applyParam_taken (Nat.le_of_lt_succ k.isLt) _ x).step (hx.loaded.normal hn)))
    (fun x k j _ => applyParam_working k j _ x (paramClamp_le _ _)) (List.nodup_finRange 23) (s := s) (.refl s)
  rw [loadParams_eq]
  exact ⟨hstep, fun k => (hget k).trans (if_pos (List.mem_finRange k))⟩

theorem loadConfig_eq (w : WorkingConfig) (s : State) :
    loadConfig w s = autoStartTest (loadParams w (leakRecompute (loadChannels w (loadBbus w (loadTrays w s))))) := rfl

/-- The automatic run leaves the parameters alone. -/
theorem autoStartTest_working (s : State) (k : Nat) : workingParam (autoStartTest s) k = workingParam s k := by
  have hside := autoStartTest_side s
  unfold workingParam
  rw [hside.mbc, hside.params, hside.stagedScan]

/-! ### The whole load -/

/-- What a load comes to. -/
structure ConfigLoaded (w : WorkingConfig) (s t : State) : Prop where
  loaded : Loaded s t
  params : ∀ k : Fin 23, workingParam t k = paramClamp k (paramGet w.params k)
  trays : ∀ i : TrayId,
    t.trays[i].cfg = (configuredTray (clampTrayConfig (rawOfTrayConfig w.trays[i])) s.trays[i]).cfg ∧
      t.trays[i].staged = (configuredTray (clampTrayConfig (rawOfTrayConfig w.trays[i])) s.trays[i]).staged
  bbus : ∀ b : BbuId, bbuConfig t.bbus[b] =
    (clamp 10000 4000000 w.bbus[b].eRated, clamp 0 3000 w.bbus[b].maxCharge, clamp 1000 4000000 w.bbus[b].eFull)
  channels : ∀ c : ChannelId, t.channels[c].cfg = clampChannelConfig w.channels[c]

theorem loadConfig_loaded (w : WorkingConfig) {s : State} (hn : s.ilc.state = .normal) (hr : s.run.state ≠ .running) (hq : NoneQueued s) :
    ConfigLoaded w s (loadConfig w s) := by
  have htrays := loadTrays_outcome w s
  rw [loadConfig_eq]
  generalize loadTrays w s = s1 at *
  obtain ⟨h1, hrecords⟩ := htrays
  have hbbus := loadBbus_outcome w (h1.loaded.normal hn) (by rw [h1.run]; exact hr)
  generalize loadBbus w s1 = s2 at *
  obtain ⟨h2, hunits⟩ := hbbus
  have hchannels := loadChannels_outcome w s2
  generalize loadChannels w s2 = s3 at *
  obtain ⟨h3, hcfgs⟩ := hchannels
  have hloaded3 : Loaded s s3 := (h1.loaded.trans h2.loaded).trans h3.loaded
  have htrays3 : s3.trays = s1.trays := h3.trays.trans h2.trays
  have hq3 : NoneQueued s3 := fun i => by
    rw [htrays3, h1.states i]
    exact hq i
  have hleak := leakRecompute_step (hloaded3.normal hn) hq3
  generalize leakRecompute s3 = s4 at *
  have hparams := loadParams_outcome w ((hloaded3.trans hleak.loaded).normal hn)
  generalize loadParams w s4 = s5 at *
  obtain ⟨h5, hvalues⟩ := hparams
  have hauto := autoStartTest_step s5
  have hworking := autoStartTest_working s5
  generalize autoStartTest s5 = t at *
  have hstep : LoadStep s3 t := (hleak.trans h5).trans hauto
  refine ⟨hloaded3.trans hstep.loaded, fun k => (hworking k).trans (hvalues k), fun i => ?_, fun b => ?_, fun c => ?_⟩
  · rw [← hrecords i, ← htrays3]
    exact hstep.config i
  · rw [bbuConfig_grants hstep.grants, h3.bbus]
    exact hunits b
  · rw [hstep.channels]
    exact hcfgs c

/-! ### The obligation -/

/-- An IDLE run has no tray in its start queue. -/
theorem noneQueued_of_idle {s : State} (h : TrayLaw s) (hi : s.run.state = .idle) : NoneQueued s := fun i hq => by
  have hin : i ∈ s.run.startQueue := (h.1 i).2.2.1.mpr hq
  exact (h.2.2.2.1 (List.ne_nil_of_mem hin)).2 hi

theorem alarmCount_ne_zero {s : State} : alarmCount s ≠ 0 ↔ ∃ c : ChannelId, s.channels[c].state = .alarm := by
  constructor
  · intro h
    by_contra hno
    refine h (List.length_eq_zero_iff.mpr (List.filter_eq_nil_iff.mpr fun c _ hc => hno ⟨c, beq_iff_eq.mp hc⟩))
  · rintro ⟨c, hc⟩ h
    exact alarmCount_zero h c hc

section
variable {s : State}

theorem no_alarms {s : State} (ha : ∀ c : ChannelId, s.channels[c].state ≠ .alarm) : ¬ alarmCount s ≠ 0 := fun hc => by
  obtain ⟨c, hc⟩ := alarmCount_ne_zero.mp hc
  exact ha c hc

theorem answerLoadProfile_busy (h : s.store.saving ≠ none) : answerLoadProfile s = refuse .busy s := if_pos (saveInFlight_of_ne s h)

variable (h : s.store.saving = none)
include h

theorem answerLoadProfile_wrongState (hw : s.run.state ≠ .idle ∨ s.ilc.state ≠ .normal ∨ s.test.suspended = true) :
    answerLoadProfile s = refuse .wrongState s := by
  rw [answerLoadProfile, if_neg (Bool.eq_false_iff.mp (saveInFlight_of_none s h))]
  by_cases hrun : s.run.state ≠ .idle ∨ s.ilc.state ≠ .normal
  · rw [if_pos hrun]
  · obtain ⟨hi, hn⟩ := not_or.mp hrun
    rw [if_neg hrun, if_pos ((hw.resolve_left hi).resolve_left hn)]

variable (hi : s.run.state = .idle) (hn : s.ilc.state = .normal) (hs : s.test.suspended = false)
include hi hn hs

theorem answerLoadProfile_leak (ha : ∃ c : ChannelId, s.channels[c].state = .alarm) : answerLoadProfile s = refuse .leakActive s := by
  rw [answerLoadProfile, if_neg (Bool.eq_false_iff.mp (saveInFlight_of_none s h)), if_neg (fun hc => hc.elim (fun hne => hne hi) fun hne => hne hn),
    if_neg (Bool.eq_false_iff.mp hs), if_pos (alarmCount_ne_zero.mpr ha)]

variable (ha : ∀ c : ChannelId, s.channels[c].state ≠ .alarm)
include ha

theorem answerLoadProfile_invalid (hv : s.store.valid = false) : answerLoadProfile s = refuse .wrongState s := by
  rw [answerLoadProfile, if_neg (Bool.eq_false_iff.mp (saveInFlight_of_none s h)), if_neg (fun hc => hc.elim (fun hne => hne hi) fun hne => hne hn),
    if_neg (Bool.eq_false_iff.mp hs), if_neg (no_alarms ha), if_neg (Bool.eq_false_iff.mp hv)]

theorem answerLoadProfile_taken {img : StoredImage} (hv : s.store.valid = true) (himg : s.store.image = some img) :
    answerLoadProfile s = (.ack (profileClamped img.config) false, loadConfig img.config s) := by
  rw [answerLoadProfile, if_neg (Bool.eq_false_iff.mp (saveInFlight_of_none s h)), if_neg (fun hc => hc.elim (fun hne => hne hi) fun hne => hne hn),
    if_neg (Bool.eq_false_iff.mp hs), if_neg (no_alarms ha), if_pos hv, himg]

end

/-- Settles O25. -/
theorem loadProfile : Obligations.LoadProfile := by
  intro s tag img hready
  have hgo := fun {t a} (ha : answerBody .loadProfile s.hli.arm (asked ⟨0x08, tag, .loadProfile⟩ s) = (a, t)) =>
    request_of_answer (kind := 0x08) (tag := tag) hready ha
  refine ⟨fun hsave => hgo (answerLoadProfile_busy hsave), fun hsave hw => hgo (answerLoadProfile_wrongState hsave hw),
    fun hsave hi hn hs ha => hgo (answerLoadProfile_leak hsave hi hn hs ha), fun hsave hi hn hs ha hv => hgo (answerLoadProfile_invalid hsave hi hn hs ha hv),
    fun hsave hi hn hs ha hv himg hlaw => ?_⟩
  have hexec := hgo (answerLoadProfile_taken (s := asked ⟨0x08, tag, .loadProfile⟩ s) hsave hi hn hs ha hv himg)
  have hout := loadConfig_loaded img.config (s := asked ⟨0x08, tag, .loadProfile⟩ s) hn
    (fun hr => RunState.noConfusion (hi.symm.trans hr)) (noneQueued_of_idle hlaw hi)
  generalize loadConfig img.config (asked ⟨0x08, tag, .loadProfile⟩ s) = t at *
  have htrays : ∀ i : TrayId,
      t.trays[i].cfg = (configuredTray (clampTrayConfig (rawOfTrayConfig img.config.trays[i])) s.trays[i]).cfg ∧
        t.trays[i].staged = (configuredTray (clampTrayConfig (rawOfTrayConfig img.config.trays[i])) s.trays[i]).staged := hout.trays
  refine ⟨_, hexec, ?_, hout.params, fun i hoff => ?_, fun i hon => ?_, fun b => ?_, hout.channels, ?_⟩
  · exact congrArg some (congrArg (fun x : Byte × List Byte => ({ kind := x.1, tag := tag, payload := x.2 } : Reply)) (replyOf_ack 0x08 _))
  · have hcfg := htrays i
    rw [configuredTray, if_pos hoff] at hcfg
    exact hcfg
  · have hcfg := htrays i
    rw [configuredTray, if_neg hon] at hcfg
    exact hcfg
  · have hmax : clamp 0 3000 img.config.bbus[b].maxCharge = min 3000 img.config.bbus[b].maxCharge := by rw [clamp, Nat.zero_max]
    have hunit := hout.bbus b
    exact ⟨congrArg Prod.fst hunit, (congrArg (fun x : Nat × Nat × Nat => x.2.1) hunit).trans hmax,
      congrArg (fun x : Nat × Nat × Nat => x.2.2) hunit⟩
  · exact congrArg (replying ⟨0x08, tag, .loadProfile⟩ (.ack (profileClamped img.config) false)) hout.loaded

end Sys2Proof.Machine
end

section
/-! PROOFS. A frame is queued, and answered when it is taken: the obligation (R163 to R166). -/
namespace Sys2Proof.Machine

/-! ### Which frame holds ARM -/

/-- The request is ARM. -/
def isArm : RequestBody → Bool
  | .arm _ _ => true
  | _ => false

theorem isArm_other {b : RequestBody} (h : ∀ target channel, b ≠ .arm target channel) : isArm b = false := by
  unfold isArm
  split
  · exact absurd rfl (h _ _)
  · rfl

theorem isArm_bodyOfNone (p : List Byte) {b : RequestBody} (h : isArm b = false) : isArm (bodyOfNone p b) = false := by
  unfold bodyOfNone
  split
  · exact h
  · rfl

theorem isArm_bodyOfOne (p : List Byte) {f : Nat → RequestBody} (h : ∀ n, isArm (f n) = false) : isArm (bodyOfOne p f) = false := by
  unfold bodyOfOne
  split
  · exact h _
  · rfl

theorem isArm_bodyOfTwo (p : List Byte) {f : Nat → Nat → RequestBody} (h : ∀ m n, isArm (f m n) = false) : isArm (bodyOfTwo p f) = false := by
  unfold bodyOfTwo
  split
  · exact h _ _
  · rfl

theorem isArm_bodyOfSetParam (p : List Byte) : isArm (bodyOfSetParam p) = false := by
  unfold bodyOfSetParam
  split <;> rfl

theorem isArm_bodyOfSetTray (p : List Byte) : isArm (bodyOfSetTray p) = false := by
  unfold bodyOfSetTray
  split <;> rfl

theorem isArm_bodyOfSetBbu (p : List Byte) : isArm (bodyOfSetBbu p) = false := by
  unfold bodyOfSetBbu
  split <;> rfl

theorem isArm_bodyOfSetLeak (p : List Byte) : isArm (bodyOfSetLeak p) = false := by
  unfold bodyOfSetLeak
  split <;> rfl

/-- Only kind 3 makes an ARM (Message and Record Layouts). -/
theorem isArm_bodyOfKind {k : Nat} (hk : k ≠ 3) (p : List Byte) : isArm (bodyOfKind k p) = false := by
  unfold bodyOfKind
  split
  case h_3 => exact absurd rfl hk
  all_goals
    simp [isArm_bodyOfNone, isArm_bodyOfOne, isArm_bodyOfTwo, isArm_bodyOfSetParam, isArm_bodyOfSetTray, isArm_bodyOfSetBbu,
      isArm_bodyOfSetLeak, isArm_other]

theorem isArm_parseRequest {kind : Byte} (hk : kind ≠ 0x03) (payload : List Byte) (check : BitVec 16) :
    isArm (parseRequest kind payload check) = false := by
  unfold parseRequest
  split
  · refine isArm_bodyOfKind (fun h => hk ?_) payload
    exact BitVec.eq_of_toNat_eq h
  · rfl

/-! ### What the block of a request leaves of the link -/

/-- The block of a request leaves the receiver and the station alone, and the arm target unless the request is ARM (R165). -/
theorem answerBody_line (b : RequestBody) (armed : Option ArmTarget) (s : State) :
    (answerBody b armed s).2.hli.framer = s.hli.framer ∧ (answerBody b armed s).2.hli.inBreak = s.hli.inBreak ∧
      (answerBody b armed s).2.hli.station = s.hli.station ∧ (isArm b = false → (answerBody b armed s).2.hli.arm = s.hli.arm) := by
  by_cases ha : ∃ target channel, b = .arm target channel
  · obtain ⟨target, channel, rfl⟩ := ha
    obtain ⟨x, hx⟩ := answerArm_link target channel s
    have hlink : (answerBody (.arm target channel) armed s).2.hli = { s.hli with arm := x } := congrArg State.hli hx
    rw [hlink]
    exact ⟨rfl, rfl, rfl, fun h => Bool.noConfusion h⟩
  · have hstill := answerBody_linkStill b armed s fun target channel e => ha ⟨target, channel, e⟩
    exact ⟨hstill.framer, hstill.inBreak, hstill.station, fun _ => hstill.arm⟩

/-! ### The reply -/

/-- The reply is of one of three kinds: an ACK with its flags, the data of the request, or its refusal (R164). -/
theorem replyOf_kinds (kind : Byte) (a : Answer) :
    (((replyOf kind a).1 == 0x80 &&
        ((replyOf kind a).2.isEmpty || (replyOf kind a).2 == [1] || (replyOf kind a).2 == [2] || (replyOf kind a).2 == [3])) ||
      (replyOf kind a).1 == kind + 0x80 ||
      ((replyOf kind a).1 == 0xFF && (replyOf kind a).2.head? == some kind && (replyOf kind a).2.length == 2)) = true := by
  cases a with
  | ack clamped staged => cases clamped <;> cases staged <;> rfl
  | data payload =>
    have hkind : ((replyOf kind (.data payload)).1 == kind + 0x80) = true := beq_self_eq_true (kind + 0x80)
    rw [hkind, Bool.or_true, Bool.true_or]
  | refused code =>
    have hrefused : ((replyOf kind (.refused code)).1 == 0xFF && (replyOf kind (.refused code)).2.head? == some kind &&
        (replyOf kind (.refused code)).2.length == 2) = true := by simp [replyOf, le8]
    rw [hrefused, Bool.or_true]

/-! ### The obligation -/

theorem exec_receive {s : State} (h : s.held = none) (kind tag : Byte) (payload : List Byte) (check : BitVec 16) :
    exec (.hostFrameReceived kind tag payload check) s =
      .next (acceptRequest { kind := kind, tag := tag, body := parseRequest kind payload check } s) := awake_free _ h

/-- A queue of two drops the frame and counts it (R163). -/
theorem acceptRequest_full (r : Request) {s : State} (h : 2 ≤ s.hli.queue.length) :
    acceptRequest r s = { s with hli := { s.hli with
      framer := .hunt, inBreak := false, overruns := min 65535 (s.hli.overruns + 1), silence := silenceStart s.params.hostSilence } } :=
  if_neg (Nat.not_lt.mpr h)

/-- Behind another request, or a RESTART on its way, the frame waits (R163, R180). -/
theorem acceptRequest_waits (r : Request) {s : State} (h : s.hli.queue.length = 1 ∨ (s.hli.queue = [] ∧ s.store.restart ≠ .none)) :
    acceptRequest r s = { s with hli := { s.hli with
      framer := .hunt, inBreak := false, queue := s.hli.queue ++ [r], silence := silenceStart s.params.hostSilence } } := by
  have hroom : s.hli.queue.length < 2 := by
    rcases h with h | ⟨h, -⟩
    · omega
    · rw [h]
      decide
  have hwait : ¬ (s.hli.queue.isEmpty = true ∧ s.store.restart = .none) := fun ⟨hempty, hrestart⟩ => by
    rcases h with h | ⟨-, h⟩
    · rw [List.isEmpty_iff.mp hempty] at h
      exact absurd h (by decide)
    · exact h hrestart
  exact (if_pos hroom).trans (if_neg hwait)

/-- Settles O14. -/
theorem framesAreQueuedAndAnswered : Obligations.FramesAreQueuedAndAnswered := by
  intro s kind tag payload check hfree
  refine ⟨fun h => ?_, fun h => ?_, fun hqueue hrestart => ?_⟩
  · exact (exec_receive hfree kind tag payload check).trans (congrArg _ (acceptRequest_full _ h))
  · exact (exec_receive hfree kind tag payload check).trans (congrArg _ (acceptRequest_waits _ h))
  · have hready : Ready s := ⟨hfree, hqueue, hrestart⟩
    have harm := fun hk => isArm_parseRequest (kind := kind) hk payload check
    have hexec := (exec_receive hfree kind tag payload check).trans (congrArg _ (acceptRequest_of_ready _ s hready))
    generalize parseRequest kind payload check = b at *
    obtain ⟨hframer, hbreak, hstation, hkeeps⟩ := answerBody_line b s.hli.arm (asked ⟨kind, tag, b⟩ s)
    have htaken := answerBody_queue b s.hli.arm (asked ⟨kind, tag, b⟩ s)
    have hkinds := replyOf_kinds kind (answerBody b s.hli.arm (asked ⟨kind, tag, b⟩ s)).1
    refine ⟨_, hexec, congrArg List.length htaken, hframer, hbreak, hstation, fun hk => hkeeps (harm hk), ?_⟩
    exact Bool.and_eq_true_iff.mpr ⟨beq_self_eq_true tag, hkinds⟩

end Sys2Proof.Machine
end

section
/-! PROOFS. Charge grants go to units in CHARGING only: what keeps that (R84, R85). -/
namespace Sys2Proof.Machine

/-- A unit that is not CHARGING has no charge grant. -/
abbrev GrantsFit (s : State) : Prop := ∀ b : BbuId, s.bbus[b].state ≠ .charging → s.bbus[b].grant = 0

theorem GrantsFit.congr {s t : State} (h : GrantsFit s) (ht : t.bbus = s.bbus) : GrantsFit t := by
  rw [GrantsFit, ht]
  exact h

/-- Every distribution of the grants brings it about. -/
theorem recomputeGrants_fit (s : State) : GrantsFit (recomputeGrants s) := fun b hb => by
  have hstate : (recomputeGrants s).bbus[b].state = s.bbus[b].state := by
    have hget := congrArg Bbu.state (recomputeGrants_get b s)
    exact hget
  have hout : grantEligible s b = false :=
    Bool.eq_false_iff.mpr fun he => hb (hstate.trans ((grantEligible_iff s b).mp he).1)
  exact (congrArg Bbu.grant (recomputeGrants_ineligible hout)).trans rfl

theorem RackMove.grantsFit {s t : State} (h : RackMove s t) (hs : GrantsFit s) : GrantsFit t := by
  induction h with
  | refl s => exact hs
  | trans _ _ h k => exact k (h hs)
  | note k x v s => exact hs.congr (post_bbus _ _ _ _)
  | grants s => exact recomputeGrants_fit s
  | deficit a u s => exact hs
  | run r s => exact hs
  | tray i t s => exact hs
  | start i s => exact hs

/-! ### Runs and a new capacity -/

theorem createUp_fit (scope : Scope) (l : List TrayId) {s : State} (h : GrantsFit s) : GrantsFit (createUp scope l s) := by
  have hnew : GrantsFit (newUp scope s) := h
  rw [createUp_eq]
  exact (evalStart_move _).grantsFit (hnew.congr (joinAll_bbus _ _))

theorem autoStartTest_fit {s : State} (h : GrantsFit s) : GrantsFit (autoStartTest s) := by
  unfold autoStartTest
  split
  · exact createUp_fit _ _ h
  · exact h

theorem afterRoster_fit (s0 : State) {s : State} (h : GrantsFit s) : GrantsFit (afterRoster s0 s) := by
  unfold afterRoster
  split
  · exact autoStartTest_fit h
  · exact h

theorem recovery_fit (l : List TrayId) {s : State} (h : GrantsFit s) : GrantsFit (recovery l s) := by
  unfold recovery
  dsimp only
  split
  · exact h
  · split
    · exact createUp_fit _ _ h
    · exact h
    · exact (evalStart_move _).grantsFit (h.congr (joinAll_bbus _ _))

theorem clearShedOnRise_fit {s : State} (h : GrantsFit s) : GrantsFit (clearShedOnRise s) := by
  have hclear : GrantsFit (clearShed s) := h.congr (clearShed_bbus s)
  unfold clearShedOnRise
  generalize clearShed s = u at *
  exact recovery_fit _ hclear

theorem capacityFreed_fit (rise : Bool) {s : State} (h : GrantsFit s) : GrantsFit (capacityFreed rise s) := by
  unfold capacityFreed
  split
  · exact clearShedOnRise_fit h
  · exact h

theorem capacityEvaluated_fit (c : Nat) (s : State) : GrantsFit (capacityEvaluated c s) := by
  have hgrants : GrantsFit (withCapacity c s) := recomputeGrants_fit _
  unfold capacityEvaluated
  split
  · exact ((evalDeficit_move _).trans (seqAfter_move _ _)).grantsFit hgrants
  · exact hgrants

theorem capacityChanged_fit (c : Nat) (s : State) : GrantsFit (capacityChanged c s) := by
  have hfreed := capacityFreed_fit (decide (s.budget.c < c)) (capacityEvaluated_fit c s)
  rw [capacityChanged_eq]
  split
  · exact (tell_move _).grantsFit hfreed
  · exact hfreed

theorem rosterRecompute_fit (s0 : State) {s : State} (h : GrantsFit s) : GrantsFit (rosterRecompute s0 s) := by
  have hcap : GrantsFit (if capacityOf s.params.policy s.rects = s.budget.c then s
      else capacityChanged (capacityOf s.params.policy s.rects) s) := by
    split
    · exact h
    · exact capacityChanged_fit _ s
  unfold rosterRecompute
  dsimp only
  split
  · exact hcap
  · exact (tell_move _).grantsFit hcap

/-! ### The shelf power state and the reserve -/

theorem setShelf_fit (new : ShelfState) {s : State} (h : GrantsFit s) : GrantsFit (setShelf new s) := by
  have hin : GrantsFit { s with ilc := { s.ilc with state := new } } := h
  exact (setShelf_rackMove new s).grantsFit hin

theorem exhaustedPart_fit {s : State} (h : GrantsFit s) : GrantsFit (exhaustedPart s) := by
  have hset : GrantsFit (setShelf .exhausted { s with ilc := { s.ilc with restore := none } }) := setShelf_fit .exhausted h
  unfold exhaustedPart
  dsimp only
  generalize setShelf .exhausted { s with ilc := { s.ilc with restore := none } } = u at *
  exact ((shedSet_move _ u).grantsFit hset).congr (post_bbus _ _ _ _)

theorem enterRestoreHold_fit {s : State} (h : GrantsFit s) : GrantsFit (enterRestoreHold s) :=
  setShelf_fit .restoreHold (s := { s with ilc := { s.ilc with restore := some (s.params.restoreHold * 1000) } }) h

theorem enterExhausted_fit {s : State} (h : GrantsFit s) : GrantsFit (enterExhausted s) := by
  rw [enterExhausted_eq]
  split
  · exact exhaustedPart_fit h
  · exact enterRestoreHold_fit (exhaustedPart_fit h)

theorem evalRide_fit {s : State} (h : GrantsFit s) : GrantsFit (evalRide s) := by
  unfold evalRide evalStage
  dsimp only
  split
  · exact enterExhausted_fit h
  · split
    · rw [raiseStage_eq]
      have hstage : ∀ k, GrantsFit (withStage k s) := fun _ => h
      exact ((shedSet_move _ _).grantsFit (hstage _)).congr (post_bbus _ _ _ _)
    · exact h

theorem reserveChanged_fit {s : State} (h : GrantsFit s) : GrantsFit (reserveChanged s) := by
  have hstored : GrantsFit (withHanded s) := h
  have harrival : GrantsFit (tEstArrival s) := by
    rcases tEstArrival_cases s with he | he | he <;> rw [he]
    · exact evalRide_fit hstored
    · exact enterExhausted_fit hstored
    · exact hstored
  unfold reserveChanged
  dsimp only
  split
  · exact harrival
  · exact (tell_move _).grantsFit harrival

/-! ### IFAIL -/

theorem inputFlicker_fit {s : State} (h : GrantsFit s) : GrantsFit (inputFlicker s) :=
  evalRide_fit (setShelf_fit .rideThrough (s := { s with ilc := { s.ilc with ifail := true, restore := none } }) h)

theorem ifailAsserted_fit {s : State} (h : GrantsFit s) : GrantsFit (ifailAsserted s) := by
  unfold ifailAsserted
  split
  · exact setShelf_fit _ h
  · exact inputFlicker_fit h
  all_goals exact h

theorem sagRidden_fit {s : State} (h : GrantsFit s) : GrantsFit (sagRidden s) := by
  have hset : GrantsFit (setShelf .normal { s with ilc := sagOver s }) := setShelf_fit .normal h
  rw [sagRidden_eq]
  exact autoStartTest_fit (hset.congr (post_bbus _ _ _ _))

theorem ifailReleased_fit {s : State} (h : GrantsFit s) : GrantsFit (ifailReleased s) := by
  unfold ifailReleased
  split
  · exact sagRidden_fit h
  · exact enterRestoreHold_fit (s := { s with ilc := { s.ilc with ifail := false } }) h
  · exact enterRestoreHold_fit (s := { s with ilc := { s.ilc with ifail := false } }) h
  all_goals exact h

end Sys2Proof.Machine
end

section
/-! PROOFS. How the shelf power state follows a reserve that changes within a command (R92, R97, R99). -/
namespace Sys2Proof.Machine

/-- What changes of the reserve make of the input loss record: nothing but the reserve handed on in NORMAL and SAG-QUALIFY;
RIDE-THROUGH goes no further than EXHAUSTED, and RESTORE-HOLD stays (R92, R99). -/
structure ShelfSteady (a b : InputLoss) : Prop where
  ifail : b.ifail = a.ifail
  calm : a.state = .normal ∨ a.state = .sagQualify → b = { a with lastR := b.lastR, lastTEst := b.lastTEst }
  riding : a.ifail = true → a.state = .rideThrough ∨ a.state = .exhausted → b.state = .rideThrough ∨ b.state = .exhausted
  restoring : a.ifail = false → a.state = .restoreHold → b.state = .restoreHold

namespace ShelfSteady
variable {a b c : InputLoss}

theorem refl (a : InputLoss) : ShelfSteady a a := ⟨rfl, fun _ => rfl, fun _ h => h, fun _ h => h⟩

theorem of_eq (h : b = a) : ShelfSteady a b := h ▸ refl a

theorem state (h : ShelfSteady a b) (hs : a.state = .normal ∨ a.state = .sagQualify) : b.state = a.state :=
  (congrArg InputLoss.state (h.calm hs)).trans rfl

theorem trans (h : ShelfSteady a b) (k : ShelfSteady b c) : ShelfSteady a c where
  ifail := k.ifail.trans h.ifail
  calm hs := by
    have hb := h.calm hs
    have hc := k.calm (by rw [h.state hs]; exact hs)
    rw [hb] at hc
    exact hc
  riding hi hs := k.riding (h.ifail.trans hi) (h.riding hi hs)
  restoring hi hs := k.restoring (h.ifail.trans hi) (h.restoring hi hs)

/-- A record whose state is neither NORMAL nor SAG-QUALIFY, and that keeps IFAIL. -/
theorem of_away (hn : a.state ≠ .normal ∧ a.state ≠ .sagQualify) (hi : b.ifail = a.ifail)
    (hr : a.ifail = true → a.state = .rideThrough ∨ a.state = .exhausted → b.state = .rideThrough ∨ b.state = .exhausted)
    (hh : a.ifail = false → a.state = .restoreHold → b.state = .restoreHold) : ShelfSteady a b :=
  ⟨hi, fun hs => (hs.elim hn.1 hn.2).elim, hr, hh⟩

end ShelfSteady

/-! ### The reserve's turn -/

/-- Exhaustion ends in EXHAUSTED while IFAIL is asserted, and in RESTORE-HOLD otherwise (R99). -/
theorem enterExhausted_state (s : State) :
    (enterExhausted s).ilc.ifail = s.ilc.ifail ∧ (enterExhausted s).ilc.state = if s.ilc.ifail then .exhausted else .restoreHold := by
  have h := exhaustedPart_ilc s
  rw [enterExhausted_eq]
  generalize exhaustedPart s = u at *
  have hifail : u.ilc.ifail = s.ilc.ifail := by rw [h]
  split
  · next hi => exact ⟨hifail, by rw [if_pos (hifail.symm.trans hi), h]⟩
  · next hi => exact ⟨by rw [enterRestoreHold_ilc]; exact hifail, by rw [if_neg fun he => hi (hifail.trans he), enterRestoreHold_ilc]⟩

theorem enterExhausted_steady {s : State} (h : s.ilc.state = .rideThrough ∨ s.ilc.state = .restoreHold) :
    ShelfSteady s.ilc (enterExhausted s).ilc := by
  obtain ⟨hifail, hstate⟩ := enterExhausted_state s
  have hn : s.ilc.state ≠ .normal ∧ s.ilc.state ≠ .sagQualify := by
    rcases h with h | h <;> rw [h] <;> decide
  exact .of_away hn hifail (fun hi _ => Or.inr (hstate.trans (if_pos hi)))
    fun hi _ => hstate.trans (if_neg fun ht => Bool.false_ne_true (hi.symm.trans ht))

theorem evalRide_steady {s : State} (h : s.ilc.state = .rideThrough) : ShelfSteady s.ilc (evalRide s).ilc := by
  unfold evalRide evalStage
  dsimp only
  split
  · exact enterExhausted_steady (Or.inl h)
  · split
    · rw [raiseStage_ilc]
      exact .of_away (by rw [h]; decide) rfl (fun _ hr => hr) fun _ hr => hr
    · exact .refl _

theorem withHanded_steady (s : State) : ShelfSteady s.ilc (withHanded s).ilc :=
  ⟨rfl, fun _ => rfl, fun _ h => h, fun _ h => h⟩

theorem tEstArrival_steady (s : State) : ShelfSteady s.ilc (tEstArrival s).ilc := by
  have hstored := withHanded_steady s
  cases h : s.ilc.state with
  | rideThrough =>
    rw [tEstArrival_ride h]
    exact hstored.trans (evalRide_steady (s := withHanded s) h)
  | restoreHold =>
    rw [tEstArrival_restoreHold h]
    split
    · exact hstored.trans (enterExhausted_steady (s := withHanded s) (Or.inr h))
    · exact hstored
  | normal | sagQualify | exhausted =>
    rw [tEstArrival_stored (by rw [h]; decide)]
    exact hstored

theorem reserveChanged_steady (s : State) : ShelfSteady s.ilc (reserveChanged s).ilc := by
  rw [(reserveChanged_aftermath s).ilc]
  exact tEstArrival_steady s

/-! ### A battery slot's change while no test is active -/

theorem testHearsState_inactive {b : BbuId} {s : State} (h : s.testActive = false) : testHearsState b s = s :=
  if_neg (by rw [State.isTarget, h]; exact Bool.false_ne_true)

theorem ShelfOnly.testActive {s t : State} (h : ShelfOnly s t) : t.testActive = s.testActive := by
  rw [State.testActive, State.testActive, h.test]

theorem budgetTold_fit (s : State) : GrantsFit (budgetTold s) := by
  have hgrants : GrantsFit (refloored s) := recomputeGrants_fit _
  unfold budgetTold
  split
  · exact (tell_move _).grantsFit hgrants
  · exact hgrants

/-- What a change of a battery slot's state comes to while no test is active (R56, R58, R66). -/
structure BbuStored (b : BbuId) (u : Bbu) (s t : State) : Prop where
  only : ShelfOnly (putBbu b u s) t
  shelf : ShelfSteady s.ilc t.ilc
  present : ∀ i : TrayId, t.trays[i].present = s.trays[i].present
  fits : u.state ≠ .charging → u.grant = s.bbus[b].grant ∨ u.grant = 0 → GrantsFit s → GrantsFit t

/-- A record written over one in the same state leaves the grants fitting. -/
theorem putBbu_fit {b : BbuId} {u : Bbu} {s : State} (hstate : u.state = s.bbus[b].state) (hn : u.state ≠ .charging)
    (hgrant : u.grant = s.bbus[b].grant ∨ u.grant = 0) (h : GrantsFit s) : GrantsFit (putBbu b u s) := fun c hc => by
  rw [putBbu_get] at hc ⊢
  split at hc
  · next e =>
    rw [if_pos e]
    exact hgrant.elim (fun hg => hg.trans (h b (hstate ▸ hn))) id
  · next e =>
    rw [if_neg e]
    exact h c hc

theorem bbuStateChange_stored (b : BbuId) (u : Bbu) {s : State} (ha : s.testActive = false) : BbuStored b u s (bbuStateChange b u s) := by
  have hreserve := reserveChanged_shelf (putBbu b u s)
  have hsteady : ShelfSteady s.ilc (reserveChanged (putBbu b u s)).ilc := reserveChanged_steady (putBbu b u s)
  have hpresent := (bbuStateChange_move b u s).present
  have hfit := fun h => reserveChanged_fit (s := putBbu b u s) h
  have hinactive : (reserveChanged (putBbu b u s)).testActive = false := hreserve.testActive.trans ha
  unfold bbuStateChange at hpresent ⊢
  dsimp only at hpresent ⊢
  generalize reserveChanged (putBbu b u s) = y at *
  by_cases hs : u.state = s.bbus[b].state
  · rw [if_pos hs] at hpresent ⊢
    exact ⟨hreserve, hsteady, hpresent, fun hn hgrant h => hfit (putBbu_fit hs hn hgrant h)⟩
  · rw [if_neg hs] at hpresent ⊢
    have htold := (budgetTold_reported b y).only
    have hsame : reportBbuState b y = budgetTold y := by
      rw [reportBbuState_eq]
      exact testHearsState_inactive ((ShelfOnly.of_rackOnly htold).testActive.trans hinactive)
    rw [hsame] at hpresent ⊢
    exact ⟨hreserve.trans (.of_rackOnly htold), hsteady.trans (.of_eq htold.ilc), hpresent, fun _ _ _ => budgetTold_fit y⟩

end Sys2Proof.Machine
end

section
/-! PROOFS. The module presence inputs are reread (R32, R43, R51, R56). -/
namespace Sys2Proof.Machine

/-! ### The records of a module slot -/

/-- The record that the owner of a module slot keeps, without the charge grant of a battery slot. -/
def ownerRecord (s : State) (k : SlotId) : RectSlot ⊕ Bbu :=
  match slotOwner k with
  | .inl r => .inl s.rects[r]
  | .inr b => .inr { s.bbus[b] with grant := 0 }

/-- The owner's record written, by its kind. -/
def ownerRewrite (v : RectSlot → RectSlot) (u : Bbu → Bbu) (k : SlotId) (s : State) : State :=
  match slotOwner k with
  | .inl r => putRect r (v s.rects[r]) s
  | .inr b => putBbu b (u s.bbus[b]) s

theorem ownerRecord_rect (s : State) (r : RectId) : ownerRecord s (rectSlotNo r) = .inl s.rects[r] := by
  rw [ownerRecord, slotOwner_rectSlotNo]

theorem ownerRecord_bbu (s : State) (b : BbuId) : ownerRecord s (bbuSlotNo b) = .inr { s.bbus[b] with grant := 0 } := by
  rw [ownerRecord, slotOwner_bbuSlotNo]

theorem ownerRewrite_rect (v : RectSlot → RectSlot) (u : Bbu → Bbu) (r : RectId) (s : State) :
    ownerRewrite v u (rectSlotNo r) s = putRect r (v s.rects[r]) s := by
  rw [ownerRewrite, slotOwner_rectSlotNo]

theorem ownerRewrite_bbu (v : RectSlot → RectSlot) (u : Bbu → Bbu) (b : BbuId) (s : State) :
    ownerRewrite v u (bbuSlotNo b) s = putBbu b (u s.bbus[b]) s := by
  rw [ownerRewrite, slotOwner_bbuSlotNo]

theorem ownerRecord_congr {s t : State} (hr : t.rects = s.rects) (hg : GrantsOnly s t) (k : SlotId) : ownerRecord t k = ownerRecord s k := by
  rcases slot_cases k with ⟨r, rfl⟩ | ⟨b, rfl⟩
  · rw [ownerRecord_rect, ownerRecord_rect, hr]
  · rw [ownerRecord_bbu, ownerRecord_bbu]
    exact congrArg Sum.inr (hg b)

theorem ShelfOnly.ownerRecord {s t : State} (h : ShelfOnly s t) (k : SlotId) : ownerRecord t k = ownerRecord s k :=
  ownerRecord_congr ((RackOnly.rects h).trans rfl) h.2 k

/-- A rewriting of battery records that does not look at the grant. -/
abbrev GrantFree (u : Bbu → Bbu) : Prop := ∀ x : Bbu, ({ u x with grant := 0 } : Bbu) = { u { x with grant := 0 } with grant := 0 }

theorem ownerRewrite_record {v : RectSlot → RectSlot} {u : Bbu → Bbu} (hu : GrantFree u) (k j : SlotId) (s : State) :
    ownerRecord (ownerRewrite v u k s) j =
      if k = j then Sum.map v (fun x => { u x with grant := 0 }) (ownerRecord s j) else ownerRecord s j := by
  rcases slot_cases k with ⟨r, rfl⟩ | ⟨b, rfl⟩ <;> rcases slot_cases j with ⟨q, rfl⟩ | ⟨c, rfl⟩
  · rw [ownerRewrite_rect, ownerRecord_rect, ownerRecord_rect, putRect_get]
    by_cases h : r = q
    · subst h
      rw [if_pos rfl, if_pos rfl]
      rfl
    · rw [if_neg h, if_neg fun e => h (rectSlotNo_inj e)]
  · rw [ownerRewrite_rect, ownerRecord_bbu, ownerRecord_bbu, if_neg (rectSlotNo_ne_bbuSlotNo r c)]
    rfl
  · rw [ownerRewrite_bbu, ownerRecord_rect, ownerRecord_rect, if_neg fun e => rectSlotNo_ne_bbuSlotNo q b e.symm]
    rfl
  · rw [ownerRewrite_bbu, ownerRecord_bbu, ownerRecord_bbu, putBbu_get]
    by_cases h : b = c
    · subst h
      rw [if_pos rfl, if_pos rfl]
      exact congrArg Sum.inr (hu _)
    · rw [if_neg h, if_neg fun e => h (bbuSlotNo_inj e)]

/-! ### What the reread of one slot keeps -/

/-- Beside the rack, the bus, the rectifier slots and the shelf power state nothing has changed. -/
def ModuleFrame (s t : State) : Prop := t = withRackOf { s with mbc := t.mbc, rects := t.rects, ilc := t.ilc } t

theorem ModuleFrame.trans {s t u : State} (h : ModuleFrame s t) (k : ModuleFrame t u) : ModuleFrame s u := by
  unfold ModuleFrame at *
  generalize t.mbc = m at h
  generalize t.rects = r at h
  generalize t.ilc = i at h
  calc u = withRackOf { t with mbc := u.mbc, rects := u.rects, ilc := u.ilc } u := k
    _ = withRackOf { withRackOf { s with mbc := m, rects := r, ilc := i } t with mbc := u.mbc, rects := u.rects, ilc := u.ilc } u :=
      congrArg (fun x : State => withRackOf { x with mbc := u.mbc, rects := u.rects, ilc := u.ilc } u) h
    _ = withRackOf { s with mbc := u.mbc, rects := u.rects, ilc := u.ilc } u := rfl

theorem RackOnly.moduleFrame {s t : State} (h : RackOnly s t) : ModuleFrame s t := by
  have hframe := h.1
  rw [ModuleFrame, h.ilc, h.rects, h.mbc]
  exact hframe

/-- What rereads of module slots keep. -/
structure ModulesRead (s t : State) : Prop where
  frame : ModuleFrame s t
  shelf : ShelfSteady s.ilc t.ilc
  present : ∀ i : TrayId, t.trays[i].present = s.trays[i].present
  fits : GrantsFit s → GrantsFit t
  unpolled : ∀ j : SlotId, j ∉ s.mbc.schedule ∧ s.mbc.poll.map Poll.slot ≠ some j →
    j ∉ t.mbc.schedule ∧ t.mbc.poll.map Poll.slot ≠ some j

namespace ModulesRead
variable {s t u : State}

theorem refl (s : State) : ModulesRead s s := ⟨rfl, .refl _, fun _ => rfl, id, fun _ h => h⟩

theorem trans (h : ModulesRead s t) (k : ModulesRead t u) : ModulesRead s u where
  frame := h.frame.trans k.frame
  shelf := h.shelf.trans k.shelf
  present i := (k.present i).trans (h.present i)
  fits hs := k.fits (h.fits hs)
  unpolled j hj := k.unpolled j (h.unpolled j hj)

theorem testActive (h : ModulesRead s t) : t.testActive = s.testActive := by
  have htest : t.test = s.test := (congrArg State.test h.frame).trans rfl
  rw [State.testActive, State.testActive, htest]

/-- A step of the rack that leaves bus, rectifiers and the shelf power state as they are. -/
theorem of_rack (h : RackOnly s t) (hp : ∀ i : TrayId, t.trays[i].present = s.trays[i].present) (hf : GrantsFit s → GrantsFit t) :
    ModulesRead s t where
  frame := h.moduleFrame
  shelf := .of_eq h.ilc
  present := hp
  fits := hf
  unpolled j hj := by
    rw [h.mbc]
    exact hj

end ModulesRead

/-- The turn of a slot's owner, whose new record is not CHARGING. -/
structure OwnerStored (v : RectSlot → RectSlot) (u : Bbu → Bbu) (k : SlotId) (s t : State) : Prop where
  only : ShelfOnly (ownerRewrite v u k s) t
  read : ModulesRead s t

theorem OwnerStored.mbc {v : RectSlot → RectSlot} {u : Bbu → Bbu} {k : SlotId} {s t : State} (h : OwnerStored v u k s t) : t.mbc = s.mbc := by
  have hmbc : (ownerRewrite v u k s).mbc = s.mbc := by
    unfold ownerRewrite
    split <;> rfl
  exact ((congrArg State.mbc h.only.1).trans rfl).trans hmbc

theorem OwnerStored.of_rect {v : RectSlot → RectSlot} {u : Bbu → Bbu} (r : RectId) (s : State) :
    OwnerStored v u (rectSlotNo r) s (rosterRecompute s (putRect r (v s.rects[r]) s)) := by
  have hput : ModulesRead s (putRect r (v s.rects[r]) s) := ⟨rfl, .refl _, fun _ => rfl, id, fun _ h => h⟩
  have hget := ownerRewrite_rect v u r s
  generalize putRect r (v s.rects[r]) s = x at *
  have honly := (rosterRecompute_paced s x).only
  refine ⟨?_, hput.trans (.of_rack honly (rosterRecompute_move s x).present (rosterRecompute_fit s))⟩
  rw [hget]
  exact .of_rackOnly honly

theorem OwnerStored.of_bbu {v : RectSlot → RectSlot} {u : Bbu → Bbu} (hn : ∀ x, (u x).state ≠ .charging)
    (hg : ∀ x, (u x).grant = x.grant ∨ (u x).grant = 0) (b : BbuId) {s : State} (ha : s.testActive = false) :
    OwnerStored v u (bbuSlotNo b) s (bbuStateChange b (u s.bbus[b]) s) := by
  have hstored := bbuStateChange_stored b (u s.bbus[b]) ha
  generalize bbuStateChange b (u s.bbus[b]) s = t at *
  have hframe : t = withRackOf { s with ilc := t.ilc } t := by
    have h := hstored.only.1
    exact h
  have hmbc : t.mbc = s.mbc := (congrArg State.mbc hframe).trans rfl
  have hrects : t.rects = s.rects := (congrArg State.rects hframe).trans rfl
  refine ⟨?_, ⟨?_, hstored.shelf, hstored.present, hstored.fits (hn _) (hg _), fun j hj => by rw [hmbc]; exact hj⟩⟩
  · rw [ownerRewrite_bbu]
    exact hstored.only
  · rw [ModuleFrame, hmbc, hrects]
    exact hframe

theorem ownerEmptied_stored (k : SlotId) {s : State} (ha : s.testActive = false) :
    OwnerStored emptyRect emptyBbu k s (ownerEmptied k s) := by
  rcases slot_cases k with ⟨r, rfl⟩ | ⟨b, rfl⟩
  · rw [ownerEmptied, slotOwner_rectSlotNo]
    exact .of_rect r s
  · rw [ownerEmptied, slotOwner_bbuSlotNo]
    exact .of_bbu (u := emptyBbu) (fun _ h => BbuState.noConfusion h) (fun _ => Or.inr rfl) b ha

theorem ownerFitted_stored (k : SlotId) {s : State} (ha : s.testActive = false) :
    OwnerStored fittedRect fittedBbu k s (ownerFitted k s) := by
  rcases slot_cases k with ⟨r, rfl⟩ | ⟨b, rfl⟩
  · rw [ownerFitted, slotOwner_rectSlotNo]
    exact .of_rect r s
  · rw [ownerFitted, slotOwner_bbuSlotNo]
    exact .of_bbu (u := fittedBbu) (fun _ h => BbuState.noConfusion h) (fun _ => Or.inl rfl) b ha

/-! ### One slot -/

/-- The bus record of a slot and the record of its owner. -/
def moduleRecord (s : State) (k : SlotId) : ModuleSlot × (RectSlot ⊕ Bbu) := (s.mbc.slots[k], ownerRecord s k)

/-- The two records after the slot's presence has been reread at a level (R32, R51). -/
def rereadRecord (level : Bool) (x : ModuleSlot × (RectSlot ⊕ Bbu)) : ModuleSlot × (RectSlot ⊕ Bbu) :=
  if x.1.present && !level then (freshSlot false, Sum.map emptyRect (fun u => { emptyBbu u with grant := 0 }) x.2)
  else if !x.1.present && level then (freshSlot true, Sum.map fittedRect (fun u => { fittedBbu u with grant := 0 }) x.2)
  else x

/-- One module presence input is reread (R51). -/
def rereadModule (k : SlotId) (s : State) : State :=
  if s.mbc.slots[k].present && !s.pins.modulePresent[k] then moduleReleased k s
  else if !s.mbc.slots[k].present && s.pins.modulePresent[k] then moduleAsserted k s
  else s

theorem rereadModules_eq (s : State) : rereadModules s = allSlots.foldl (fun s k => rereadModule k s) s := rfl

/-- A slot's record written on the bus, then its owner's turn. -/
theorem OwnerStored.record {v : RectSlot → RectSlot} {u : Bbu → Bbu} (hu : GrantFree u) {k : SlotId} {x : ModuleSlot} {s y t : State}
    (hslots : y.mbc.slots = s.mbc.slots.set k x) (howner : ∀ j, ownerRecord y j = ownerRecord s j) (h : OwnerStored v u k y t) (j : SlotId) :
    moduleRecord t j =
      if k = j then (x, Sum.map v (fun w => { u w with grant := 0 }) (moduleRecord s j).2) else moduleRecord s j := by
  have hslot : t.mbc.slots[j] = if k = j then x else s.mbc.slots[j] := by
    rw [h.mbc, hslots]
    exact vector_set_get _ _ _ _
  have hrecord : ownerRecord t j = if k = j then Sum.map v (fun w => { u w with grant := 0 }) (ownerRecord s j) else ownerRecord s j := by
    rw [h.only.ownerRecord, ownerRewrite_record hu, howner]
  rw [moduleRecord, hslot, hrecord]
  split <;> rfl

/-- A change of the bus record that polls no slot anew. -/
theorem ModulesRead.of_bus {s x : State} (h : x = { s with mbc := x.mbc })
    (hunpolled : ∀ j : SlotId, j ∉ s.mbc.schedule ∧ s.mbc.poll.map Poll.slot ≠ some j →
      j ∉ x.mbc.schedule ∧ x.mbc.poll.map Poll.slot ≠ some j) : ModulesRead s x := by
  obtain ⟨m, rfl⟩ : ∃ m, x = { s with mbc := m } := ⟨_, h⟩
  exact ⟨rfl, .refl _, fun _ => rfl, id, hunpolled⟩

theorem unpolled_schedule (k : SlotId) (s : State) (j : SlotId) (h : j ∉ s.mbc.schedule ∧ s.mbc.poll.map Poll.slot ≠ some j) :
    j ∉ (unpolled k s).mbc.schedule ∧ (unpolled k s).mbc.poll.map Poll.slot ≠ some j := by
  have hout : j ∉ (unscheduled k s).mbc.schedule := fun hm => h.1 (List.mem_filter.mp hm).1
  unfold unpolled
  split
  · obtain ⟨hpoll, hschedule⟩ := nextPoll_poll (unscheduled k s)
    rw [hpoll, hschedule]
    exact ⟨fun hm => hout (List.mem_of_mem_tail hm), fun hm => hout (List.mem_of_mem_head? hm)⟩
  · exact ⟨hout, h.2⟩

theorem unpolled_read (k : SlotId) (s : State) : ModulesRead s (unpolled k s) :=
  .of_bus (unpolled_outcome k s).frame (unpolled_schedule k s)

theorem afterRoster_read (s0 s : State) : ModulesRead s (afterRoster s0 s) :=
  .of_rack (afterRoster_paced s0 s).only (afterRoster_move s0 s).present (afterRoster_fit s0)

/-- A module found gone (R32, R43, R51, R56). -/
theorem moduleReleased_read (k : SlotId) {s : State} (ha : s.testActive = false) :
    ModulesRead s (moduleReleased k s) ∧ ∀ j, moduleRecord (moduleReleased k s) j =
      if k = j then (freshSlot false, Sum.map emptyRect (fun u => { emptyBbu u with grant := 0 }) (moduleRecord s j).2)
      else moduleRecord s j := by
  have hread := unpolled_read k s
  have hbus := unpolled_outcome k s
  rw [moduleReleased_eq]
  generalize unpolled k s = x at *
  have hstored := ownerEmptied_stored k (s := x) (hread.testActive.trans ha)
  have howner : ∀ j, ownerRecord x j = ownerRecord s j := fun j => by
    obtain ⟨m, rfl⟩ : ∃ m, x = { s with mbc := m } := ⟨_, hbus.frame⟩
    rfl
  have hrecord := OwnerStored.record (u := emptyBbu) (fun _ => rfl) hbus.slots howner hstored
  generalize ownerEmptied k x = y at *
  have hafter := afterRoster_read s y
  have honly := (afterRoster_paced s y).only
  generalize afterRoster s y = t at *
  refine ⟨(hread.trans hstored.read).trans hafter, fun j => ?_⟩
  rw [← hrecord j, moduleRecord, moduleRecord, (ShelfOnly.of_rackOnly honly).ownerRecord, honly.mbc]

/-- A module found newly fitted (R32, R43, R51, R56). -/
theorem moduleAsserted_read (k : SlotId) {s : State} (ha : s.testActive = false) (hp : s.mbc.slots[k].present = false) :
    ModulesRead s (moduleAsserted k s) ∧ ∀ j, moduleRecord (moduleAsserted k s) j =
      if k = j then (freshSlot true, Sum.map fittedRect (fun u => { fittedBbu u with grant := 0 }) (moduleRecord s j).2)
      else moduleRecord s j := by
  have hput : ModulesRead s (putSlot k (freshSlot true) s) := .of_bus rfl fun _ h => h
  have hfit : moduleAsserted k s = ownerFitted k (putSlot k (freshSlot true) s) := if_neg (by rw [hp]; exact Bool.false_ne_true)
  have hstored := ownerFitted_stored k (s := putSlot k (freshSlot true) s) ha
  rw [hfit]
  exact ⟨hput.trans hstored.read, OwnerStored.record (s := s) (u := fittedBbu) (fun _ => rfl) (x := freshSlot true) (by rfl) (fun _ => by rfl) hstored⟩

theorem rereadRecord_gone {x : ModuleSlot × (RectSlot ⊕ Bbu)} (h : x.1.present = true) :
    rereadRecord false x = (freshSlot false, Sum.map emptyRect (fun u => { emptyBbu u with grant := 0 }) x.2) :=
  if_pos (by rw [h]; rfl)

theorem rereadRecord_fitted {x : ModuleSlot × (RectSlot ⊕ Bbu)} (h : x.1.present = false) :
    rereadRecord true x = (freshSlot true, Sum.map fittedRect (fun u => { fittedBbu u with grant := 0 }) x.2) :=
  (if_neg (by rw [h]; exact Bool.false_ne_true)).trans (if_pos (by rw [h]; rfl))

theorem rereadRecord_same {level : Bool} {x : ModuleSlot × (RectSlot ⊕ Bbu)} (h : x.1.present = level) : rereadRecord level x = x := by
  rw [rereadRecord, h]
  cases level <;> rfl

theorem rereadModule_gone {k : SlotId} {s : State} (hp : s.mbc.slots[k].present = true) (hl : s.pins.modulePresent[k] = false) :
    rereadModule k s = moduleReleased k s := if_pos (by rw [hp, hl]; rfl)

theorem rereadModule_fitted {k : SlotId} {s : State} (hp : s.mbc.slots[k].present = false) (hl : s.pins.modulePresent[k] = true) :
    rereadModule k s = moduleAsserted k s :=
  (if_neg (by rw [hp, hl]; exact Bool.false_ne_true)).trans (if_pos (by rw [hp, hl]; rfl))

theorem rereadModule_same {k : SlotId} {s : State} (h : s.mbc.slots[k].present = s.pins.modulePresent[k]) : rereadModule k s = s := by
  rw [rereadModule, h]
  cases s.pins.modulePresent[k] <;> rfl

theorem rereadModule_read (k : SlotId) {s : State} (ha : s.testActive = false) :
    ModulesRead s (rereadModule k s) ∧ ∀ j, moduleRecord (rereadModule k s) j =
      if k = j then rereadRecord s.pins.modulePresent[k] (moduleRecord s j) else moduleRecord s j := by
  by_cases hsame : s.mbc.slots[k].present = s.pins.modulePresent[k]
  · rw [rereadModule_same hsame]
    refine ⟨.refl s, fun j => ?_⟩
    split
    · next e => subst e; exact (rereadRecord_same hsame).symm
    · rfl
  · cases hl : s.pins.modulePresent[k] with
    | true =>
      have hp : s.mbc.slots[k].present = false := Bool.eq_false_iff.mpr fun hp => hsame (hp.trans hl.symm)
      obtain ⟨hread, hrecord⟩ := moduleAsserted_read k ha hp
      rw [rereadModule_fitted hp hl]
      refine ⟨hread, fun j => (hrecord j).trans ?_⟩
      split
      · next e => subst e; exact (rereadRecord_fitted hp).symm
      · rfl
    | false =>
      have hp : s.mbc.slots[k].present = true := Bool.eq_true_of_not_eq_false fun hp => hsame (hp.trans hl.symm)
      obtain ⟨hread, hrecord⟩ := moduleReleased_read k ha
      rw [rereadModule_gone hp hl]
      refine ⟨hread, fun j => (hrecord j).trans ?_⟩
      split
      · next e => subst e; exact (rereadRecord_gone hp).symm
      · rfl

/-! ### All of them -/

theorem allSlots_nodup : allSlots.Nodup := List.nodup_finRange 12

/-- The reread of the module presence inputs while no test is active (R51). -/
theorem rereadModules_read {s : State} (ha : s.testActive = false) :
    ModulesRead s (rereadModules s) ∧ ∀ k, moduleRecord (rereadModules s) k = rereadRecord s.pins.modulePresent[k] (moduleRecord s k) := by
  have hpins : ∀ {t : State}, ModulesRead s t → t.pins = s.pins := fun h => (congrArg State.pins h.frame).trans rfl
  obtain ⟨hread, hall⟩ := foldl_get (P := ModulesRead s) (step := fun t k => rereadModule k t) (get := moduleRecord)
    (f := fun k => rereadRecord s.pins.modulePresent[k])
    (fun t k h => h.trans (rereadModule_read k (h.testActive.trans ha)).1)
    (fun t k j h => by rw [(rereadModule_read k (h.testActive.trans ha)).2 j, hpins h])
    allSlots_nodup (.refl s)
  exact ⟨hread, fun k => (hall k).trans (if_pos (mem_allSlots k))⟩

/-- With every module as recorded the reread finds nothing (R51). -/
theorem rereadModules_same {s : State} (h : ∀ k : SlotId, s.mbc.slots[k].present = s.pins.modulePresent[k]) : rereadModules s = s := by
  rw [rereadModules_eq]
  exact List.foldl_fixed' (fun k => rereadModule_same (h k)) allSlots

end Sys2Proof.Machine
end

section
/-! PROOFS. What a warm reset makes of the part before it rereads the pins (R29, R51, R73, R91, R107, R127, R146, R159, R169,
R170, R179). -/
namespace Sys2Proof.Machine

/-! ### The records restarted -/

/-- The notices of a warm reset: RESET, and TEST-DONE for a test that it aborts (R156, R159, R170). -/
def warmRecords (k : ResetKind) (s : State) : List Notice :=
  { kind := .reset, subject := none, value := some (resetKindCode k), time := s.time } ::
    (if s.testActive then [{ kind := .testDone, subject := s.targetSlot, value := some 5, time := s.time }] else [])

/-- The module bus before the new cycle starts (R51). -/
def warmedBus (s : State) : ModuleBus :=
  { slots := Vector.ofFn fun j => { s.mbc.slots[j] with missCount := 0 }
    schedule := [], poll := none, driver := false, framer := .hunt, tag := 0, stagedPeriod := none, nextCycle := s.time
    rosterReady := false }

/-- The input loss record with its running timers at their full lengths (R107). -/
def warmedShelf (p : Params) (x : InputLoss) : InputLoss :=
  { x with qualify := x.qualify.map fun _ => p.qualifyTime, restore := x.restore.map fun _ => p.restoreHold * 1000 }

/-- The run record with a run that goes on or is held suspended (R127). -/
def warmedRun (p : Params) (x : RunRecord) : RunRecord :=
  { x with
    state := if x.state = .running ∨ x.state = .held then .suspended else x.state, blocked := none
    startSpacing := spacingStart p.startSpacing, stopSpacing := spacingStart p.stopSpacing }

/-- The loop records with their running travel timers at their full length (R146). -/
def warmedLoops (p : Params) (x : Vector Loop 4) : Vector Loop 4 :=
  Vector.ofFn fun l => { x[l] with travel := x[l].travel.map fun _ => p.valveTravel * 1000 }

/-- The test record with an active test aborted (R159). -/
def warmedTest (s : State) : TestRecord := if s.testActive then abortedTest .reset s.test else s.test

theorem warmedTest_inactive {s : State} (h : s.testActive = false) : warmedTest s = s.test := if_neg (Bool.eq_false_iff.mp h)

theorem warmedTest_active {s : State} (h : s.testActive = true) : warmedTest s = abortedTest .reset s.test := if_pos h

/-- The store's record of a warm reset (R177, R179 to R181). -/
def warmedStore (k : ResetKind) (x : ProfileStore) : ProfileStore :=
  { x with saving := none, autoPending := false, restart := .none, lastReset := k, warmCount := min 255 (x.warmCount + 1) }

/-- The parameters with those in force that were staged (R51, R146). -/
def warmedParams (s : State) : Params :=
  { s.params with period := s.mbc.stagedPeriod.getD s.params.period, scanInterval := s.stagedScan.getD s.params.scanInterval }

/-- The part once a warm reset has restarted its records, before the reserve is handed on. -/
def warmed (k : ResetKind) (s : State) : State :=
  { s with
    trays := s.trays.map restartTimer
    mbc := warmedBus s
    bbus := Vector.ofFn fun b => { s.bbus[b] with testPower := if s.isTarget b then 0 else s.bbus[b].testPower }
    budget := { s.budget with deficitActive := false, deficitUnresolved := false }
    ilc := warmedShelf s.params s.ilc
    run := warmedRun s.params s.run
    loops := warmedLoops s.params s.loops
    stagedScan := none
    nextScan := s.time
    test := warmedTest s
    hli := freshHostLink s.pins.addr s.pins.rate s.params.hostSilence
    notices := { records := warmRecords k s, lost := 0 }
    store := warmedStore k s.store
    params := warmedParams s }

/-- The run rests: it is neither RUNNING nor HELD. -/
abbrev RunRests (s : State) : Prop := s.run.state ≠ .running ∧ s.run.state ≠ .held

theorem warmed_rests (k : ResetKind) (s : State) : RunRests (warmed k s) := by
  have hstate : (warmed k s).run.state = if s.run.state = .running ∨ s.run.state = .held then .suspended else s.run.state := rfl
  rw [RunRests, hstate]
  by_cases h : s.run.state = .running ∨ s.run.state = .held
  · rw [if_pos h]
    decide
  · rw [if_neg h]
    exact not_or.mp h

theorem warmed_tray (k : ResetKind) (s : State) (i : TrayId) : (warmed k s).trays[i] = restartTimer s.trays[i] := by
  simp [warmed, Fin.getElem_fin]

theorem warmed_bbu (k : ResetKind) (s : State) (b : BbuId) :
    (warmed k s).bbus[b] = { s.bbus[b] with testPower := if s.isTarget b then 0 else s.bbus[b].testPower } := by
  simp [warmed, Fin.getElem_fin]

theorem warmed_loop (k : ResetKind) (s : State) (l : LoopId) :
    (warmed k s).loops[l] = { s.loops[l] with travel := s.loops[l].travel.map fun _ => s.params.valveTravel * 1000 } := by
  simp [warmed, warmedLoops, Fin.getElem_fin]

theorem warmed_slot (k : ResetKind) (s : State) (j : SlotId) : (warmed k s).mbc.slots[j] = { s.mbc.slots[j] with missCount := 0 } := by
  simp [warmed, warmedBus, Fin.getElem_fin]

theorem warmed_testActive (k : ResetKind) (s : State) : (warmed k s).testActive = false := by
  have htest : (warmed k s).test = warmedTest s := rfl
  rw [State.testActive, htest]
  cases ha : s.testActive with
  | true =>
    rw [warmedTest_active ha]
    rfl
  | false =>
    rw [warmedTest_inactive ha]
    exact ha

/-! ### The steps up to the reserve -/

/-- The fresh notices, store and link of a warm reset. -/
def warmFresh (k : ResetKind) (s : State) : State := warmLink (warmStore k (warmNotices k s))

/-- What follows the abort of the test, up to the reserve. -/
def warmRestart (s : State) : State := setDeficit false false (warmScan (warmBus (warmTimers (warmRun s))))

theorem warmStart_steps (k : ResetKind) (s : State) :
    warmStart k s = startCycle (recomputeGrants (recomputeFloor (reserveChanged (warmRestart (abortTest .reset (warmFresh k s)))))) := rfl

/-- Of the records only charge grants differ. -/
abbrev GrantsMoved (s t : State) : Prop := t = { s with bbus := t.bbus } ∧ GrantsOnly s t

/-- The abort of a test, on a notice queue with room (R156, R159). -/
theorem abortTest_fresh {s : State} {n : Notice} (htarget : s.testActive = true → s.test.target.isSome)
    (hn : s.notices = { records := [n], lost := 0 }) :
    abortTest .reset s =
        { s with
          test := warmedTest s
          bbus := (abortTest .reset s).bbus
          notices :=
            { records := n ::
                (if s.testActive then [{ kind := .testDone, subject := s.targetSlot, value := some 5, time := s.time }] else [])
              lost := 0 } } ∧
      ∀ b : BbuId, { (abortTest .reset s).bbus[b] with grant := 0 } =
        { s.bbus[b] with grant := 0, testPower := if s.isTarget b then 0 else s.bbus[b].testPower } := by
  cases ha : s.testActive with
  | false =>
    have hid : abortTest .reset s = s := if_neg (Bool.eq_false_iff.mp ha)
    rw [hid]
    refine ⟨?_, fun b => ?_⟩
    · rw [warmedTest_inactive ha, if_neg Bool.false_ne_true, ← hn]
    · rw [State.isTarget, ha, Bool.false_and, if_neg Bool.false_ne_true]
  | true =>
    obtain ⟨b, hb⟩ := Option.isSome_iff_exists.mp (htarget ha)
    obtain ⟨hframe, htest, hunits, -⟩ := abortTest_outcome (why := .reset) ha hb
    have hnotices : (abortTest .reset s).notices =
        { records := [n, { kind := .testDone, subject := s.targetSlot, value := some 5, time := s.time }], lost := 0 } := by
      rw [abortTest_active ha hb, targetSlot_target hb]
      split
      all_goals
        rw [post_room (by simp [withTestEnded, hn])]
        simp [withNotices, noteNow, withTestEnded, hn, testOutcomeCode]
    generalize abortTest .reset s = t at *
    refine ⟨?_, fun c => (hunits c).trans ?_⟩
    · rw [if_pos rfl, warmedTest_active ha, ← htest, ← hnotices]
      exact hframe
    · have htarget : s.isTarget c = true ↔ c = b := by
        rw [isTarget_iff, hb]
        exact ⟨fun h => (Option.some.inj h.2).symm, fun h => ⟨ha, congrArg some h.symm⟩⟩
      by_cases hc : c = b
      · rw [if_pos hc, if_pos (htarget.mpr hc)]
      · rw [if_neg hc, if_neg fun h => hc (htarget.mp h)]

/-- The notice queue of a warm reset holds RESET alone (R170). -/
theorem warmNotices_eq (k : ResetKind) (s : State) :
    warmNotices k s = { s with notices := { records := [noteNow s .reset none (some (resetKindCode k))], lost := 0 } } :=
  post_room (s := { s with notices := { records := [], lost := 0 } }) (Nat.zero_lt_succ 31)

theorem warmFresh_eq (k : ResetKind) (s : State) :
    warmFresh k s =
      { s with
        hli := (warmed k s).hli
        store := (warmed k s).store
        notices := { records := [noteNow s .reset none (some (resetKindCode k))], lost := 0 } } := by
  rw [warmFresh, warmNotices_eq]
  rfl

/-- What restarts the records of trays, bus, shelf, run and loops. -/
theorem warmRestart_eq (s : State) :
    warmRestart s =
      { s with
        trays := s.trays.map restartTimer
        mbc := warmedBus s
        budget := { s.budget with deficitActive := false, deficitUnresolved := false }
        ilc := warmedShelf s.params s.ilc
        run := warmedRun s.params s.run
        loops := warmedLoops s.params s.loops
        stagedScan := none
        nextScan := s.time
        params := warmedParams s } := by
  have htrays : (Vector.ofFn fun i => restartTimer s.trays[i]) = s.trays.map restartTimer := Vector.ext fun i hi => by simp
  simp only [warmRestart, setDeficit, warmScan, warmBus, setBus, warmTimers, warmRun, ← htrays]
  rfl

/-- Before the reserve is handed on, the records are the restarted ones but for the grants. -/
theorem warmRestart_warmed (k : ResetKind) {s : State} (h : TestLaw s) :
    GrantsMoved (warmed k s) (warmRestart (abortTest .reset (warmFresh k s))) := by
  have hfresh := warmFresh_eq k s
  have htest : (warmFresh k s).test = s.test := (congrArg State.test hfresh).trans rfl
  have htarget : (warmFresh k s).testActive = true → (warmFresh k s).test.target.isSome := by
    rw [State.testActive, htest]
    exact fun ha => (h.1 ha).2
  have hnotices : (warmFresh k s).notices = { records := [noteNow s .reset none (some (resetKindCode k))], lost := 0 } :=
    (congrArg State.notices hfresh).trans rfl
  obtain ⟨hframe, hunits⟩ := abortTest_fresh htarget hnotices
  generalize abortTest .reset (warmFresh k s) = u at *
  rw [hfresh] at hframe hunits
  generalize u.bbus = bbus at *
  subst hframe
  rw [warmRestart_eq]
  refine ⟨?_, fun b => ?_⟩
  · rfl
  · rw [warmed_bbu]
    exact hunits b

end Sys2Proof.Machine
end

section
/-! PROOFS. The start of a warm reset: its first bus cycle, and what is left at rest (R29, R51, R73, R91, R107, R127, R146). -/
namespace Sys2Proof.Machine

theorem restartTimer_present (t : Tray) : (restartTimer t).present = t.present := by
  rw [restartTimer_eq]

theorem GrantsMoved.only {s t : State} (h : GrantsMoved s t) : RackOnly s t := by
  obtain ⟨hframe, hunits⟩ := h
  refine ⟨?_, hunits⟩
  generalize t.bbus = bbus at hframe
  subst hframe
  rfl

/-! ### The first cycle -/

theorem mem_presentSlots {s : State} {j : SlotId} : j ∈ presentSlots s ↔ s.mbc.slots[j].present = true := by
  rw [presentSlots, List.mem_filter, and_iff_right (mem_allSlots j)]

/-- The cycle that starts polls present slots only (R33). -/
theorem startCycle_unpolled {s : State} {j : SlotId} (h : s.mbc.slots[j].present = false) :
    j ∉ (startCycle s).mbc.schedule ∧ (startCycle s).mbc.poll.map Poll.slot ≠ some j := by
  have hout : j ∉ presentSlots s := fun hm => Bool.false_ne_true (h.symm.trans (mem_presentSlots.mp hm))
  have hpoll : (cycleBus s).poll.map Poll.slot = (presentSlots s).head? := by
    rw [cycleBus, Option.map_map]
    exact Option.map_id'
  rw [startCycle_eq]
  refine ⟨fun hm => hout (List.mem_of_mem_tail hm), fun hm => hout (List.mem_of_mem_head? ?_)⟩
  exact hpoll.symm.trans hm

/-- With no staged period the start of a cycle writes the bus record only (R33, R34). -/
theorem startCycle_unstaged {s : State} (h : s.mbc.stagedPeriod = none) : startCycle s = { s with mbc := cycleBus s } := by
  rw [startCycle_eq, h]
  rfl

/-! ### The start, in every case -/

/-- What a warm reset has made of the part when it begins to reread the pins. -/
structure WarmStarted (k : ResetKind) (s w : State) : Prop where
  frame : w = withRackOf { warmed k s with mbc := w.mbc, ilc := w.ilc } w
  slots : w.mbc.slots = (warmed k s).mbc.slots
  unpolled : ∀ j : SlotId, s.mbc.slots[j].present = false → j ∉ w.mbc.schedule ∧ w.mbc.poll.map Poll.slot ≠ some j
  units : GrantsOnly (warmed k s) w
  shelf : ShelfSteady (warmed k s).ilc w.ilc
  present : ∀ i : TrayId, w.trays[i].present = s.trays[i].present
  fits : GrantsFit w

theorem warmStart_started (k : ResetKind) {s : State} (h : TestLaw s) : WarmStarted k s (warmStart k s) := by
  have hmoved := warmRestart_warmed k h
  rw [warmStart_steps]
  generalize warmRestart (abortTest .reset (warmFresh k s)) = u at *
  have hilc : u.ilc = (warmed k s).ilc := hmoved.only.ilc
  have htrays : u.trays = (warmed k s).trays := (congrArg State.trays hmoved.1).trans rfl
  have hshelf := reserveChanged_shelf u
  have hsteady := reserveChanged_steady u
  have hpresent := (reserveChanged_move u).present
  rw [hilc] at hsteady
  generalize reserveChanged u = v at *
  have honly : ShelfOnly (warmed k s) (refloored v) :=
    ((ShelfOnly.of_rackOnly hmoved.only).trans hshelf).trans (.of_rackOnly (refloored_reported 0 v).only)
  have hfit : GrantsFit (refloored v) := recomputeGrants_fit _
  have hrefloored : (refloored v).trays = v.trays ∧ (refloored v).ilc = v.ilc := ⟨rfl, rfl⟩
  have hcycle : recomputeGrants (recomputeFloor v) = refloored v := rfl
  rw [hcycle]
  generalize refloored v = y at *
  obtain ⟨hytrays, hyilc⟩ := hrefloored
  have hmbc : y.mbc = warmedBus s := (RackOnly.mbc honly).trans rfl
  have hslots : y.mbc.slots = (warmed k s).mbc.slots := congrArg ModuleBus.slots hmbc
  have hcut := fun j => startCycle_unpolled (s := y) (j := j)
  have hstart : startCycle y = { y with mbc := cycleBus y } := startCycle_unstaged (congrArg ModuleBus.stagedPeriod hmbc)
  have hbus : (cycleBus y).slots = y.mbc.slots := rfl
  rw [hstart] at hcut ⊢
  generalize cycleBus y = m at *
  have hframe := honly.1
  refine ⟨?_, hbus.trans hslots, fun j hj => hcut j ?_, honly.2, ?_, fun i => ?_, hfit⟩
  · calc ({ y with mbc := m } : State) = { withRackOf { warmed k s with ilc := y.ilc } y with mbc := m } :=
        congrArg (fun x : State => { x with mbc := m }) hframe
      _ = withRackOf { warmed k s with mbc := m, ilc := y.ilc } { y with mbc := m } := rfl
  · rw [hslots, warmed_slot]
    exact hj
  · have hsame : ({ y with mbc := m } : State).ilc = v.ilc := hyilc
    rw [hsame]
    exact hsteady
  · have hsame : ({ y with mbc := m } : State).trays = v.trays := hytrays
    rw [hsame, hpresent i, htrays, warmed_tray, restartTimer_present]

/-! ### The start at rest -/

/-- The reserve and the estimate do not look at grants, test powers and the parameters of bus and scan. -/
theorem warmed_reserve {k : ResetKind} {s u : State} (h : GrantsMoved (warmed k s) u) : u.reserve = s.reserve ∧ u.tEst = s.tEst := by
  have hparams : u.params = (warmed k s).params := h.only.params
  have hunits : ∀ c : BbuId, ({ u.bbus[c] with grant := 0, testPower := 0 } : Bbu) = { s.bbus[c] with grant := 0, testPower := 0 } := fun c => by
    have hc := congrArg (fun x : Bbu => { x with testPower := 0 }) (h.2 c)
    rw [warmed_bbu] at hc
    exact hc
  exact reserve_congr (s := { s with params := (warmed k s).params }) hparams hunits

/-- A reserve that calls for nothing: it is stored, and a run that rests hears nothing of it (R97, R99). -/
theorem reserveChanged_rested {s : State} (hrun : s.run.state ≠ .running)
    (hride : s.ilc.state = .rideThrough → s.reserve ≠ 0 ∧ reachedStage s.params s.tEst ≤ s.ilc.stage)
    (hhold : s.ilc.state = .restoreHold → s.reserve ≠ 0 ∨ s.ilc.lastR = 0) : reserveChanged s = withHanded s := by
  have harrival : tEstArrival s = withHanded s := by
    cases h : s.ilc.state with
    | normal => exact tEstArrival_quiet (Or.inl h)
    | sagQualify => exact tEstArrival_quiet (Or.inr (Or.inl h))
    | exhausted => exact tEstArrival_quiet (Or.inr (Or.inr (Or.inl h)))
    | restoreHold => exact tEstArrival_quiet (Or.inr (Or.inr (Or.inr ⟨h, hhold h⟩)))
    | rideThrough => exact (tEstArrival_ride h).trans (evalRide_low (s := withHanded s) (hride h).1 (hride h).2)
  have htell : tell (withHanded s) = withHanded s := evalStart_held (s := withHanded s) hrun
  unfold reserveChanged
  dsimp only
  rw [harrival, htell, ite_self]

/-- What a warm reset that finds a part at rest has made of it when it begins to reread the pins. -/
structure WarmRested (k : ResetKind) (s w : State) : Prop where
  frame : w =
    { warmed k s with
      mbc := w.mbc
      bbus := w.bbus
      budget := { (warmed k s).budget with floorEff := w.budget.floorEff }
      ilc := { (warmed k s).ilc with lastR := s.reserve, lastTEst := s.tEst } }
  mbc : w.mbc =
    { slots := Vector.ofFn fun j => { s.mbc.slots[j] with missCount := 0 }
      schedule := (presentSlots s).tail
      poll := (presentSlots s).head?.map fun j =>
        { slot := j, tag := 0, payload := pollPayload w j, inService := slotInService s j, window := 3 }
      driver := false, framer := .hunt, tag := if presentSlots s = [] then 0 else 1, stagedPeriod := none
      nextCycle := s.time + w.params.period, rosterReady := decide (presentSlots s = []) }

theorem slotInService_congr {s t : State} (hr : t.rects = s.rects) (hb : ∀ b : BbuId, t.bbus[b].inService = s.bbus[b].inService)
    (j : SlotId) : slotInService t j = slotInService s j := by
  unfold slotInService
  split
  · rw [hr]
  · exact hb _

/-- The bus record of the first cycle after a warm reset. -/
theorem cycleBus_warmed {s y : State} (hmbc : y.mbc = warmedBus s) (htime : y.time = s.time)
    (hservice : ∀ j, slotInService y j = slotInService s j) :
    cycleBus y =
      { slots := Vector.ofFn fun j => { s.mbc.slots[j] with missCount := 0 }
        schedule := (presentSlots s).tail
        poll := (presentSlots s).head?.map fun j =>
          { slot := j, tag := 0, payload := pollPayload y j, inService := slotInService s j, window := 3 }
        driver := false, framer := .hunt, tag := if presentSlots s = [] then 0 else 1, stagedPeriod := none
        nextCycle := s.time + y.params.period, rosterReady := decide (presentSlots s = []) } := by
  have hpresent : presentSlots y = presentSlots s := by
    refine List.filter_congr fun j _ => ?_
    rw [hmbc]
    simp [warmedBus, Fin.getElem_fin]
  rw [cycleBus, hpresent, hmbc, htime, warmedBus]
  simp only [hservice, ite_self, Bool.or_false, Option.getD_none]
  rfl

theorem refloored_frame (s : State) :
    refloored s = { s with bbus := (refloored s).bbus, budget := { s.budget with floorEff := (refloored s).budget.floorEff } } := rfl

theorem warmStart_rested (k : ResetKind) {s : State} (h : TestLaw s) (hrest : RackAtRest s) : WarmRested k s (warmStart k s) := by
  have hmoved := warmRestart_warmed k h
  obtain ⟨hreserve, hest⟩ := warmed_reserve hmoved
  rw [warmStart_steps]
  generalize warmRestart (abortTest .reset (warmFresh k s)) = u at *
  obtain ⟨bbus, rfl⟩ : ∃ bbus, u = { warmed k s with bbus := bbus } := ⟨_, hmoved.1⟩
  have hstored := reserveChanged_rested (s := { warmed k s with bbus := bbus }) (warmed_rests k s).1
    (fun hs => by rw [hreserve, hest]; exact hrest.2.1 hs) (fun hs => by rw [hreserve]; exact hrest.2.2 hs)
  have hunits := hmoved.2
  have hhanded : withHanded { warmed k s with bbus := bbus } =
      { warmed k s with bbus := bbus, ilc := { (warmed k s).ilc with lastR := s.reserve, lastTEst := s.tEst } } := by
    rw [withHanded, hreserve, hest]
  have hcycle : ∀ x, recomputeGrants (recomputeFloor x) = refloored x := fun _ => rfl
  rw [hstored, hhanded, hcycle]
  clear hstored hhanded hreserve hest hmoved
  generalize hx : ({ warmed k s with bbus := bbus, ilc := { (warmed k s).ilc with lastR := s.reserve, lastTEst := s.tEst } } : State) = x
  have hgrants := (refloored_reported 0 x).only.2
  have hframe := refloored_frame x
  generalize refloored x = y at *
  subst hx
  have hservice : ∀ b : BbuId, y.bbus[b].inService = s.bbus[b].inService := fun b => by
    have hy := congrArg Bbu.inService (hgrants b)
    have hu := congrArg Bbu.inService (hunits b)
    rw [warmed_bbu] at hu
    exact hy.trans hu
  have hmbc : y.mbc = warmedBus s := (congrArg State.mbc hframe).trans rfl
  have htime : y.time = s.time := (congrArg State.time hframe).trans rfl
  have hrects : y.rects = s.rects := (congrArg State.rects hframe).trans rfl
  have hbus := cycleBus_warmed hmbc htime (slotInService_congr hrects hservice)
  rw [startCycle_unstaged (congrArg ModuleBus.stagedPeriod hmbc)]
  refine ⟨?_, hbus⟩
  generalize cycleBus y = m
  exact congrArg (fun x : State => { x with mbc := m }) hframe

end Sys2Proof.Machine
end

section
/-! PROOFS. PRSNT and PG of the trays are reread (R8, R9, R12 to R14, R29). -/
namespace Sys2Proof.Machine

/-! ### What the rereads keep in every case -/

/-- What a reread of trays leaves alone, and what of trays and batteries it keeps. -/
structure TraysRead (s t : State) : Prop where
  side : TraySideOnly s t
  records : s.notices.records <+: t.notices.records
  fits : GrantsFit s → GrantsFit t

namespace TraysRead
variable {s t u : State}

theorem refl (s : State) : TraysRead s s := ⟨.refl s, List.prefix_rfl, id⟩

theorem trans (h : TraysRead s t) (k : TraysRead t u) : TraysRead s u :=
  ⟨h.side.trans k.side, h.records.trans k.records, fun hs => k.fits (h.fits hs)⟩

theorem propagate (h : TraysRead s t) (s0 : State) : TraysRead s (Machine.propagate s0 t) where
  side := h.side.trans (propagate_side s0 t)
  records := h.records.trans (propagate_notes s0 t).records
  fits hs := (propagate_move s0 t).grantsFit (h.fits hs)

theorem post (h : TraysRead s t) (k : NoticeKind) (x v : Option Nat) : TraysRead s (Machine.post k x v t) where
  side := h.side.trans (post_side k x v t)
  records := h.records.trans (post_records k x v t)
  fits hs := (h.fits hs).congr (post_bbus k x v t)

theorem put (i : TrayId) (t : Tray) (s : State) : TraysRead s (putTray i t s) :=
  ⟨putTray_side i t s, List.prefix_rfl, id⟩

end TraysRead

theorem reachOn_read (i : TrayId) (s : State) : TraysRead s (reachOn i s) := (TraysRead.put i _ s).post _ _ _

theorem failTray_read (i : TrayId) (c : FailureCause) (s : State) : TraysRead s (failTray i c s) := by
  rcases failTray_cases i c s with ⟨-, he⟩ | ⟨-, he⟩ <;> rw [he]
  · exact .put i _ s
  · exact (TraysRead.put i _ s).post _ _ _

theorem trayPgRise_read (i : TrayId) (s : State) : TraysRead s (trayPgRise i s) := by
  unfold trayPgRise
  dsimp only
  repeat' split
  · exact reachOn_read i s
  · exact .put i _ s
  · exact .refl s
  · exact (TraysRead.refl s).post _ _ _
  · exact (TraysRead.refl s).post _ _ _
  · exact .refl s
  · exact (TraysRead.refl s).post _ _ _
  · exact .refl s
  · exact .refl s

theorem trayPgFall_read (i : TrayId) (s : State) : TraysRead s (trayPgFall i s) := by
  unfold trayPgFall
  dsimp only
  repeat' split
  · exact .put i _ s
  · exact .refl s
  · exact failTray_read i _ s
  · exact .put i _ s
  all_goals exact .refl s

theorem rereadPg_read (i : TrayId) (s : State) : TraysRead s (rereadPg i s) := by
  unfold rereadPg
  split
  · exact (trayPgRise_read i s).propagate s
  · exact (trayPgFall_read i s).propagate s
  · exact .refl s

theorem rereadPg_present (i j : TrayId) (s : State) : (rereadPg i s).trays[j].present = s.trays[j].present := by
  unfold rereadPg
  split
  · exact ((trayPgRise_move i s).trans (propagate_move s _)).present j
  · exact ((trayPgFall_move i s).trans (propagate_move s _)).present j
  · rfl

theorem rereadPresence_read (i : TrayId) (s : State) : TraysRead s (rereadPresence i s) := by
  unfold rereadPresence
  split
  · exact .put i _ s
  · split
    · exact ((TraysRead.put i _ s).post _ _ _).propagate s
    · exact .refl s

/-- A tray's presence is as its input after the reread (R14, R29). -/
theorem rereadPresence_present (i j : TrayId) (s : State) :
    (rereadPresence i s).trays[j].present = if i = j then s.pins.prsnt[i] else s.trays[j].present := by
  have hput : ∀ t : Tray, (putTray i t s).trays[j].present = if i = j then t.present else s.trays[j].present := fun t => by
    rw [putTray_get]
    split <;> rfl
  unfold rereadPresence
  cases hl : s.pins.prsnt[i] with
  | true => exact hput _
  | false =>
    rw [if_neg Bool.false_ne_true]
    split
    · have hkept := (propagate_move s (post .trayRemoved (some i.val) none (putTray i (removeTray s.trays[i]) s))).present j
      rw [post_tray] at hkept
      exact hkept.trans (hput _)
    · next hp =>
      split
      · next e => subst e; exact Bool.eq_false_iff.mpr hp
      · rfl

/-- PRSNT of the trays is reread, one by one (R29). -/
def rereadPresences (s : State) : State := allTrays.foldl (fun s i => rereadPresence i s) s

/-- PG of the trays is reread, one by one (R29). -/
def rereadPgs (s : State) : State := allTrays.foldl (fun s i => rereadPg i s) s

theorem rereadTrays_eq (s : State) : rereadTrays s = rereadPgs (rereadPresences s) := rfl

theorem rereadPresences_read (s : State) :
    TraysRead s (rereadPresences s) ∧ ∀ i : TrayId, (rereadPresences s).trays[i].present = s.pins.prsnt[i] := by
  obtain ⟨hread, hpresent⟩ := foldl_get (P := TraysRead s) (step := fun t i => rereadPresence i t) (get := fun t (i : TrayId) => t.trays[i].present)
    (f := fun i _ => s.pins.prsnt[i]) (fun t i h => h.trans (rereadPresence_read i t))
    (fun t i j h => by rw [rereadPresence_present, h.side.pins]) allTrays_nodup (.refl s)
  exact ⟨hread, fun i => (hpresent i).trans (if_pos (mem_allTrays i))⟩

theorem rereadPgs_read (s : State) :
    TraysRead s (rereadPgs s) ∧ ∀ i : TrayId, (rereadPgs s).trays[i].present = s.trays[i].present := by
  obtain ⟨hread, hkept⟩ := foldl_get (P := TraysRead s) (step := fun t i => rereadPg i t) (get := fun t (i : TrayId) => t.trays[i].present)
    (f := fun _ x => x) (fun t i h => h.trans (rereadPg_read i t))
    (fun t i j _ => (rereadPg_present i j t).trans (ite_self _).symm) allTrays_nodup (.refl s)
  exact ⟨hread, fun i => (hkept i).trans (ite_self _)⟩

/-- After the rereads the presence of every tray is as its input (R14, R29). -/
theorem rereadTrays_read (s : State) : TraysRead s (rereadTrays s) ∧ ∀ i : TrayId, (rereadTrays s).trays[i].present = s.pins.prsnt[i] := by
  obtain ⟨hfirst, hpresent⟩ := rereadPresences_read s
  obtain ⟨hlast, hkept⟩ := rereadPgs_read (rereadPresences s)
  exact ⟨hfirst.trans hlast, fun i => (hkept i).trans (hpresent i)⟩

end Sys2Proof.Machine
end

section
/-! PROOFS. The rereads of the trays while the run rests and no deficit stands (R8, R9, R12 to R14, R29). -/
namespace Sys2Proof.Machine

/-! ### A change of trays while the run rests -/

/-- A run that rests is complete in neither direction. -/
theorem RunRests.openLaw {s : State} (h : RunRests s) : OpenLaw s := by
  obtain ⟨hrunning, hheld⟩ := h
  constructor
  · refine Bool.eq_false_iff.mpr fun hu => ?_
    obtain ⟨-, hstate, -⟩ := upComplete_iff.mp hu
    exact hstate.elim hrunning hheld
  · have hstate : (s.run.state == RunState.running) = false := beq_eq_false_iff_ne.mpr hrunning
    rw [downComplete, hstate, Bool.and_false, Bool.false_and]

theorem seqAfter_rests {s : State} (s0 : State) (h : RunRests s) : seqAfter s0 s = s := by
  obtain ⟨hup, hdown⟩ := h.openLaw
  unfold seqAfter
  split
  · exact testDownDone_id hdown
  · rw [evalStart_held h.1, testUpDone_id hup, ite_self]

/-- There is no deficit. -/
abbrev HasRoom (s : State) : Prop := s.ilc.state = .normal → s.kLive ≤ s.budget.c

theorem afterBudget_tallied {s0 s : State} (h : HasRoom s) : Tallied s (afterBudget s0 s) := by
  by_cases hn : s.ilc.state = .normal
  · exact afterBudget_room (h hn)
  · have hgrants : Tallied s (if s.kT = s0.kT then s else recomputeGrants s) := by
      split
      · exact .refl s
      · exact recomputeGrants_tallied s
    have hstill : ∀ x : State, Tallied s x → evalDeficit x = x := fun x hx => if_pos (by rw [hx.side.ilc]; exact hn)
    unfold afterBudget
    dsimp only
    rw [hstill _ hgrants, ite_self]
    exact hgrants

/-- With the run at rest and no deficit, nothing of trays, run and notices follows a change of trays. -/
theorem propagate_tallied {s0 s : State} (hrun : RunRests s) (h : HasRoom s) : Tallied s (propagate s0 s) := by
  have hbudget := afterBudget_tallied (s0 := s0) h
  rw [propagate, seqAfter_rests s0 (by rw [RunRests, hbudget.run]; exact hrun)]
  exact hbudget

/-! ### One tray written -/

/-- The rack at rest: no run going on, no deficit, and the laws of trays and run. -/
structure RackQuiet (s : State) : Prop where
  rests : RunRests s
  room : HasRoom s
  law : RackLaw s

/-- The record of one tray is written, and no other tray's. -/
structure TrayWritten (i : TrayId) (t : Tray) (s m : State) : Prop where
  read : TraysRead s m
  tray : ∀ j : TrayId, m.trays[j] = if i = j then t else s.trays[j]
  runState : m.run.state = s.run.state
  live : m.kLive + s.trays[i].countedLive = s.kLive + t.countedLive
  law : RackLaw s → RackLaw m

namespace TrayWritten
variable {i : TrayId} {t : Tray} {s m : State}

theorem same (i : TrayId) (s : State) : TrayWritten i s.trays[i] s s where
  read := .refl s
  tray j := by
    split
    · next e => subst e; rfl
    · rfl
  runState := rfl
  live := rfl
  law h := h

theorem put (hk : TrayKept s.trays[i] t) : TrayWritten i t s (putTray i t s) where
  read := .put i t s
  tray j := putTray_get i j t s
  runState := rfl
  live := kLive_putTray i t s
  law h := putTray_rackLaw h hk

theorem post (h : TrayWritten i t s m) (k : NoticeKind) (x v : Option Nat) : TrayWritten i t s (Machine.post k x v m) where
  read := h.read.post k x v
  tray j := (post_tray k x v m j).trans (h.tray j)
  runState := (congrArg RunRecord.state (post_run k x v m)).trans h.runState
  live := by
    rw [kLive_congr (post_trays k x v m)]
    exact h.live
  law hs := rackLaw_congr (post_trays k x v m) (post_run k x v m) (h.law hs)

theorem tallied {u : State} (h : TrayWritten i t s m) (k : Tallied m u) (hfits : GrantsFit m → GrantsFit u) : TrayWritten i t s u where
  read := h.read.trans ⟨k.side, by rw [k.notices], hfits⟩
  tray j := by
    rw [k.trays]
    exact h.tray j
  runState := (congrArg RunRecord.state k.run).trans h.runState
  live := by
    rw [kLive_congr k.trays]
    exact h.live
  law hs := rackLaw_congr k.trays k.run (h.law hs)

/-- A rack at rest stays at rest when no tray draws more. -/
theorem quiet (h : TrayWritten i t s m) (hlive : t.countedLive ≤ s.trays[i].countedLive) (hs : RackQuiet s) : RackQuiet m where
  rests := by
    rw [RunRests, h.runState]
    exact hs.rests
  room hn := by
    have hc := h.read.side.capacity
    have hroom := hs.room (h.read.side.ilc ▸ hn)
    have hl := h.live
    omega
  law := h.law hs.law

theorem propagate (h : TrayWritten i t s m) (hlive : t.countedLive ≤ s.trays[i].countedLive) (hs : RackQuiet s) :
    TrayWritten i t s (Machine.propagate s m) := by
  have hquiet := h.quiet hlive hs
  exact h.tallied (propagate_tallied hquiet.rests hquiet.room) (propagate_move s m).grantsFit

end TrayWritten

/-! ### The rereads of one tray -/

/-- A tray's record after the reread of PRSNT at a level (R14, R29). -/
def presenceRead (level : Bool) (t : Tray) : Tray :=
  if level then { t with present := true } else if t.present then removeTray t else t

/-- A tray's record after a PG rise (R8). -/
def pgRisen (t : Tray) : Tray :=
  match t.state, t.timer with
  | .inrush, .inrushWait left => if t.cfg.settle = 0 then enterOn t else { t with timer := .settle t.cfg.settle left }
  | _, _ => t

/-- A tray's record after a PG fall (R9, R12, R13). -/
def pgFallen (t : Tray) : Tray :=
  match t.state, t.timer with
  | .inrush, .settle _ paused => { t with timer := .inrushWait paused }
  | .on, _ => enterFailed .pgLost t
  | .failed, _ => if t.cause = some .stuckOn then enterOff t else t
  | _, _ => t

/-- A tray's record after the reread of PG at a level (R29). -/
def pgRead (level : Bool) (t : Tray) : Tray :=
  match expectedPg t, level with
  | some false, true => pgRisen t
  | some true, false => pgFallen t
  | _, _ => t

theorem enterOff_live (t : Tray) : (enterOff t).countedLive ≤ t.countedLive := by
  have hzero : (enterOff t).countedLive = 0 := rfl
  rw [hzero]
  exact Nat.zero_le _

theorem presenceRead_live (level : Bool) (t : Tray) : (presenceRead level t).countedLive ≤ t.countedLive := by
  unfold presenceRead
  split
  · exact Nat.le_refl _
  · split
    · exact enterOff_live t
    · exact Nat.le_refl _

theorem rereadPresence_written (i : TrayId) {s : State} (hs : RackQuiet s) :
    TrayWritten i (presenceRead s.pins.prsnt[i] s.trays[i]) s (rereadPresence i s) := by
  have hlive := presenceRead_live s.pins.prsnt[i] s.trays[i]
  unfold rereadPresence
  cases hl : s.pins.prsnt[i] with
  | true => exact .put (trayKept_present _)
  | false =>
    rw [if_neg Bool.false_ne_true]
    by_cases hp : s.trays[i].present = true
    · have hgone : presenceRead false s.trays[i] = removeTray s.trays[i] := (if_neg Bool.false_ne_true).trans (if_pos hp)
      rw [if_pos hp, hgone]
      rw [hl, hgone] at hlive
      exact ((TrayWritten.put (trayKept_removeTray _)).post _ _ _).propagate hlive hs
    · have hsame : presenceRead false s.trays[i] = s.trays[i] := (if_neg Bool.false_ne_true).trans (if_neg hp)
      rw [if_neg hp, hsame]
      exact .same i s

theorem pgRisen_live (t : Tray) : (pgRisen t).countedLive ≤ t.countedLive := by
  unfold pgRisen
  split
  · next hs _ =>
    split
    · exact enterOn_live hs
    · exact Nat.le_refl _
  · exact Nat.le_refl _

theorem pgFallen_live (t : Tray) : (pgFallen t).countedLive ≤ t.countedLive := by
  unfold pgFallen
  split
  · exact Nat.le_refl _
  · exact enterFailed_live .pgLost (Or.inr (Or.inr (by decide)))
  · split
    · exact enterOff_live t
    · exact Nat.le_refl _
  · exact Nat.le_refl _

theorem pgRead_live (level : Bool) (t : Tray) : (pgRead level t).countedLive ≤ t.countedLive := by
  unfold pgRead
  split
  · exact pgRisen_live t
  · exact pgFallen_live t
  · exact Nat.le_refl _

theorem pgRisen_other {t : Tray} (h : ∀ left, t.timer = .inrushWait left → t.state ≠ .inrush) : pgRisen t = t := by
  unfold pgRisen
  split
  · next hs ht => exact absurd hs (h _ ht)
  · rfl

theorem pgRisen_wait {t : Tray} {left : Nat} (hs : t.state = .inrush) (ht : t.timer = .inrushWait left) :
    pgRisen t = if t.cfg.settle = 0 then enterOn t else { t with timer := .settle t.cfg.settle left } := by
  unfold pgRisen
  rw [hs, ht]

theorem pgFallen_other {t : Tray} (hn : t.state = .off ∨ t.state = .queued ∨ t.state = .stopping) : pgFallen t = t := by
  unfold pgFallen
  rcases hn with h | h | h <;> rw [h]

theorem pgFallen_settle {t : Tray} {left paused : Nat} (hs : t.state = .inrush) (ht : t.timer = .settle left paused) :
    pgFallen t = { t with timer := .inrushWait paused } := by
  unfold pgFallen
  rw [hs, ht]

theorem pgFallen_waiting {t : Tray} (hs : t.state = .inrush) (ht : ∀ left paused, t.timer ≠ .settle left paused) : pgFallen t = t := by
  unfold pgFallen
  split
  · next h => exact absurd h (ht _ _)
  · next h => exact TrayState.noConfusion (hs.symm.trans h)
  · next h => exact TrayState.noConfusion (hs.symm.trans h)
  · rfl

theorem pgFallen_on {t : Tray} (hs : t.state = .on) : pgFallen t = enterFailed .pgLost t := by
  unfold pgFallen
  rw [hs]

theorem pgFallen_failed {t : Tray} (hs : t.state = .failed) : pgFallen t = if t.cause = some .stuckOn then enterOff t else t := by
  unfold pgFallen
  rw [hs]

theorem trayPgRise_settling {i : TrayId} {s : State} (hs : s.trays[i].state = .inrush) (ht : ∀ left, s.trays[i].timer ≠ .inrushWait left) :
    trayPgRise i s = s := by
  unfold trayPgRise
  simp only [hs]

theorem trayPgFall_waiting {i : TrayId} {s : State} (hs : s.trays[i].state = .inrush) (ht : ∀ left paused, s.trays[i].timer ≠ .settle left paused) :
    trayPgFall i s = s := by
  unfold trayPgFall
  simp only [hs]

theorem trayPgRise_written (i : TrayId) (s : State) : TrayWritten i (pgRisen s.trays[i]) s (trayPgRise i s) := by
  have hsame := TrayWritten.same i s
  have hother : s.trays[i].state ≠ .inrush → pgRisen s.trays[i] = s.trays[i] := fun hn => pgRisen_other fun _ _ => hn
  cases hs : s.trays[i].state with
  | off =>
    rw [trayPgRise_unexpected (Or.inl hs), hother (by rw [hs]; decide)]
    exact hsame.post _ _ _
  | queued =>
    rw [trayPgRise_unexpected (Or.inr (Or.inl hs)), hother (by rw [hs]; decide)]
    exact hsame.post _ _ _
  | on =>
    rw [trayPgRise_ignored (Or.inl hs), hother (by rw [hs]; decide)]
    exact hsame
  | stopping =>
    rw [trayPgRise_ignored (Or.inr (Or.inl hs)), hother (by rw [hs]; decide)]
    exact hsame
  | failed =>
    rw [hother (by rw [hs]; decide)]
    by_cases hc : s.trays[i].cause = some .stuckOn
    · rw [trayPgRise_ignored (Or.inr (Or.inr ⟨hs, hc⟩))]
      exact hsame
    · rw [trayPgRise_unexpected (Or.inr (Or.inr ⟨hs, hc⟩))]
      exact hsame.post _ _ _
  | inrush =>
    by_cases ht : ∃ left, s.trays[i].timer = .inrushWait left
    · obtain ⟨left, ht⟩ := ht
      rw [pgRisen_wait hs ht]
      by_cases hset : s.trays[i].cfg.settle = 0
      · rw [trayPgRise_on hs ht hset, if_pos hset]
        exact (TrayWritten.put (trayMove_enterOn _ hs).kept).post _ _ _
      · rw [trayPgRise_wait hs ht hset, if_neg hset]
        exact .put (trayMove_inrushTimer _ _ hs rfl).kept
    · have hno := not_exists.mp ht
      rw [trayPgRise_settling hs hno, pgRisen_other fun left h => absurd h (hno left)]
      exact hsame

theorem failTray_written (i : TrayId) (c : FailureCause) {s : State} (h : s.trays[i].state ≠ .off) :
    TrayWritten i (enterFailed c s.trays[i]) s (failTray i c s) := by
  have hput := TrayWritten.put (trayMove_enterFailed s.trays[i] c h).kept
  rcases failTray_cases i c s with ⟨-, he⟩ | ⟨-, he⟩ <;> rw [he]
  · exact hput
  · exact hput.post _ _ _

theorem trayPgFall_written (i : TrayId) (s : State) : TrayWritten i (pgFallen s.trays[i]) s (trayPgFall i s) := by
  have hsame := TrayWritten.same i s
  have hignored : s.trays[i].state = .off ∨ s.trays[i].state = .queued ∨ s.trays[i].state = .stopping →
      TrayWritten i (pgFallen s.trays[i]) s (trayPgFall i s) := fun h => by
    have hid : trayPgFall i s = s := trayPgFall_ignored (left := 0) (by rcases h with h | h | h <;> simp only [h, true_or, or_true])
    rw [pgFallen_other h, hid]
    exact hsame
  cases hs : s.trays[i].state with
  | off => exact hignored (Or.inl hs)
  | queued => exact hignored (Or.inr (Or.inl hs))
  | stopping => exact hignored (Or.inr (Or.inr hs))
  | on =>
    rw [trayPgFall_on hs, pgFallen_on hs]
    exact failTray_written i .pgLost (by rw [hs]; decide)
  | failed =>
    rw [pgFallen_failed hs]
    by_cases hc : s.trays[i].cause = some .stuckOn
    · rw [trayPgFall_stuck hs hc, if_pos hc]
      exact .put (trayKept_enterOff _)
    · rw [trayPgFall_ignored (left := 0) (Or.inr (Or.inr (Or.inr (Or.inr ⟨hs, hc⟩)))), if_neg hc]
      exact hsame
  | inrush =>
    by_cases ht : ∃ left paused, s.trays[i].timer = .settle left paused
    · obtain ⟨left, paused, ht⟩ := ht
      rw [trayPgFall_settling hs ht, pgFallen_settle hs ht]
      exact .put (trayMove_inrushTimer _ _ hs rfl).kept
    · have hno : ∀ left paused, s.trays[i].timer ≠ .settle left paused := fun left paused h => ht ⟨left, paused, h⟩
      rw [trayPgFall_waiting hs hno, pgFallen_waiting hs hno]
      exact hsame

theorem rereadPg_written (i : TrayId) {s : State} (hs : RackQuiet s) :
    TrayWritten i (pgRead s.pins.pg[i] s.trays[i]) s (rereadPg i s) := by
  have hrise := trayPgRise_written i s
  have hfall := trayPgFall_written i s
  have hsame := TrayWritten.same i s
  unfold rereadPg
  unfold pgRead
  rcases expectedPg s.trays[i] with _ | _ | _ <;> cases s.pins.pg[i]
  · exact hsame
  · exact hsame
  · exact hsame
  · exact hrise.propagate (pgRisen_live _) hs
  · exact hfall.propagate (pgFallen_live _) hs
  · exact hsame

/-! ### All of them -/

/-- A rack that rereads have left at rest. -/
structure QuietRead (s t : State) : Prop where
  quiet : RackQuiet t
  read : TraysRead s t

theorem TrayWritten.quietRead {i : TrayId} {x : Tray} {s t u : State} (h : TrayWritten i x t u) (hs : QuietRead s t)
    (hlive : x.countedLive ≤ t.trays[i].countedLive) : QuietRead s u := ⟨h.quiet hlive hs.quiet, hs.read.trans h.read⟩

theorem rereadPresence_quiet (i : TrayId) {s t : State} (h : QuietRead s t) : QuietRead s (rereadPresence i t) :=
  (rereadPresence_written i h.quiet).quietRead h (presenceRead_live _ _)

theorem rereadPg_quiet (i : TrayId) {s t : State} (h : QuietRead s t) : QuietRead s (rereadPg i t) :=
  (rereadPg_written i h.quiet).quietRead h (pgRead_live _ _)

theorem rereadPresence_get (i j : TrayId) {s t : State} (h : QuietRead s t) :
    (rereadPresence i t).trays[j] = if i = j then presenceRead s.pins.prsnt[i] t.trays[j] else t.trays[j] := by
  rw [(rereadPresence_written i h.quiet).tray j, h.read.side.pins]
  split
  · next e => subst e; rfl
  · rfl

theorem rereadPg_get (i j : TrayId) {s t : State} (h : QuietRead s t) :
    (rereadPg i t).trays[j] = if i = j then pgRead s.pins.pg[i] t.trays[j] else t.trays[j] := by
  rw [(rereadPg_written i h.quiet).tray j, h.read.side.pins]
  split
  · next e => subst e; rfl
  · rfl

theorem rereadPresences_quiet {s : State} (hs : RackQuiet s) :
    QuietRead s (rereadPresences s) ∧ ∀ i : TrayId, (rereadPresences s).trays[i] = presenceRead s.pins.prsnt[i] s.trays[i] := by
  obtain ⟨hread, hall⟩ := foldl_get (P := QuietRead s) (step := fun t i => rereadPresence i t) (get := fun t (i : TrayId) => t.trays[i])
    (f := fun i => presenceRead s.pins.prsnt[i]) (fun _ i h => rereadPresence_quiet i h) (fun _ i j h => rereadPresence_get i j h)
    allTrays_nodup ⟨hs, .refl s⟩
  exact ⟨hread, fun i => (hall i).trans (if_pos (mem_allTrays i))⟩

theorem rereadPgs_quiet {s t : State} (h : QuietRead s t) :
    QuietRead s (rereadPgs t) ∧ ∀ i : TrayId, (rereadPgs t).trays[i] = pgRead s.pins.pg[i] t.trays[i] := by
  obtain ⟨hread, hall⟩ := foldl_get (P := QuietRead s) (step := fun t i => rereadPg i t) (get := fun t (i : TrayId) => t.trays[i])
    (f := fun i => pgRead s.pins.pg[i]) (fun _ i h => rereadPg_quiet i h) (fun _ i j h => rereadPg_get i j h) allTrays_nodup h
  exact ⟨hread, fun i => (hall i).trans (if_pos (mem_allTrays i))⟩

/-- The rereads of the trays leave a rack at rest, each tray with the record that its two inputs make (R29). -/
theorem rereadTrays_quiet {s : State} (hs : RackQuiet s) :
    QuietRead s (rereadTrays s) ∧
      ∀ i : TrayId, (rereadTrays s).trays[i] = pgRead s.pins.pg[i] (presenceRead s.pins.prsnt[i] s.trays[i]) := by
  obtain ⟨hfirst, hpresence⟩ := rereadPresences_quiet hs
  obtain ⟨hlast, hlevel⟩ := rereadPgs_quiet hfirst
  exact ⟨hlast, fun i => (hlevel i).trans (congrArg (pgRead s.pins.pg[i]) (hpresence i))⟩

end Sys2Proof.Machine
end

section
/-! PROOFS. The notices that the rereads of the trays post (R8, R14, R29). -/
namespace Sys2Proof.Machine

/-- A notice held stays held while the queue is added to. -/
theorem NoticeIn.mono {n : Notice} {s t : State} (h : NoticeIn n s) (hmore : s.notices.records <+: t.notices.records) : NoticeIn n t :=
  fun hroom => hmore.subset (h (lt_of_le_of_lt hmore.length_le hroom))

theorem NoticeIn.propagate {n : Notice} {s : State} (s0 : State) (h : NoticeIn n s) : NoticeIn n (Machine.propagate s0 s) :=
  h.mono (propagate_notes s0 s).records

theorem noticeIn_post (k : NoticeKind) (x v : Option Nat) (s : State) :
    NoticeIn { kind := k, subject := x, value := v, time := s.time } (post k x v s) :=
  .of_next (noticeNext_post (s := s) rfl rfl) (post_records k x v s)

/-- A list of steps of which one, at its own index and record, brings a property about that all of them keep. -/
theorem foldl_reaches {ι σ α : Type} [DecidableEq ι] {P N : σ → Prop} {step : σ → ι → σ} {get : σ → ι → α} {i : ι} {x : α}
    (hP : ∀ s j, P s → P (step s j)) (hN : ∀ s j, P s → N s → N (step s j))
    (hget : ∀ s j, P s → j ≠ i → get (step s j) i = get s i) (hi : ∀ s, P s → get s i = x → N (step s i))
    {l : List ι} (hl : i ∈ l) {s : σ} (hs : P s) (hx : get s i = x) : N (l.foldl step s) := by
  have hkeep : ∀ (l : List ι) (s : σ), P s → N s → N (l.foldl step s) := fun l => by
    induction l with
    | nil => exact fun _ _ h => h
    | cons j l ih => exact fun s hs h => ih _ (hP s j hs) (hN s j hs h)
  induction l generalizing s with
  | nil => exact absurd hl List.not_mem_nil
  | cons j l ih =>
    rw [List.foldl_cons]
    by_cases hj : j = i
    · subst hj
      exact hkeep l _ (hP s j hs) (hi s hs hx)
    · exact ih ((List.mem_cons.mp hl).resolve_left fun e => hj e.symm) (hP s j hs) ((hget s j hs hj).trans hx)

/-- A tray found gone is posted (R14, R29). -/
theorem rereadPresence_notice {i : TrayId} {s : State} (hp : s.trays[i].present = true) (hl : s.pins.prsnt[i] = false) :
    NoticeIn { kind := .trayRemoved, subject := some i.val, value := none, time := s.time } (rereadPresence i s) := by
  have hlost : rereadPresence i s = propagate s (post .trayRemoved (some i.val) none (putTray i (removeTray s.trays[i]) s)) := by
    unfold rereadPresence
    rw [hl, if_neg Bool.false_ne_true, if_pos hp]
    rfl
  have htime : (putTray i (removeTray s.trays[i]) s).time = s.time := rfl
  rw [hlost]
  generalize putTray i (removeTray s.trays[i]) s = x at *
  rw [← htime]
  exact (noticeIn_post .trayRemoved (some i.val) none x).propagate s

/-- An asserted PG that a tray's state does not expect is posted (R8, R29). -/
theorem rereadPg_notice {i : TrayId} {s : State}
    (h : s.trays[i].state = .off ∨ s.trays[i].state = .queued ∨ (s.trays[i].state = .failed ∧ s.trays[i].cause ≠ some .stuckOn))
    (hl : s.pins.pg[i] = true) :
    NoticeIn { kind := .trayUnexpectedPg, subject := some i.val, value := none, time := s.time } (rereadPg i s) := by
  have hexpected : expectedPg s.trays[i] = some false := by
    unfold expectedPg
    rcases h with h | h | ⟨h, hc⟩
    · rw [h]
    · rw [h]
    · rw [h]
      exact congrArg some (decide_eq_false hc)
  have hrise : rereadPg i s = propagate s (post .trayUnexpectedPg (some i.val) none s) := by
    rw [rereadPg, hexpected, hl]
    exact congrArg (propagate s) (trayPgRise_unexpected h)
  have hposted := noticeIn_post .trayUnexpectedPg (some i.val) none s
  rw [hrise]
  exact hposted.propagate s

theorem presenceRead_same {t : Tray} {level : Bool} (h : t.present = level) : presenceRead level t = t := by
  cases level with
  | true =>
    have hsame : ({ t with present := t.present } : Tray) = { t with present := true } := congrArg (fun p => { t with present := p }) h
    exact hsame.symm
  | false => exact (if_neg Bool.false_ne_true).trans (if_neg (Bool.eq_false_iff.mp h))

section
variable {s : State} (hs : RackQuiet s)
include hs

theorem rereadTrays_removed {i : TrayId} (hp : s.trays[i].present = true) (hl : s.pins.prsnt[i] = false) :
    NoticeIn { kind := .trayRemoved, subject := some i.val, value := none, time := s.time } (rereadTrays s) := by
  have hturn : ∀ t, QuietRead s t → t.trays[i] = s.trays[i] →
      NoticeIn { kind := .trayRemoved, subject := some i.val, value := none, time := s.time } (rereadPresence i t) := fun t ht hx => by
    rw [← ht.read.side.time]
    exact rereadPresence_notice (by rw [hx]; exact hp) (by rw [ht.read.side.pins]; exact hl)
  generalize ({ kind := .trayRemoved, subject := some i.val, value := none, time := s.time } : Notice) = n at *
  have hposted : NoticeIn n (rereadPresences s) := by
    unfold rereadPresences
    exact foldl_reaches (P := QuietRead s) (N := NoticeIn n) (get := fun t (j : TrayId) => t.trays[j]) (x := s.trays[i])
      (fun _ j h => rereadPresence_quiet j h) (fun t j _ hn => hn.mono (rereadPresence_read j t).records)
      (fun _ j h hj => (rereadPresence_get j i h).trans (if_neg hj)) hturn (mem_allTrays i) ⟨hs, .refl s⟩ rfl
  rw [rereadTrays_eq]
  exact hposted.mono (rereadPgs_read _).1.records

theorem rereadTrays_unexpected {i : TrayId} (hp : s.trays[i].present = s.pins.prsnt[i])
    (h : s.trays[i].state = .off ∨ s.trays[i].state = .queued ∨ (s.trays[i].state = .failed ∧ s.trays[i].cause ≠ some .stuckOn))
    (hl : s.pins.pg[i] = true) :
    NoticeIn { kind := .trayUnexpectedPg, subject := some i.val, value := none, time := s.time } (rereadTrays s) := by
  obtain ⟨hquiet, hpresence⟩ := rereadPresences_quiet hs
  have hi : (rereadPresences s).trays[i] = s.trays[i] := (hpresence i).trans (presenceRead_same hp)
  have hturn : ∀ t, QuietRead s t → t.trays[i] = s.trays[i] →
      NoticeIn { kind := .trayUnexpectedPg, subject := some i.val, value := none, time := s.time } (rereadPg i t) := fun t ht hx => by
    rw [← ht.read.side.time]
    exact rereadPg_notice (by rw [hx]; exact h) (by rw [ht.read.side.pins]; exact hl)
  generalize ({ kind := .trayUnexpectedPg, subject := some i.val, value := none, time := s.time } : Notice) = n at *
  rw [rereadTrays_eq]
  unfold rereadPgs
  exact foldl_reaches (P := QuietRead s) (N := NoticeIn n) (get := fun t (j : TrayId) => t.trays[j]) (x := s.trays[i])
    (fun _ j h => rereadPg_quiet j h) (fun t j _ hn => hn.mono (rereadPg_read j t).records)
    (fun _ j h hj => (rereadPg_get j i h).trans (if_neg hj)) hturn (mem_allTrays i) hquiet hi

end

end Sys2Proof.Machine
end

section
/-! PROOFS. The end switches are reread (R139, R143, R146). -/
namespace Sys2Proof.Machine

/-- What the rereads of the end switches change: loop records and notices. -/
structure ValvesRead (s t : State) : Prop where
  frame : t = { s with loops := t.loops, notices := t.notices }
  records : s.notices.records <+: t.notices.records

namespace ValvesRead
variable {s t u : State}

theorem refl (s : State) : ValvesRead s s := ⟨rfl, List.prefix_rfl⟩

theorem trans (h : ValvesRead s t) (k : ValvesRead t u) : ValvesRead s u := by
  refine ⟨?_, h.records.trans k.records⟩
  have hh := h.frame
  have hk := k.frame
  generalize t.loops = loops at hh
  generalize t.notices = notices at hh
  calc u = { t with loops := u.loops, notices := u.notices } := hk
    _ = { ({ s with loops := loops, notices := notices } : State) with loops := u.loops, notices := u.notices } :=
      congrArg (fun x : State => { x with loops := u.loops, notices := u.notices }) hh
    _ = { s with loops := u.loops, notices := u.notices } := rfl

theorem pins (h : ValvesRead s t) : t.pins = s.pins := (congrArg State.pins h.frame).trans rfl

theorem time (h : ValvesRead s t) : t.time = s.time := (congrArg State.time h.frame).trans rfl

theorem put (l : LoopId) (x : Loop) (s : State) : ValvesRead s (putLoop l x s) := ⟨rfl, List.prefix_rfl⟩

theorem post (k : NoticeKind) (x v : Option Nat) (s : State) : ValvesRead s (Machine.post k x v s) :=
  ⟨by rw [post_eq], post_records k x v s⟩

end ValvesRead

/-! ### One switch -/

/-- The level of an end switch in a loop record. -/
def switchLevel (sw : EndSwitch) (x : Loop) : Bool :=
  match sw with
  | .opened => x.openSwitch
  | .closed => x.closedSwitch

/-- A loop record with the level of an end switch recorded (R139). -/
def recordedLoop (sw : EndSwitch) (made : Bool) (x : Loop) : Loop :=
  match sw with
  | .opened => { x with openSwitch := made }
  | .closed => { x with closedSwitch := made }

/-- The valve travels to the end of this switch, or is stuck on its way there (R143). -/
def arrives (sw : EndSwitch) (x : Loop) : Bool :=
  match sw with
  | .closed => decide (x.valve = .closing ∨ (x.valve = .stuck ∧ x.drive = true))
  | .opened => decide (x.valve = .opening ∨ (x.valve = .stuck ∧ x.drive = false))

/-- A loop record with the valve at the end of this switch (R143). -/
def arrivedLoop (sw : EndSwitch) (x : Loop) : Loop :=
  match sw with
  | .opened => { x with valve := .opened, travel := none }
  | .closed => { x with valve := .closed, travel := none }

/-- The valve reaches the end of this switch (R143). -/
def valveReaches (sw : EndSwitch) (l : LoopId) (s : State) : State :=
  match sw with
  | .opened => valveReachesOpen l s
  | .closed => valveReachesClosed l s

theorem recordSwitch_eq (l : LoopId) (sw : EndSwitch) (made : Bool) (s : State) :
    recordSwitch l sw made s = putLoop l (recordedLoop sw made s.loops[l]) s := by
  cases sw <;> rfl

/-- An edge on which the valve stays where it is (R139, R143). -/
theorem switchEdge_stays {l : LoopId} {sw : EndSwitch} {made : Bool} {s : State} (h : ¬ (made = true ∧ arrives sw s.loops[l] = true)) :
    switchEdge l sw made s = putLoop l (recordedLoop sw made s.loops[l]) s := by
  have hget := (putLoop_get l l (recordedLoop sw made s.loops[l]) s).trans (if_pos rfl)
  unfold switchEdge
  rw [recordSwitch_eq]
  dsimp only
  rw [hget]
  cases made with
  | false => rfl
  | true => cases sw <;> exact if_neg fun ha => h ⟨rfl, decide_eq_true ha⟩

/-- An edge on which the valve reaches its end (R143). -/
theorem switchEdge_arrives {l : LoopId} {sw : EndSwitch} {s : State} (h : arrives sw s.loops[l] = true) :
    switchEdge l sw true s = valveReaches sw l (putLoop l (recordedLoop sw true s.loops[l]) s) := by
  have hget := (putLoop_get l l (recordedLoop sw true s.loops[l]) s).trans (if_pos rfl)
  unfold switchEdge
  rw [recordSwitch_eq]
  dsimp only
  rw [hget]
  cases sw <;> exact if_pos (of_decide_eq_true h)

theorem valveReaches_read (sw : EndSwitch) (l : LoopId) (s : State) : ValvesRead s (valveReaches sw l s) := by
  cases sw with
  | opened => exact .put l _ s
  | closed => exact (ValvesRead.put l _ s).trans (.post _ _ _ _)

theorem valveReaches_get (sw : EndSwitch) (l m : LoopId) (s : State) :
    (valveReaches sw l s).loops[m] = if l = m then arrivedLoop sw s.loops[l] else s.loops[m] := by
  cases sw with
  | opened => exact putLoop_get l m _ s
  | closed => exact (post_loop_get _ _ _ _ m).trans (putLoop_get l m _ s)

/-- A loop record after an edge of an end switch (R143). -/
def switchedLoop (sw : EndSwitch) (made : Bool) (x : Loop) : Loop :=
  if made = true ∧ arrives sw x = true then arrivedLoop sw (recordedLoop sw made x) else recordedLoop sw made x

/-- What an edge of an end switch comes to (R139, R143). -/
theorem switchEdge_read (l : LoopId) (sw : EndSwitch) (made : Bool) (s : State) :
    ValvesRead s (switchEdge l sw made s) ∧
      ∀ m : LoopId, (switchEdge l sw made s).loops[m] = if l = m then switchedLoop sw made s.loops[m] else s.loops[m] := by
  by_cases h : made = true ∧ arrives sw s.loops[l] = true
  · obtain ⟨rfl, harrives⟩ := h
    rw [switchEdge_arrives harrives]
    refine ⟨(ValvesRead.put l _ s).trans (valveReaches_read sw l _), fun m => ?_⟩
    rw [valveReaches_get, putLoop_get, putLoop_get, if_pos rfl]
    split
    · next e => subst e; exact (if_pos ⟨rfl, harrives⟩).symm
    · rfl
  · rw [switchEdge_stays h]
    refine ⟨.put l _ s, fun m => (putLoop_get l m _ s).trans ?_⟩
    split
    · next e => subst e; exact (if_neg h).symm
    · rfl

/-- One switch of a loop is reread. -/
theorem rereadSwitch_read (l : LoopId) (sw : EndSwitch) (level : Bool) (s : State) :
    ValvesRead s (rereadSwitch l sw (switchLevel sw s.loops[l]) level s) ∧
      ∀ m : LoopId, (rereadSwitch l sw (switchLevel sw s.loops[l]) level s).loops[m] =
        if l = m then (if switchLevel sw s.loops[m] = level then s.loops[m] else switchedLoop sw level s.loops[m]) else s.loops[m] := by
  unfold rereadSwitch
  by_cases h : switchLevel sw s.loops[l] = level
  · rw [if_pos h]
    refine ⟨.refl s, fun m => ?_⟩
    split
    · next e => subst e; exact (if_pos h).symm
    · rfl
  · rw [if_neg h]
    obtain ⟨hread, hget⟩ := switchEdge_read l sw level s
    refine ⟨hread, fun m => (hget m).trans ?_⟩
    split
    · next e => subst e; exact (if_neg h).symm
    · rfl

/-! ### One loop -/

/-- A loop record after the reread of one of its switches (R146). -/
def loopSwitchRead (sw : EndSwitch) (level : Bool) (x : Loop) : Loop :=
  if switchLevel sw x = level then x else switchedLoop sw level x

/-- A loop record after the reread of both its switches (R146). -/
def loopRead (opened closed : Bool) (x : Loop) : Loop := loopSwitchRead .closed closed (loopSwitchRead .opened opened x)

/-- The open switch of a loop is reread. -/
def rereadOpened (l : LoopId) (s : State) : State := rereadSwitch l .opened (switchLevel .opened s.loops[l]) s.pins.openSwitch[l] s

/-- The closed switch of a loop is reread. -/
def rereadClosed (l : LoopId) (s : State) : State := rereadSwitch l .closed (switchLevel .closed s.loops[l]) s.pins.closedSwitch[l] s

/-- Both switches of a loop are reread, the open one first (R146; assumption log 14). -/
def rereadLoop (l : LoopId) (s : State) : State := rereadClosed l (rereadOpened l s)

theorem rereadValves_eq (s : State) : rereadValves s = allLoops.foldl (fun s l => rereadLoop l s) s := rfl

theorem rereadOpened_read (l : LoopId) (s : State) :
    ValvesRead s (rereadOpened l s) ∧ ∀ m : LoopId, (rereadOpened l s).loops[m] =
      if l = m then loopSwitchRead .opened s.pins.openSwitch[l] s.loops[m] else s.loops[m] := rereadSwitch_read l .opened _ s

theorem rereadClosed_read (l : LoopId) (s : State) :
    ValvesRead s (rereadClosed l s) ∧ ∀ m : LoopId, (rereadClosed l s).loops[m] =
      if l = m then loopSwitchRead .closed s.pins.closedSwitch[l] s.loops[m] else s.loops[m] := rereadSwitch_read l .closed _ s

theorem rereadLoop_read (l : LoopId) (s : State) :
    ValvesRead s (rereadLoop l s) ∧ ∀ m : LoopId, (rereadLoop l s).loops[m] =
      if l = m then loopRead s.pins.openSwitch[l] s.pins.closedSwitch[l] s.loops[m] else s.loops[m] := by
  obtain ⟨hfirst, hopen⟩ := rereadOpened_read l s
  obtain ⟨hlast, hclosed⟩ := rereadClosed_read l (rereadOpened l s)
  refine ⟨hfirst.trans hlast, fun m => (hclosed m).trans ?_⟩
  rw [hopen, hfirst.pins]
  split <;> rfl

/-! ### All of them -/

theorem allLoops_nodup : allLoops.Nodup := List.nodup_finRange 4

/-- The reread of the eight end switches (R146). -/
theorem rereadValves_read (s : State) :
    ValvesRead s (rereadValves s) ∧
      ∀ l : LoopId, (rereadValves s).loops[l] = loopRead s.pins.openSwitch[l] s.pins.closedSwitch[l] s.loops[l] := by
  obtain ⟨hread, hall⟩ := foldl_get (P := ValvesRead s) (step := fun t l => rereadLoop l t) (get := fun t (l : LoopId) => t.loops[l])
    (f := fun l => loopRead s.pins.openSwitch[l] s.pins.closedSwitch[l]) (fun t l h => h.trans (rereadLoop_read l t).1)
    (fun t l m h => by rw [(rereadLoop_read l t).2 m, h.pins]) allLoops_nodup (.refl s)
  exact ⟨hread, fun l => (hall l).trans (if_pos (mem_allLoops l))⟩

theorem recordedLoop_level (sw : EndSwitch) (made : Bool) (x : Loop) : switchLevel sw (recordedLoop sw made x) = made := by
  cases sw <;> rfl

theorem loopSwitchRead_level (sw : EndSwitch) (level : Bool) (x : Loop) : switchLevel sw (loopSwitchRead sw level x) = level := by
  unfold loopSwitchRead switchedLoop
  split
  · next h => exact h
  · split
    · cases sw <;> rfl
    · exact recordedLoop_level sw level x

theorem loopSwitchRead_other (level : Bool) (x : Loop) :
    switchLevel .opened (loopSwitchRead .closed level x) = switchLevel .opened x := by
  unfold loopSwitchRead switchedLoop
  split
  · rfl
  · split <;> rfl

/-- The switch records read as the pins do (R139, R146). -/
theorem loopRead_levels (opened closed : Bool) (x : Loop) :
    (loopRead opened closed x).openSwitch = opened ∧ (loopRead opened closed x).closedSwitch = closed :=
  ⟨(loopSwitchRead_other closed _).trans (loopSwitchRead_level .opened opened x), loopSwitchRead_level .closed closed _⟩

/-- With both switches as recorded a loop keeps its record. -/
theorem loopRead_same {opened closed : Bool} {x : Loop} (h : x.openSwitch = opened ∧ x.closedSwitch = closed) : loopRead opened closed x = x := by
  have hopen : loopSwitchRead .opened opened x = x := if_pos h.1
  rw [loopRead, hopen]
  exact if_pos h.2

/-- A closing valve does not hear of the open switch (R143). -/
theorem loopSwitchRead_closing (level : Bool) {x : Loop} (h : x.valve = .closing) :
    (loopSwitchRead .opened level x).valve = .closing ∧ (loopSwitchRead .opened level x).closedSwitch = x.closedSwitch := by
  have hno : ¬ (level = true ∧ arrives .opened x = true) := fun hboth => by
    rcases of_decide_eq_true hboth.2 with ha | ⟨ha, -⟩ <;> exact ValveState.noConfusion (h.symm.trans ha)
  unfold loopSwitchRead switchedLoop
  rw [if_neg hno]
  split
  · exact ⟨h, rfl⟩
  · exact ⟨h, rfl⟩

/-- A closing valve whose closed switch is found made has closed (R143, R146). -/
theorem loopRead_closes (opened : Bool) {x : Loop} (h : x.valve = .closing) (hs : x.closedSwitch = false) :
    (loopRead opened true x).valve = .closed ∧ (loopRead opened true x).travel = none := by
  obtain ⟨hvalve, hswitch⟩ := loopSwitchRead_closing opened h
  unfold loopRead
  generalize loopSwitchRead .opened opened x = y at *
  have hread : loopSwitchRead .closed true y = arrivedLoop .closed (recordedLoop .closed true y) :=
    (if_neg fun he => Bool.false_ne_true ((hswitch.trans hs).symm.trans he)).trans (if_pos ⟨rfl, decide_eq_true (Or.inl hvalve)⟩)
  rw [hread]
  exact ⟨rfl, rfl⟩

/-- An opening valve whose open switch is found made has opened (R143, R146). -/
theorem loopRead_opens (closed : Bool) {x : Loop} (h : x.valve = .opening) (hs : x.openSwitch = false) :
    (loopRead true closed x).valve = .opened ∧ (loopRead true closed x).travel = none := by
  have hopen : loopSwitchRead .opened true x = arrivedLoop .opened (recordedLoop .opened true x) :=
    (if_neg fun he => Bool.false_ne_true (hs.symm.trans he)).trans (if_pos ⟨rfl, decide_eq_true (Or.inl h)⟩)
  have hno : ∀ y : Loop, y.valve = .opened → ¬ (closed = true ∧ arrives .closed y = true) := fun y hy hboth => by
    rcases of_decide_eq_true hboth.2 with ha | ⟨ha, -⟩ <;> exact ValveState.noConfusion (hy.symm.trans ha)
  rw [loopRead, hopen]
  unfold loopSwitchRead switchedLoop
  rw [if_neg (hno (arrivedLoop .opened (recordedLoop .opened true x)) rfl)]
  split
  · exact ⟨rfl, rfl⟩
  · exact ⟨rfl, rfl⟩

/-- A valve that is found closed is posted (R143, R146). -/
theorem rereadLoop_notice {l : LoopId} {s : State} (h : s.loops[l].valve = .closing) (hs : s.loops[l].closedSwitch = false)
    (hl : s.pins.closedSwitch[l] = true) :
    NoticeIn { kind := .valveClosed, subject := some l.val, value := none, time := s.time } (rereadLoop l s) := by
  obtain ⟨hread, hget⟩ := rereadOpened_read l s
  obtain ⟨hvalve, hswitch⟩ := loopSwitchRead_closing s.pins.openSwitch[l] h
  rw [← (hget l).trans (if_pos rfl)] at hvalve hswitch
  unfold rereadLoop
  rw [← hread.pins] at hl
  rw [← hread.time]
  generalize rereadOpened l s = y at *
  have hedge : rereadClosed l y = valveReaches .closed l (putLoop l (recordedLoop .closed true y.loops[l]) y) := by
    unfold rereadClosed rereadSwitch
    have hclosed : switchLevel .closed y.loops[l] = false := hswitch.trans hs
    rw [hl, hclosed, if_neg Bool.false_ne_true]
    exact switchEdge_arrives (decide_eq_true (Or.inl hvalve))
  rw [hedge]
  exact noticeIn_post .valveClosed (some l.val) none (putLoop l _ (putLoop l (recordedLoop .closed true y.loops[l]) y))

theorem rereadValves_notice {l : LoopId} {s : State} (h : s.loops[l].valve = .closing) (hs : s.loops[l].closedSwitch = false)
    (hl : s.pins.closedSwitch[l] = true) :
    NoticeIn { kind := .valveClosed, subject := some l.val, value := none, time := s.time } (rereadValves s) := by
  have hturn : ∀ t, ValvesRead s t → t.loops[l] = s.loops[l] →
      NoticeIn { kind := .valveClosed, subject := some l.val, value := none, time := s.time } (rereadLoop l t) := fun t ht hx => by
    rw [← ht.time]
    exact rereadLoop_notice (by rw [hx]; exact h) (by rw [hx]; exact hs) (by rw [ht.pins]; exact hl)
  generalize ({ kind := .valveClosed, subject := some l.val, value := none, time := s.time } : Notice) = n at *
  rw [rereadValves_eq]
  exact foldl_reaches (P := ValvesRead s) (N := NoticeIn n) (get := fun t (m : LoopId) => t.loops[m]) (x := s.loops[l])
    (fun t m ht => ht.trans (rereadLoop_read m t).1) (fun t m _ hn => hn.mono (rereadLoop_read m t).1.records)
    (fun t m _ hm => ((rereadLoop_read m t).2 l).trans (if_neg hm)) hturn (mem_allLoops l) (.refl s) rfl

/-- With every switch as recorded the reread finds nothing (R146). -/
theorem rereadValves_same {s : State}
    (h : ∀ l : LoopId, s.loops[l].openSwitch = s.pins.openSwitch[l] ∧ s.loops[l].closedSwitch = s.pins.closedSwitch[l]) : rereadValves s = s := by
  have hstep : ∀ l, rereadLoop l s = s := fun l => by
    have hopen : rereadOpened l s = s := if_pos (h l).1
    rw [rereadLoop, hopen]
    exact if_pos (h l).2
  rw [rereadValves_eq]
  exact List.foldl_fixed' hstep allLoops

end Sys2Proof.Machine
end

section
/-! PROOFS. IFAIL is reread (R92 to R95, R100, R102, R107). -/
namespace Sys2Proof.Machine

theorem EntersNormal.present {s t : State} (h : EntersNormal s t) (i : TrayId) : t.trays[i].present = s.trays[i].present := by
  obtain ⟨u, hfirst, hlast⟩ := h.moves
  exact (hlast.present i).trans (hfirst.present i)

theorem rereadIfail_present (s : State) (i : TrayId) : (rereadIfail s).trays[i].present = s.trays[i].present := by
  rcases rereadIfail_cases s with h | h
  · exact h.present i
  · exact h.present i

/-! ### What IFAIL makes of the shelf power state -/

theorem enterSagQualify_ilc (s : State) :
    (enterSagQualify s).ilc =
      { s.ilc with ifail := true, sagStart := some s.time, qualify := some s.params.qualifyTime, state := .sagQualify } :=
  setShelf_ilc .sagQualify _

theorem enterSagQualify_shelf (s : State) : ShelfOnly s (enterSagQualify s) :=
  (setShelf_shelf .sagQualify
    { s with ilc := { s.ilc with ifail := true, sagStart := some s.time, qualify := some s.params.qualifyTime } }).after_ilc

theorem inputFlicker_only (s : State) : ShelfOnly s (inputFlicker s) :=
  (setShelf_shelf .rideThrough { s with ilc := { s.ilc with ifail := true, restore := none } }).after_ilc.trans (evalRide_shelf _)

/-- An evaluation in RIDE-THROUGH with IFAIL asserted keeps the restore timer stopped (R97, R99). -/
theorem evalRide_ilc {s : State} (hi : s.ilc.ifail = true) (hn : s.ilc.restore = none) (hs : s.ilc.state = .rideThrough) :
    (evalRide s).ilc.lastR = s.ilc.lastR ∧ (evalRide s).ilc.restore = none ∧
      (evalRide s).ilc.state = if s.ilc.lastR = 0 then .exhausted else .rideThrough := by
  by_cases hr : s.ilc.lastR = 0
  · rw [evalRide_exhausted hr hi, exhaustedPart_ilc, if_pos hr]
    exact ⟨rfl, rfl, rfl⟩
  · rw [if_neg hr, evalRide, if_neg hr]
    unfold evalStage
    dsimp only
    split
    · rw [raiseStage_ilc]
      exact ⟨rfl, hn, hs⟩
    · exact ⟨rfl, hn, hs⟩

theorem inputFlicker_ilc (s : State) :
    (inputFlicker s).ilc.restore = none ∧
      (inputFlicker s).ilc.state = if (inputFlicker s).ilc.lastR = 0 then .exhausted else .rideThrough := by
  have hset := setShelf_ilc .rideThrough { s with ilc := { s.ilc with ifail := true, restore := none } }
  unfold inputFlicker
  generalize setShelf .rideThrough { s with ilc := { s.ilc with ifail := true, restore := none } } = x at *
  obtain ⟨hlast, hrestore, hstate⟩ := evalRide_ilc (s := x) (by rw [hset]) (by rw [hset]) (by rw [hset])
  exact ⟨hrestore, by rw [hlast]; exact hstate⟩

theorem enterRestoreHold_only (s : State) : ShelfOnly s (enterRestoreHold { s with ilc := { s.ilc with ifail := false } }) :=
  (enterRestoreHold_shelf { s with ilc := { s.ilc with ifail := false } }).after_ilc

/-! ### The reread -/

theorem rereadIfail_same {s : State} (h : s.pins.ifail = expectedIfail s.ilc.state) : rereadIfail s = s := by
  unfold rereadIfail
  rw [h]
  cases expectedIfail s.ilc.state <;> rfl

theorem rereadIfail_asserted {s : State} (h : expectedIfail s.ilc.state = false) (hi : s.pins.ifail = true) :
    rereadIfail s = ifailAsserted s := by
  unfold rereadIfail
  rw [h, hi]

theorem rereadIfail_released {s : State} (h : expectedIfail s.ilc.state = true) (hi : s.pins.ifail = false) :
    rereadIfail s = ifailReleased s := by
  unfold rereadIfail
  rw [h, hi]

/-- What the shelf power state makes of IFAIL as it is reread (R107). -/
structure IfailHeard (s t : State) : Prop where
  agrees : expectedIfail t.ilc.state = s.pins.ifail
  begins : s.ilc.state = .normal → s.pins.ifail = true →
    t.ilc.state = .sagQualify ∧ t.ilc.sagStart = some s.time ∧ t.ilc.qualify = some s.params.qualifyTime
  ridden : s.ilc.state = .sagQualify → s.pins.ifail = false →
    t.ilc.state = .normal ∧ t.ilc.lastSag = sagWidth s ∧
      NoticeIn { kind := .sagRidden, subject := none, value := some (sagWidth s), time := s.time } t
  back : s.ilc.state = .rideThrough ∨ s.ilc.state = .exhausted → s.pins.ifail = false →
    t.ilc.state = .restoreHold ∧ t.ilc.restore = some (s.params.restoreHold * 1000)
  again : s.ilc.state = .restoreHold → s.pins.ifail = true →
    t.ilc.state = (if t.ilc.lastR = 0 then .exhausted else .rideThrough) ∧ t.ilc.restore = none

theorem IfailHeard.later {s t u : State} (h : IfailHeard s t) (hi : u.ilc = t.ilc) (hmore : t.notices.records <+: u.notices.records) :
    IfailHeard s u := by
  obtain ⟨hagrees, hbegins, hridden, hback, hagain⟩ := h
  rw [← hi] at hagrees hbegins hridden hback hagain
  exact ⟨hagrees, hbegins, fun hs hp => ⟨(hridden hs hp).1, (hridden hs hp).2.1, (hridden hs hp).2.2.mono hmore⟩, hback, hagain⟩

/-- What the reread of IFAIL comes to (R107). -/
structure IfailRead (s t : State) : Prop extends IfailHeard s t where
  only : ShelfOnly s t
  fits : GrantsFit s → GrantsFit t

/-- IFAIL as the shelf power state expects it. -/
theorem IfailRead.still {s : State} (h : s.pins.ifail = expectedIfail s.ilc.state) : IfailRead s s where
  only := .refl s
  fits := id
  agrees := h.symm
  begins hs hi := by
    rw [hs, hi] at h
    exact absurd h (by decide)
  ridden hs hi := by
    rw [hs, hi] at h
    exact absurd h (by decide)
  back hs hi := by
    rcases hs with hs | hs <;> rw [hs, hi] at h <;> exact absurd h (by decide)
  again hs hi := by
    rw [hs, hi] at h
    exact absurd h (by decide)

theorem IfailRead.of_normal {s : State} (hs : s.ilc.state = .normal) (hi : s.pins.ifail = true) : IfailRead s (enterSagQualify s) where
  only := enterSagQualify_shelf s
  fits := setShelf_fit .sagQualify (s := { s with ilc := { s.ilc with ifail := true, sagStart := some s.time, qualify := some s.params.qualifyTime } })
  agrees := by
    rw [enterSagQualify_ilc, hi]
    rfl
  begins _ _ := by
    rw [enterSagQualify_ilc]
    exact ⟨rfl, rfl, rfl⟩
  ridden h := ShelfState.noConfusion (hs.symm.trans h)
  back h := h.elim (fun h => ShelfState.noConfusion (hs.symm.trans h)) fun h => ShelfState.noConfusion (hs.symm.trans h)
  again h := ShelfState.noConfusion (hs.symm.trans h)

theorem IfailRead.of_sag {s : State} (hs : s.ilc.state = .sagQualify) (hi : s.pins.ifail = false) : IfailRead s (sagRidden s) := by
  obtain ⟨hshelf, hilc, hnotice, -, -⟩ := sagRidden_outcome (s := s) rfl
  have hfit := sagRidden_fit (s := s)
  generalize sagRidden s = t at *
  refine ⟨⟨?_, fun h => ShelfState.noConfusion (hs.symm.trans h), fun _ _ => ?_,
    fun h => h.elim (fun h => ShelfState.noConfusion (hs.symm.trans h)) fun h => ShelfState.noConfusion (hs.symm.trans h),
    fun h => ShelfState.noConfusion (hs.symm.trans h)⟩, hshelf, hfit⟩
  · rw [hilc, hi]
    rfl
  · rw [hilc]
    exact ⟨rfl, rfl, hnotice⟩

theorem IfailRead.of_riding {s : State} (hs : s.ilc.state = .rideThrough ∨ s.ilc.state = .exhausted) (hi : s.pins.ifail = false) :
    IfailRead s (enterRestoreHold (inputBack s)) := by
  have hshelf : ShelfOnly s (enterRestoreHold (inputBack s)) := enterRestoreHold_only s
  have hfit : GrantsFit s → GrantsFit (enterRestoreHold (inputBack s)) := fun h => enterRestoreHold_fit (s := inputBack s) h
  have hilc := enterRestoreHold_ilc (inputBack s)
  have hnot : ∀ x : ShelfState, x ≠ .rideThrough → x ≠ .exhausted → s.ilc.state ≠ x := fun x h1 h2 hx =>
    hs.elim (fun h => h1 (hx.symm.trans h)) fun h => h2 (hx.symm.trans h)
  generalize enterRestoreHold (inputBack s) = t at *
  refine ⟨⟨?_, fun h => absurd h (hnot _ (by decide) (by decide)), fun h => absurd h (hnot _ (by decide) (by decide)),
    fun _ _ => ?_, fun h => absurd h (hnot _ (by decide) (by decide))⟩, hshelf, hfit⟩
  · rw [hilc, hi]
    rfl
  · rw [hilc]
    exact ⟨rfl, rfl⟩

theorem IfailRead.of_hold {s : State} (hs : s.ilc.state = .restoreHold) (hi : s.pins.ifail = true) : IfailRead s (inputFlicker s) := by
  have hshelf := inputFlicker_only s
  have hfit := inputFlicker_fit (s := s)
  obtain ⟨hrestore, hstate⟩ := inputFlicker_ilc s
  generalize inputFlicker s = t at *
  refine ⟨⟨?_, fun h => ShelfState.noConfusion (hs.symm.trans h), fun h => ShelfState.noConfusion (hs.symm.trans h),
    fun h => h.elim (fun h => ShelfState.noConfusion (hs.symm.trans h)) fun h => ShelfState.noConfusion (hs.symm.trans h),
    fun _ _ => ⟨hstate, hrestore⟩⟩, hshelf, hfit⟩
  rw [hstate, hi]
  split <;> rfl

theorem rereadIfail_read (s : State) : IfailRead s (rereadIfail s) := by
  by_cases h : s.pins.ifail = expectedIfail s.ilc.state
  · rw [rereadIfail_same h]
    exact .still h
  · cases hi : s.pins.ifail with
    | true =>
      have he : expectedIfail s.ilc.state = false := Bool.eq_false_iff.mpr fun he => h (hi.trans he.symm)
      rw [rereadIfail_asserted he hi]
      cases hs : s.ilc.state with
      | normal =>
        rw [ifailAsserted_normal hs]
        exact .of_normal hs hi
      | restoreHold =>
        rw [ifailAsserted_restoreHold hs]
        exact .of_hold hs hi
      | sagQualify | rideThrough | exhausted =>
        rw [hs] at he
        exact absurd he (by decide)
    | false =>
      have he : expectedIfail s.ilc.state = true := Bool.eq_true_of_not_eq_false fun he => h (hi.trans he.symm)
      rw [rereadIfail_released he hi]
      cases hs : s.ilc.state with
      | sagQualify =>
        rw [ifailReleased_sag hs]
        exact .of_sag hs hi
      | rideThrough =>
        rw [ifailReleased_riding (Or.inl hs)]
        exact .of_riding (Or.inl hs) hi
      | exhausted =>
        rw [ifailReleased_riding (Or.inr hs)]
        exact .of_riding (Or.inr hs) hi
      | normal | restoreHold =>
        rw [hs] at he
        exact absurd he (by decide)

end Sys2Proof.Machine
end

section
/-! PROOFS. A warm reset from the rereads of the trays to its end (R17, R29, R51, R91, R107, R146, R179). -/
namespace Sys2Proof.Machine

/-! ### Up to the reread of IFAIL -/

/-- The part once trays and modules have been reread and the deficit has been evaluated. -/
structure WarmReady (k : ResetKind) (s d : State) : Prop where
  frame : ModuleFrame (warmed k s) d
  shelf : ShelfSteady (warmed k s).ilc d.ilc
  present : ∀ i : TrayId, d.trays[i].present = s.pins.prsnt[i]
  records : ∀ j : SlotId, moduleRecord d j = rereadRecord s.pins.modulePresent[j] (moduleRecord (warmed k s) j)
  unpolled : ∀ j : SlotId, s.mbc.slots[j].present = false → j ∉ d.mbc.schedule ∧ d.mbc.poll.map Poll.slot ≠ some j
  fits : GrantsFit d

theorem ModuleFrame.pins {s t : State} (h : ModuleFrame s t) : t.pins = s.pins := (congrArg State.pins h).trans rfl

theorem ModuleFrame.test {s t : State} (h : ModuleFrame s t) : t.test = s.test := (congrArg State.test h).trans rfl

theorem WarmStarted.moduleFrame {k : ResetKind} {s w : State} (h : WarmStarted k s w) : ModuleFrame (warmed k s) w := by
  have hframe := h.frame
  have hrects : w.rects = (warmed k s).rects := (congrArg State.rects hframe).trans rfl
  rw [ModuleFrame, hrects]
  exact hframe

theorem WarmStarted.records {k : ResetKind} {s w : State} (h : WarmStarted k s w) (j : SlotId) :
    moduleRecord w j = moduleRecord (warmed k s) j := by
  have hrects : w.rects = (warmed k s).rects := (congrArg State.rects h.frame).trans rfl
  rw [moduleRecord, moduleRecord, h.slots, ownerRecord_congr hrects h.units]

/-- A step of the rack that leaves the bus as it is keeps the records of the module slots. -/
theorem RackOnly.moduleRecord {s t : State} (h : RackOnly s t) (j : SlotId) : moduleRecord t j = moduleRecord s j := by
  rw [Machine.moduleRecord, Machine.moduleRecord, h.mbc, (ShelfOnly.of_rackOnly h).ownerRecord]

theorem warmDeficit_rack (s : State) : RackMove s (warmDeficit s) := (evalDeficit_move s).trans (seqAfter_move s _)

theorem warmRereads_ready (k : ResetKind) {s : State} (h : TestLaw s) : WarmReady k s (warmRereads (warmStart k s)) := by
  have hstart := warmStart_started k h
  unfold warmRereads
  generalize warmStart k s = w at *
  obtain ⟨htrays, hpresent⟩ := rereadTrays_read w
  generalize rereadTrays w = a at *
  have hside : RackOnly w a := .of_side htrays.side
  have hframe : ModuleFrame (warmed k s) a := hstart.moduleFrame.trans hside.moduleFrame
  have hinactive : a.testActive = false := by
    have hw := warmed_testActive k s
    rw [State.testActive, hframe.test]
    exact hw
  obtain ⟨hmodules, hrecords⟩ := rereadModules_read hinactive
  generalize rereadModules a = m at *
  have hdeficit := warmDeficit_rack m
  generalize warmDeficit m = d at *
  have hlast : RackOnly m d := .of_side hdeficit.side
  have hpins : a.pins = s.pins := hframe.pins
  refine ⟨(hframe.trans hmodules.frame).trans hlast.moduleFrame, ?_, fun i => ?_, fun j => ?_, fun j hj => ?_, ?_⟩
  · exact ((hstart.shelf.trans (.of_eq hside.ilc)).trans hmodules.shelf).trans (.of_eq hlast.ilc)
  · have hw : w.pins = s.pins := hstart.moduleFrame.pins
    rw [hdeficit.present i, hmodules.present i, hpresent i, hw]
  · rw [hlast.moduleRecord, hrecords j, hpins, hside.moduleRecord, hstart.records]
  · have hunpolled := hstart.unpolled j hj
    rw [← hside.mbc] at hunpolled
    rw [hlast.mbc]
    exact hmodules.unpolled j hunpolled
  · exact hdeficit.grantsFit (hmodules.fits (htrays.fits hstart.fits))

/-! ### The end -/

/-- With the LEAK lockouts as they must be, their recomputation changes none (R135). -/
theorem leakRecompute_still {s : State} (h : ∀ i : TrayId, s.trays[i].locks.leak = mustLeak s i) : leakRecompute s = propagate s s := by
  have hgains : leakGains s = [] := List.filter_eq_nil_iff.mpr fun i _ => by
    rw [h i]
    cases mustLeak s i <;> decide
  have hlosses : leakLosses s = [] := List.filter_eq_nil_iff.mpr fun i _ => by
    rw [h i]
    cases mustLeak s i <;> decide
  rw [leakRecompute, hgains, hlosses]
  rfl

/-- What a warm reset has made of the part at its end. -/
structure WarmEnded (k : ResetKind) (s t : State) : Prop where
  constants : t.held = s.held ∧ t.pins = s.pins ∧ t.time = s.time
  present : ∀ i : TrayId, t.trays[i].present = s.pins.prsnt[i]
  records : ∀ j : SlotId, moduleRecord t j = rereadRecord s.pins.modulePresent[j] (moduleRecord (warmed k s) j)
  unpolled : ∀ j : SlotId, s.mbc.slots[j].present = false → j ∉ t.mbc.schedule ∧ t.mbc.poll.map Poll.slot ≠ some j
  fits : GrantsFit t
  heard : ∃ d, WarmReady k s d ∧ IfailHeard d t
  loops : ∀ l : LoopId, t.loops[l] = loopRead s.pins.openSwitch[l] s.pins.closedSwitch[l] (warmed k s).loops[l]
  closes : ∀ l : LoopId, s.loops[l].valve = .closing → s.loops[l].closedSwitch = false → s.pins.closedSwitch[l] = true →
    NoticeIn { kind := .valveClosed, subject := some l.val, value := none, time := s.time } t

theorem warmReset_ended (k : ResetKind) {s : State} (h : TestLaw s) (hl : LeakLaws s) : WarmEnded k s (warmReset k s) := by
  have hready := warmRereads_ready k h
  have hleak := (leakLaws_kept.warmRead k s hl).2.1.2.2
  rw [warmReset_eq]
  generalize warmRereads (warmStart k s) = d at *
  have hifail := rereadIfail_read d
  have hpresent := rereadIfail_present d
  generalize rereadIfail d = f at *
  obtain ⟨hvalves, hloops⟩ := rereadValves_read f
  have hnotice := fun l => rereadValves_notice (s := f) (l := l)
  generalize rereadValves f = v at *
  have hmove := propagate_move v v
  have hnotes := (propagate_notes v v).records
  rw [leakRecompute_still hleak]
  generalize propagate v v = t at *
  have hlast : RackOnly v t := .of_side hmove.side
  obtain ⟨loops, notices, rfl⟩ : ∃ loops notices, v = { f with loops := loops, notices := notices } := ⟨_, _, hvalves.frame⟩
  have hd : d.held = s.held ∧ d.pins = s.pins ∧ d.time = s.time ∧ d.loops = (warmed k s).loops :=
    ⟨(congrArg State.held hready.frame).trans rfl, (congrArg State.pins hready.frame).trans rfl, (congrArg State.time hready.frame).trans rfl,
      (congrArg State.loops hready.frame).trans rfl⟩
  have hf : f.held = d.held ∧ f.pins = d.pins ∧ f.time = d.time ∧ f.loops = d.loops ∧ f.mbc = d.mbc := by
    have hframe := hifail.only.1
    exact ⟨(congrArg State.held hframe).trans rfl, (congrArg State.pins hframe).trans rfl, (congrArg State.time hframe).trans rfl,
      (congrArg State.loops hframe).trans rfl, (congrArg State.mbc hframe).trans rfl⟩
  have ht : t.held = f.held ∧ t.pins = f.pins ∧ t.time = f.time ∧ t.loops = loops ∧ t.mbc = f.mbc ∧ t.ilc = f.ilc :=
    ⟨hmove.side.held, hmove.side.pins, hmove.side.time, hmove.side.loops, hmove.side.mbc, hmove.side.ilc⟩
  obtain ⟨hdheld, hdpins, hdtime, hdloops⟩ := hd
  obtain ⟨hfheld, hfpins, hftime, hfloops, hfmbc⟩ := hf
  obtain ⟨htheld, htpins, httime, htloops, htmbc, htilc⟩ := ht
  rw [hfpins, hdpins, hfloops, hdloops] at hloops hnotice
  have hmbc : t.mbc = d.mbc := htmbc.trans hfmbc
  refine ⟨⟨(htheld.trans hfheld).trans hdheld, (htpins.trans hfpins).trans hdpins, (httime.trans hftime).trans hdtime⟩, fun i => ?_, fun j => ?_,
    fun j hj => ?_, ?_, ⟨d, hready, ?_⟩, fun l => ?_, fun l h1 h2 h3 => ?_⟩
  · exact ((hmove.present i).trans (hpresent i)).trans (hready.present i)
  · have hrecord : moduleRecord ({ f with loops := loops, notices := notices } : State) j = moduleRecord d j := by
      rw [moduleRecord, moduleRecord, ← hfmbc, ← hifail.only.ownerRecord]
      rfl
    rw [hlast.moduleRecord, hrecord, hready.records]
  · rw [hmbc]
    exact hready.unpolled j hj
  · have hv : GrantsFit ({ f with loops := loops, notices := notices } : State) := hifail.fits hready.fits
    exact hmove.grantsFit hv
  · exact hifail.toIfailHeard.later htilc (hvalves.records.trans hnotes)
  · rw [htloops]
    exact hloops l
  · have hloop := warmed_loop k s l
    have hposted := hnotice l (by rw [hloop]; exact h1) (by rw [hloop]; exact h2) h3
    rw [hftime, hdtime] at hposted
    exact hposted.mono hnotes

end Sys2Proof.Machine
end

section
/-! PROOFS. A warm reset of a rack at rest whose pins all read as recorded (R29, R51, R73, R91, R107, R127, R146). -/
namespace Sys2Proof.Machine

/-! ### The start leaves the rack at rest -/

theorem warmStart_rackLaw (k : ResetKind) {s : State} (h : RackLaw s) : RackLaw (warmStart k s) := by
  rw [warmStart_eq]
  exact (warmOnward_move _).rackLaw ((setLink_move _ _).rackLaw ((warmRecords_move k s).rackLaw h))

theorem restartTimer_live (t : Tray) : (restartTimer t).countedLive = t.countedLive := by
  rw [restartTimer_eq]
  rfl

theorem warmed_kLive (k : ResetKind) (s : State) : (warmed k s).kLive = s.kLive := by
  unfold State.kLive
  exact congrArg List.sum (List.map_congr_left fun i _ => by rw [warmed_tray, restartTimer_live])

namespace WarmRested
variable {k : ResetKind} {s w : State}

theorem trays (h : WarmRested k s w) : w.trays = (warmed k s).trays := (congrArg State.trays h.frame).trans rfl

theorem tray (h : WarmRested k s w) (i : TrayId) : w.trays[i] = restartTimer s.trays[i] := by
  rw [h.trays]
  exact warmed_tray k s i

theorem run (h : WarmRested k s w) : w.run = (warmed k s).run := (congrArg State.run h.frame).trans rfl

theorem pins (h : WarmRested k s w) : w.pins = s.pins := (congrArg State.pins h.frame).trans rfl

theorem ilc (h : WarmRested k s w) : w.ilc = { (warmed k s).ilc with lastR := s.reserve, lastTEst := s.tEst } :=
  (congrArg State.ilc h.frame).trans rfl

theorem budget (h : WarmRested k s w) : w.budget = { (warmed k s).budget with floorEff := w.budget.floorEff } :=
  (congrArg State.budget h.frame).trans rfl

theorem shelf (h : WarmRested k s w) : w.ilc.state = s.ilc.state := (congrArg InputLoss.state h.ilc).trans rfl

theorem slot (h : WarmRested k s w) (j : SlotId) : w.mbc.slots[j] = { s.mbc.slots[j] with missCount := 0 } := by
  rw [h.mbc]
  simp [Fin.getElem_fin]

theorem loop (h : WarmRested k s w) (l : LoopId) :
    w.loops[l] = { s.loops[l] with travel := s.loops[l].travel.map fun _ => s.params.valveTravel * 1000 } := by
  have hloops : w.loops = (warmed k s).loops := (congrArg State.loops h.frame).trans rfl
  rw [hloops]
  exact warmed_loop k s l

theorem quiet (h : WarmRested k s w) (hlaw : RackLaw w) (hrest : RackAtRest s) : RackQuiet w where
  rests := by
    rw [RunRests, h.run]
    exact warmed_rests k s
  room hn := by
    have hc : w.budget.c = s.budget.c := (congrArg Budget.c h.budget).trans rfl
    rw [kLive_congr h.trays, warmed_kLive, hc]
    exact hrest.1 (h.shelf ▸ hn)
  law := hlaw

end WarmRested

theorem warmStart_quiet (k : ResetKind) {s : State} (h : TestLaw s) (hlaw : RackLaw s) (hrest : RackAtRest s) : RackQuiet (warmStart k s) :=
  (warmStart_rested k h hrest).quiet (warmStart_rackLaw k hlaw) hrest

/-! ### Rereads that find every pin as recorded -/

/-- A tray's record written as it is changes nothing. -/
theorem putTray_same {i : TrayId} {s : State} (h : placeLaw s i) : putTray i s.trays[i] s = s := by
  have hset : s.trays.set i s.trays[i] = s.trays := Vector.set_getElem_self _
  rw [putTray_eq_set i s.trays[i] s h rfl rfl id, hset]

theorem rereadPresence_same {i : TrayId} {s : State} (h : placeLaw s i) (hp : s.trays[i].present = s.pins.prsnt[i]) : rereadPresence i s = s := by
  unfold rereadPresence
  rw [← hp]
  split
  · next ht =>
    have hback : ({ s.trays[i] with present := true } : Tray) = s.trays[i] := presenceRead_same ht
    rw [presenceBack, hback]
    exact putTray_same h
  · rfl

theorem rereadPg_same {i : TrayId} {s : State} (h : expectedPg s.trays[i] = none ∨ expectedPg s.trays[i] = some s.pins.pg[i]) :
    rereadPg i s = s := by
  unfold rereadPg
  rcases h with h | h <;> rw [h]
  cases s.pins.pg[i] <;> rfl

theorem rereadTrays_same {s : State} (hlaw : RackLaw s) (hp : ∀ i : TrayId, s.trays[i].present = s.pins.prsnt[i])
    (hg : ∀ i : TrayId, expectedPg s.trays[i] = none ∨ expectedPg s.trays[i] = some s.pins.pg[i]) : rereadTrays s = s := by
  have hplace : ∀ i, placeLaw s i := fun i => (hlaw.1.1 i).2.2
  have hpresences : rereadPresences s = s := List.foldl_fixed' (fun i => rereadPresence_same (hplace i) (hp i)) allTrays
  rw [rereadTrays_eq, hpresences]
  exact List.foldl_fixed' (fun i => rereadPg_same (hg i)) allTrays

theorem evalDeficit_none {s : State} (h : HasRoom s) (hf : s.budget.deficitActive = false ∧ s.budget.deficitUnresolved = false) :
    evalDeficit s = s := by
  obtain ⟨hactive, hunresolved⟩ := hf
  unfold evalDeficit
  split
  · rfl
  · next hn =>
    have hset : setDeficit false false s = setDeficit s.budget.deficitActive s.budget.deficitUnresolved s := by rw [hactive, hunresolved]
    rw [if_pos (h (not_not.mp hn)), hset]
    rfl

theorem warmDeficit_none {s : State} (h : RackQuiet s) (hf : s.budget.deficitActive = false ∧ s.budget.deficitUnresolved = false) :
    warmDeficit s = s := by
  rw [warmDeficit, evalDeficit_none h.room hf, seqAfter_rests s h.rests]

theorem expectedPg_restartTimer (t : Tray) : expectedPg (restartTimer t) = expectedPg t := by
  unfold restartTimer
  cases ht : t.timer <;> (unfold expectedPg; simp only [ht])

/-! ### The part kept -/

/-- With every pin as recorded, no deficit and no call of the reserve a warm reset ends where its rereads begin. -/
theorem warmReset_rested (k : ResetKind) {s : State} (h : TestLaw s) (hl : LeakLaws s) (hpins : PinsAgree s) (hrest : RackAtRest s) :
    warmReset k s = warmStart k s := by
  obtain ⟨hpresent, hlevel, hmodules, hifail, hswitches⟩ := hpins
  have hrested := warmStart_rested k h hrest
  have hquiet := warmStart_quiet k h hl.1 hrest
  have hleak := (leakLaws_kept.warmRead k s hl).2.1.2.2
  rw [warmReset_eq, warmRereads]
  generalize warmStart k s = w at *
  have hwpins := hrested.pins
  have htrays : rereadTrays w = w := rereadTrays_same hquiet.law
    (fun i => by rw [hrested.tray i, restartTimer_present, hwpins]; exact hpresent i)
    (fun i => by rw [hrested.tray i, expectedPg_restartTimer, hwpins]; exact hlevel i)
  have hslots : rereadModules w = w := rereadModules_same fun j => by rw [hrested.slot j, hwpins]; exact hmodules j
  have hflags : w.budget.deficitActive = false ∧ w.budget.deficitUnresolved = false := by
    rw [hrested.budget]
    exact ⟨rfl, rfl⟩
  have hhead : warmRereads w = w := by
    rw [warmRereads, htrays, hslots]
    exact warmDeficit_none hquiet hflags
  have hinput : rereadIfail w = w := rereadIfail_same (by rw [hwpins, hrested.shelf]; exact hifail)
  have hvalves : rereadValves w = w := rereadValves_same fun l => by rw [hrested.loop l, hwpins]; exact hswitches l
  rw [hhead, hinput, hvalves] at hleak
  rw [warmRereads] at hhead
  rw [hhead, hinput, hvalves, leakRecompute_still hleak]
  exact (noEvent_refl w).propagate_id hquiet.rests.openLaw

/-- A rack at rest stays as it is over a warm reset (R29, R51, R73, R91, R107, R127, R146, R159, R169, R170, R179). -/
theorem warmReset_kept (k : ResetKind) {s : State} (hheld : s.held = none) (h : TestLaw s) (hl : LeakLaws s) (hpins : PinsAgree s)
    (hrest : RackAtRest s) : WarmKept k s (warmReset k s) := by
  have hrested := warmStart_rested k h hrest
  have hunits := (warmStart_started k h).units
  rw [warmReset_rested k h hl hpins hrest]
  generalize warmStart k s = w at *
  have hframe := hrested.frame
  have hbudget := hrested.budget
  refine ⟨(congrArg State.time hframe).trans rfl, hrested.pins, ((congrArg State.held hframe).trans rfl).trans hheld, hrested.tray, hrested.mbc,
    (congrArg State.rects hframe).trans rfl, fun b => ?_, (congrArg Budget.c hbudget).trans rfl, (congrArg Budget.deficitActive hbudget).trans rfl,
    (congrArg Budget.deficitUnresolved hbudget).trans rfl, hrested.ilc, hrested.run, (congrArg State.channels hframe).trans rfl, hrested.loop,
    (congrArg State.stagedScan hframe).trans rfl, (congrArg State.nextScan hframe).trans rfl, (congrArg State.params hframe).trans rfl,
    (congrArg State.test hframe).trans rfl, (congrArg State.hli hframe).trans rfl, ?_, ?_, (congrArg State.store hframe).trans rfl⟩
  · have hunit := hunits b
    rw [warmed_bbu] at hunit
    exact hunit
  · exact (congrArg (fun x : State => x.notices.lost) hframe).trans rfl
  · exact (congrArg (fun x : State => x.notices.records) hframe).trans rfl

end Sys2Proof.Machine
end

section
/-! PROOFS. The trays of a rack at rest over a warm reset, whatever PRSNT and PG read (R8, R9, R12 to R14, R29). -/
namespace Sys2Proof.Machine

/-! ### The rereads of a rack at rest -/

theorem warmDeficit_tallied {s : State} (h : RackQuiet s) : Tallied s (warmDeficit s) := by
  have hdeficit : Tallied s (evalDeficit s) := by
    unfold evalDeficit
    split
    · exact .refl s
    · next hn =>
      rw [if_pos (h.room (not_not.mp hn))]
      exact setDeficit_tallied _ _ s
  rw [warmDeficit, seqAfter_rests s (by rw [RunRests, hdeficit.run]; exact h.rests)]
  exact hdeficit

/-- What follows the reread of the trays, to the end of a warm reset. -/
def warmRest (s : State) : State := leakRecompute (rereadValves (rereadIfail (warmDeficit (rereadModules s))))

theorem warmReset_rest (k : ResetKind) (s : State) : warmReset k s = warmRest (rereadTrays (warmStart k s)) := by
  unfold warmReset
  rfl

/-- With IFAIL and the modules as recorded and no LEAK lockout due, no tray moves after the reread of the trays (R91, R107). -/
theorem warmRest_still {s : State} (h : RackQuiet s) (hmodules : ∀ j : SlotId, s.mbc.slots[j].present = s.pins.modulePresent[j])
    (hifail : s.pins.ifail = expectedIfail s.ilc.state)
    (hleak : LeakLaws (rereadValves (rereadIfail (warmDeficit (rereadModules s))))) :
    (warmRest s).trays = s.trays ∧ s.notices.records <+: (warmRest s).notices.records := by
  have hdeficit := warmDeficit_tallied h
  unfold warmRest
  rw [rereadModules_same hmodules] at hleak ⊢
  generalize warmDeficit s = d at *
  rw [rereadIfail_same (by rw [hdeficit.side.pins, hdeficit.side.ilc]; exact hifail)] at hleak ⊢
  have hvalves := (rereadValves_read d).1
  generalize rereadValves d = v at *
  have htrays : v.trays = d.trays := (congrArg State.trays hvalves.frame).trans rfl
  have hrun : v.run = d.run := (congrArg State.run hvalves.frame).trans rfl
  have hrests : RunRests v := by
    rw [RunRests, hrun, hdeficit.run]
    exact h.rests
  rw [leakRecompute_still hleak.2.1.2.2, (noEvent_refl v).propagate_id hrests.openLaw]
  exact ⟨htrays.trans hdeficit.trays, by rw [← hdeficit.notices]; exact hvalves.records⟩

/-- A rack at rest over a warm reset: each tray's record is the one that its two inputs make of the restarted one, and
the notices of the rereads are held. -/
structure TraysReread (s a t : State) : Prop where
  tray : ∀ i : TrayId, t.trays[i] = pgRead s.pins.pg[i] (presenceRead s.pins.prsnt[i] (restartTimer s.trays[i]))
  records : a.notices.records <+: t.notices.records

theorem warmReset_trays (k : ResetKind) {s : State} (h : TestLaw s) (hl : LeakLaws s) (hrest : RackAtRest s)
    (hifail : s.pins.ifail = expectedIfail s.ilc.state) (hmodules : ∀ j : SlotId, s.mbc.slots[j].present = s.pins.modulePresent[j]) :
    TraysReread s (rereadTrays (warmStart k s)) (warmReset k s) := by
  have hrested := warmStart_rested k h hrest
  have hleak := leakLaws_kept.warmRead k s hl
  obtain ⟨⟨hquiet, hread⟩, htrays⟩ := rereadTrays_quiet (warmStart_quiet k h hl.1 hrest)
  rw [warmRereads] at hleak
  rw [warmReset_rest]
  generalize warmStart k s = w at *
  generalize rereadTrays w = a at *
  obtain ⟨hkept, hrecords⟩ := warmRest_still hquiet
    (fun j => by rw [hread.side.mbc, hread.side.pins, hrested.slot j, hrested.pins]; exact hmodules j)
    (by rw [hread.side.pins, hread.side.ilc, hrested.pins, hrested.shelf]; exact hifail) hleak
  refine ⟨fun i => ?_, hrecords⟩
  rw [hkept, htrays i, hrested.tray i, hrested.pins]

/-! ### One tray -/

theorem timer_of_off {t : Tray} (h : timerFits t.state t.timer = true) (hs : t.state = .off) : t.timer = .idle := by
  rw [hs] at h
  cases ht : t.timer with
  | idle => rfl
  | inrushWait _ | settle _ _ | stop _ | discharge _ =>
    rw [ht] at h
    exact absurd h Bool.false_ne_true

theorem restartTimer_same {t : Tray} (h : t.timer = .idle) : restartTimer t = t := by
  unfold restartTimer
  rw [h]

theorem restartTimer_wait {t : Tray} {left : Nat} (h : t.timer = .inrushWait left) :
    restartTimer t = { t with timer := .inrushWait t.cfg.pgTimeout } := by
  unfold restartTimer
  rw [h]

theorem restartTimer_settle {t : Tray} {left paused : Nat} (h : t.timer = .settle left paused) :
    restartTimer t = { t with timer := .settle t.cfg.settle t.cfg.pgTimeout } := by
  unfold restartTimer
  rw [h]

theorem restartTimer_state (t : Tray) : (restartTimer t).state = t.state := by
  rw [restartTimer_eq]

theorem restartTimer_cause (t : Tray) : (restartTimer t).cause = t.cause := by
  rw [restartTimer_eq]

theorem enterOff_restartTimer (t : Tray) : enterOff (restartTimer t) = enterOff t := by
  rw [restartTimer_eq]
  rfl

theorem enterFailed_restartTimer (c : FailureCause) (t : Tray) : enterFailed c (restartTimer t) = enterFailed c t := by
  rw [restartTimer_eq]
  rfl

/-- Trays that the level of PG does not move: those that are off, and those that stop (R8, R9, R12). -/
theorem pgRead_deaf (level : Bool) {t : Tray}
    (h : t.state = .off ∨ t.state = .queued ∨ t.state = .stopping ∨ (t.state = .failed ∧ t.cause ≠ some .stuckOn)) : pgRead level t = t := by
  have hrisen : pgRisen t = t := pgRisen_other fun _ _ hi => by
    rcases h with h | h | h | ⟨h, -⟩ <;> exact TrayState.noConfusion (h.symm.trans hi)
  have hfallen : pgFallen t = t := by
    rcases h with h | h | h | ⟨h, hc⟩
    · exact pgFallen_other (Or.inl h)
    · exact pgFallen_other (Or.inr (Or.inl h))
    · exact pgFallen_other (Or.inr (Or.inr h))
    · exact (pgFallen_failed h).trans (if_neg hc)
  unfold pgRead
  split
  · exact hrisen
  · exact hfallen
  · rfl

theorem pgRead_rise {t : Tray} (h : expectedPg t = some false) : pgRead true t = pgRisen t := by
  unfold pgRead
  rw [h]

theorem pgRead_fall {t : Tray} (h : expectedPg t = some true) : pgRead false t = pgFallen t := by
  unfold pgRead
  rw [h]

/-- A tray that waited for PG and finds it asserted (R8, R29). -/
theorem pgRead_wait {t : Tray} {left : Nat} (hs : t.state = .inrush) (ht : t.timer = .inrushWait left) :
    pgRead true (restartTimer t) =
      if t.cfg.settle = 0 then enterOn t else { t with timer := .settle t.cfg.settle t.cfg.pgTimeout } := by
  have hexpected : expectedPg (restartTimer t) = some false := by
    rw [expectedPg_restartTimer, expectedPg, hs, ht]
  rw [pgRead_rise hexpected, restartTimer_wait ht]
  exact pgRisen_wait hs rfl

/-- A tray that settled and finds PG released (R9, R29). -/
theorem pgRead_settle {t : Tray} {left paused : Nat} (hs : t.state = .inrush) (ht : t.timer = .settle left paused) :
    pgRead false (restartTimer t) = { t with timer := .inrushWait t.cfg.pgTimeout } := by
  have hexpected : expectedPg (restartTimer t) = some true := by
    rw [expectedPg_restartTimer, expectedPg, hs, ht]
  rw [pgRead_fall hexpected, restartTimer_settle ht]
  exact pgFallen_settle hs rfl

/-- A tray in ON that finds PG released (R13, R29). -/
theorem pgRead_on {t : Tray} (hs : t.state = .on) : pgRead false (restartTimer t) = enterFailed .pgLost t := by
  have hexpected : expectedPg (restartTimer t) = some true := by
    rw [expectedPg_restartTimer, expectedPg, hs]
  rw [pgRead_fall hexpected, pgFallen_on ((restartTimer_state t).trans hs), enterFailed_restartTimer]

/-- A tray whose switch was stuck and that finds PG released (R12, R29). -/
theorem pgRead_stuck {t : Tray} (hs : t.state = .failed) (hc : t.cause = some .stuckOn) : pgRead false (restartTimer t) = enterOff t := by
  have hexpected : expectedPg (restartTimer t) = some true := by
    rw [expectedPg_restartTimer, expectedPg, hs, hc]
    rfl
  rw [pgRead_fall hexpected, pgFallen_failed ((restartTimer_state t).trans hs), if_pos ((restartTimer_cause t).trans hc), enterOff_restartTimer]

/-- A tray newly present (R14, R29). -/
theorem pgRead_present (level : Bool) {t : Tray} (h : timerLaw t) (hp : t.present = false) :
    pgRead level (presenceRead true (restartTimer t)) = { t with present := true } := by
  obtain ⟨hfits, -, -, habsent⟩ := h
  have hs := habsent hp
  rw [restartTimer_same (timer_of_off hfits hs)]
  exact pgRead_deaf level (t := { t with present := true }) (Or.inl hs)

/-- A tray gone (R14, R29). -/
theorem pgRead_removed (level : Bool) {t : Tray} (hp : t.present = true) :
    pgRead level (presenceRead false (restartTimer t)) = removeTray t := by
  have hremoved : presenceRead false (restartTimer t) = removeTray t := by
    rw [presenceRead, if_neg Bool.false_ne_true, if_pos ((restartTimer_present t).trans hp), removeTray, enterOff_restartTimer]
    rfl
  rw [hremoved]
  exact pgRead_deaf level (Or.inl rfl)

end Sys2Proof.Machine
end

section
/-! PROOFS. What a warm reset leaves behind: modules, the shelf power state and valves (R32, R51, R107, R143, R146). -/
namespace Sys2Proof.Machine

/-! ### Modules -/

/-- After the reread a slot's presence is as its input (R51). -/
theorem rereadRecord_present (level : Bool) (x : ModuleSlot × (RectSlot ⊕ Bbu)) : (rereadRecord level x).1.present = level := by
  by_cases h : x.1.present = level
  · rw [rereadRecord_same h]
    exact h
  · cases level with
    | true =>
      rw [rereadRecord_fitted (Bool.eq_false_iff.mpr h)]
      rfl
    | false =>
      rw [rereadRecord_gone (Bool.eq_true_of_not_eq_false h)]
      rfl

namespace WarmEnded
variable {k : ResetKind} {s t : State} (h : WarmEnded k s t)
include h

/-- The records of a module slot whose module is gone (R32, R51, R56). -/
theorem gone {j : SlotId} (hp : s.mbc.slots[j].present = true) (hl : s.pins.modulePresent[j] = false) :
    t.mbc.slots[j] = freshSlot false ∧
      ownerRecord t j = Sum.map emptyRect (fun u => { emptyBbu u with grant := 0 }) (ownerRecord (warmed k s) j) := by
  have hslot := congrArg ModuleSlot.present (warmed_slot k s j)
  have hrecord := h.records j
  rw [hl, rereadRecord_gone (hslot.trans hp)] at hrecord
  exact Prod.mk.inj hrecord

/-- The records of a module slot with a module newly fitted (R32, R51, R56). -/
theorem fitted {j : SlotId} (hp : s.mbc.slots[j].present = false) (hl : s.pins.modulePresent[j] = true) :
    t.mbc.slots[j] = freshSlot true ∧
      ownerRecord t j = Sum.map fittedRect (fun u => { fittedBbu u with grant := 0 }) (ownerRecord (warmed k s) j) := by
  have hslot := congrArg ModuleSlot.present (warmed_slot k s j)
  have hrecord := h.records j
  rw [hl, rereadRecord_fitted (hslot.trans hp)] at hrecord
  exact Prod.mk.inj hrecord

theorem rect_gone {r : RectId} (hp : s.mbc.slots[rectSlotNo r].present = true) (hl : s.pins.modulePresent[rectSlotNo r] = false) :
    t.rects[r] = emptyRect s.rects[r] := by
  have howner := (h.gone hp hl).2
  rw [ownerRecord_rect, ownerRecord_rect] at howner
  exact Sum.inl.inj howner

theorem rect_fitted {r : RectId} (hp : s.mbc.slots[rectSlotNo r].present = false) (hl : s.pins.modulePresent[rectSlotNo r] = true) :
    t.rects[r] = fittedRect s.rects[r] := by
  have howner := (h.fitted hp hl).2
  rw [ownerRecord_rect, ownerRecord_rect] at howner
  exact Sum.inl.inj howner

/-- A battery record that is not CHARGING is known with its charge grant left out (R84). -/
theorem bbu_of_record {b : BbuId} {u : Bbu} (hu : ({ t.bbus[b] with grant := 0 } : Bbu) = u) (hn : u.state ≠ .charging) : t.bbus[b] = u := by
  have hstate : t.bbus[b].state ≠ .charging := fun hc => hn ((congrArg Bbu.state hu).symm.trans hc)
  have hgrant := h.fits b hstate
  rw [← hu]
  generalize t.bbus[b] = x at *
  rw [← hgrant]

theorem bbu_gone {b : BbuId} (hp : s.mbc.slots[bbuSlotNo b].present = true) (hl : s.pins.modulePresent[bbuSlotNo b] = false) :
    t.bbus[b] = emptyBbu { s.bbus[b] with testPower := if s.isTarget b then 0 else s.bbus[b].testPower } := by
  have howner := (h.gone hp hl).2
  rw [ownerRecord_bbu, ownerRecord_bbu, warmed_bbu] at howner
  exact h.bbu_of_record (Sum.inr.inj howner) fun hc => BbuState.noConfusion hc

theorem bbu_fitted {b : BbuId} (hp : s.mbc.slots[bbuSlotNo b].present = false) (hl : s.pins.modulePresent[bbuSlotNo b] = true) :
    t.bbus[b] = { fittedBbu { s.bbus[b] with testPower := if s.isTarget b then 0 else s.bbus[b].testPower } with grant := 0 } := by
  have howner := (h.fitted hp hl).2
  rw [ownerRecord_bbu, ownerRecord_bbu, warmed_bbu] at howner
  exact h.bbu_of_record (Sum.inr.inj howner) fun hc => BbuState.noConfusion hc

/-! ### The shelf power state -/

/-- The shelf power state takes IFAIL from where the reset found it: what comes before stays within its phase (R99, R107). -/
theorem ifailHeard (hs : ShelfLaw s) : IfailHeard s t := by
  obtain ⟨d, hready, hheard⟩ := h.heard
  have hifail : s.ilc.ifail = expectedIfail s.ilc.state := hs.1
  have hshelf := hready.shelf
  have hframe := hready.frame
  have hpins : d.pins = s.pins := (congrArg State.pins hframe).trans rfl
  have htime : d.time = s.time := (congrArg State.time hframe).trans rfl
  have hqualify : d.params.qualifyTime = s.params.qualifyTime := (congrArg (fun x : State => x.params.qualifyTime) hframe).trans rfl
  have hhold : d.params.restoreHold = s.params.restoreHold := (congrArg (fun x : State => x.params.restoreHold) hframe).trans rfl
  obtain ⟨hagrees, hbegins, hridden, hback, hagain⟩ := hheard
  rw [hpins] at hagrees hbegins hridden hback hagain
  refine ⟨hagrees, fun hn hp => ?_, fun hn hp => ?_, fun hn hp => ?_, fun hn hp => ?_⟩
  · rw [htime, hqualify] at hbegins
    exact hbegins ((hshelf.state (Or.inl hn)).trans hn) hp
  · have hwidth : sagWidth d = sagWidth s := by
      have hstart : d.ilc.sagStart = s.ilc.sagStart := (congrArg InputLoss.sagStart (hshelf.calm (Or.inr hn))).trans rfl
      rw [sagWidth, sagWidth, hstart, htime]
    rw [htime, hwidth] at hridden
    exact hridden ((hshelf.state (Or.inr hn)).trans hn) hp
  · have hup : s.ilc.ifail = true := by
      rw [hifail]
      rcases hn with hn | hn <;> rw [hn] <;> rfl
    rw [hhold] at hback
    exact hback (hshelf.riding hup hn) hp
  · have hdown : s.ilc.ifail = false := by
      rw [hifail, hn]
      rfl
    exact hagain (hshelf.restoring hdown hn) hp

/-! ### All records -/

/-- The presence, switch and IFAIL records read as the pins do (R14, R32, R92, R139). -/
theorem pinsRead (hs : ShelfLaw s) (ht : ShelfLaw t) : PinsRead t := by
  have hheard := h.ifailHeard hs
  obtain ⟨-, hpins, -⟩ := h.constants
  rw [PinsRead, hpins]
  refine ⟨h.present, fun j => ?_, ht.1.trans hheard.agrees, fun l => ?_⟩
  · have hslot : t.mbc.slots[j] = (rereadRecord s.pins.modulePresent[j] (moduleRecord (warmed k s) j)).1 := congrArg Prod.fst (h.records j)
    rw [hslot]
    exact rereadRecord_present _ _
  · rw [h.loops l]
    exact loopRead_levels _ _ _

theorem valve_closes {l : LoopId} (hv : s.loops[l].valve = .closing) (hsw : s.loops[l].closedSwitch = false) (hl : s.pins.closedSwitch[l] = true) :
    t.loops[l].valve = .closed ∧ t.loops[l].travel = none := by
  have hwarm := warmed_loop k s l
  rw [h.loops l, hl]
  exact loopRead_closes _ ((congrArg Loop.valve hwarm).trans hv) ((congrArg Loop.closedSwitch hwarm).trans hsw)

theorem valve_opens {l : LoopId} (hv : s.loops[l].valve = .opening) (hsw : s.loops[l].openSwitch = false) (hl : s.pins.openSwitch[l] = true) :
    t.loops[l].valve = .opened ∧ t.loops[l].travel = none := by
  have hwarm := warmed_loop k s l
  rw [h.loops l, hl]
  exact loopRead_opens _ ((congrArg Loop.valve hwarm).trans hv) ((congrArg Loop.openSwitch hwarm).trans hsw)

end WarmEnded

end Sys2Proof.Machine
end

section
/-! PROOFS. A warm reset keeps the rack (R29, R32, R51, R73, R91, R107, R127, R143, R146, R159, R169, R170, R179, R180). -/
namespace Sys2Proof.Machine

/-! ### The two rows -/

/-- The part with no reset held. -/
abbrev unheld (s : State) : State := { s with held := none }

theorem unheld_free {s : State} (h : s.held = none) : unheld s = s := by
  rw [unheld, ← h]

/-- Both rows come to the same reset (R179, R180). -/
theorem endsWarmReset_exec {c : Instr} {k : ResetKind} {s : State} (h : EndsWarmReset c k s) :
    exec c s = .next (warmReset k (unheld s)) := by
  rcases h with ⟨rfl, rfl, hheld⟩ | ⟨rfl, rfl, hheld, hrestart⟩
  · have hreleased : resetReleased s = warmReset .warmPin (unheld s) := by
      unfold resetReleased
      rw [hheld]
    exact congrArg Host.Outcome.next hreleased
  · have hreset : restartTakesEffect s = warmReset .warmCommand s := if_neg hrestart
    have hrow : exec .warmCommandReset s = .next (restartTakesEffect s) := awake_free restartTakesEffect hheld
    rw [hrow, hreset, unheld_free hheld]

theorem warmCommandReset_idle {s : State} (hheld : s.held = none) (hr : s.store.restart = .none) : exec .warmCommandReset s = .next s := by
  have hrow : exec .warmCommandReset s = .next (restartTakesEffect s) := awake_free restartTakesEffect hheld
  rw [hrow, restartTakesEffect, if_pos hr]

theorem resetPinRelease_idle {s : State} (hheld : s.held = none) : exec .resetPinRelease s = .next s := by
  have hreleased : resetReleased s = s := by
    unfold resetReleased
    rw [hheld]
  exact congrArg Host.Outcome.next hreleased

/-! ### The laws that a warm reset starts from -/

/-- The laws of the part that the proofs about a warm reset use. -/
structure WarmLaws (s : State) : Prop where
  leaks : LeakLaws s
  records : RecordLaws s

theorem Laws.warm {s : State} (h : Laws s) : WarmLaws (unheld s) := by
  obtain ⟨hnotices, hlink, hbus, htray, horder, hshelf, htest, hvalve, hleak, -⟩ := h
  have hrack : RackLaw (unheld s) := rackLaw_congr rfl rfl ⟨htray, horder⟩
  exact ⟨⟨hrack, hleak, hvalve⟩, ⟨hrack, hnotices, hlink, hbus, hshelf, htest⟩⟩

namespace WarmLaws
variable {s : State} (h : WarmLaws s) (k : ResetKind)
include h

theorem ended : WarmEnded k s (warmReset k s) := warmReset_ended k h.records.power.2 h.leaks

theorem shelf : ShelfLaw (warmReset k s) := (recordLaws_kept.warmReset k s h.records).power.1

/-- The stage does not fall while an input loss is ridden through (R97). -/
theorem stage (hs : riding s.ilc.state) (ht : riding (warmReset k s).ilc.state) : s.ilc.stage ≤ (warmReset k s).ilc.stage :=
  (warmReset_bound k s h.leaks.1).stage hs ht

theorem riding_stage (hs : s.ilc.state = .rideThrough ∨ s.ilc.state = .exhausted)
    (ht : (warmReset k s).ilc.state = .restoreHold) : s.ilc.stage ≤ (warmReset k s).ilc.stage :=
  h.stage k (hs.elim Or.inl fun he => Or.inr (Or.inr he)) (Or.inr (Or.inl ht))

theorem holding_stage (hs : s.ilc.state = .restoreHold)
    (ht : (warmReset k s).ilc.state = if (warmReset k s).ilc.lastR = 0 then .exhausted else .rideThrough) :
    s.ilc.stage ≤ (warmReset k s).ilc.stage := by
  refine h.stage k (Or.inr (Or.inl hs)) ?_
  rw [ht]
  split
  · exact Or.inr (Or.inr rfl)
  · exact Or.inl rfl

end WarmLaws

/-! ### The trays of a rack at rest -/

/-- A rack at rest with IFAIL and the modules as recorded, as a warm reset finds it. -/
structure TraysOnly (s : State) : Prop where
  laws : WarmLaws s
  rest : RackAtRest s
  ifail : s.pins.ifail = expectedIfail s.ilc.state
  modules : ∀ j : SlotId, s.mbc.slots[j].present = s.pins.modulePresent[j]

namespace TraysOnly
variable {s : State} (h : TraysOnly s) (k : ResetKind) {i : TrayId}
include h

theorem reread : TraysReread s (rereadTrays (warmStart k s)) (warmReset k s) :=
  warmReset_trays k h.laws.records.power.2 h.laws.leaks h.rest h.ifail h.modules

theorem quiet : RackQuiet (warmStart k s) := warmStart_quiet k h.laws.records.power.2 h.laws.leaks.1 h.rest

theorem timer (i : TrayId) : timerLaw s.trays[i] := (h.laws.leaks.1.1.1 i).2.1

/-- A tray that is there as before has the record that PG makes (R29). -/
theorem tray_pg (hp : s.trays[i].present = s.pins.prsnt[i]) : (warmReset k s).trays[i] = pgRead s.pins.pg[i] (restartTimer s.trays[i]) := by
  rw [(h.reread k).tray i, presenceRead_same ((restartTimer_present _).trans hp)]

theorem tray_back (hp : s.trays[i].present = false) (hl : s.pins.prsnt[i] = true) :
    (warmReset k s).trays[i] = { s.trays[i] with present := true } := by
  rw [(h.reread k).tray i, hl]
  exact pgRead_present _ (h.timer i) hp

theorem tray_removed (hp : s.trays[i].present = true) (hl : s.pins.prsnt[i] = false) :
    (warmReset k s).trays[i] = removeTray s.trays[i] ∧
      NoticeIn { kind := .trayRemoved, subject := some i.val, value := none, time := s.time } (warmReset k s) := by
  have hread := h.reread k
  have hrested := warmStart_rested k h.laws.records.power.2 h.rest
  have htime : (warmStart k s).time = s.time := (congrArg State.time hrested.frame).trans rfl
  have hposted := rereadTrays_removed (h.quiet k) (i := i) (by rw [hrested.tray i, restartTimer_present]; exact hp) (by rw [hrested.pins]; exact hl)
  rw [htime] at hposted
  refine ⟨?_, hposted.mono hread.records⟩
  rw [hread.tray i, hl]
  exact pgRead_removed _ hp

theorem tray_unexpected (hp : s.trays[i].present = s.pins.prsnt[i])
    (hs : s.trays[i].state = .off ∨ s.trays[i].state = .queued ∨ (s.trays[i].state = .failed ∧ s.trays[i].cause ≠ some .stuckOn))
    (hl : s.pins.pg[i] = true) :
    (warmReset k s).trays[i] = restartTimer s.trays[i] ∧
      NoticeIn { kind := .trayUnexpectedPg, subject := some i.val, value := none, time := s.time } (warmReset k s) := by
  have hread := h.reread k
  have hrested := warmStart_rested k h.laws.records.power.2 h.rest
  have htime : (warmStart k s).time = s.time := (congrArg State.time hrested.frame).trans rfl
  have hposted := rereadTrays_unexpected (h.quiet k) (i := i) (by rw [hrested.tray i, restartTimer_present, hrested.pins]; exact hp)
    (by rw [hrested.tray i, restartTimer_state, restartTimer_cause]; exact hs) (by rw [hrested.pins]; exact hl)
  rw [htime] at hposted
  refine ⟨?_, hposted.mono hread.records⟩
  rw [h.tray_pg k hp]
  refine pgRead_deaf _ ?_
  rw [restartTimer_state, restartTimer_cause]
  exact hs.imp_right fun hs => hs.imp_right Or.inr

theorem tray_settles {left : Nat} (hp : s.trays[i].present = s.pins.prsnt[i]) (ht : s.trays[i].timer = .inrushWait left) (hl : s.pins.pg[i] = true) :
    (warmReset k s).trays[i] = if s.trays[i].cfg.settle = 0 then enterOn s.trays[i] else
      { s.trays[i] with timer := .settle s.trays[i].cfg.settle s.trays[i].cfg.pgTimeout } := by
  rw [h.tray_pg k hp, hl]
  exact pgRead_wait (inrush_of_wait h.laws.leaks.1.1 ht) ht

theorem tray_waits {left paused : Nat} (hp : s.trays[i].present = s.pins.prsnt[i]) (ht : s.trays[i].timer = .settle left paused)
    (hl : s.pins.pg[i] = false) : (warmReset k s).trays[i] = { s.trays[i] with timer := .inrushWait s.trays[i].cfg.pgTimeout } := by
  rw [h.tray_pg k hp, hl]
  exact pgRead_settle (inrush_of_settle h.laws.leaks.1.1 ht) ht

theorem tray_fails (hp : s.trays[i].present = s.pins.prsnt[i]) (hs : s.trays[i].state = .on) (hl : s.pins.pg[i] = false) :
    (warmReset k s).trays[i] =
      { s.trays[i] with
        state := .failed, cause := some .pgLost
        timer := if s.trays[i].owner = .auto ∧ s.trays[i].retriesUsed < s.trays[i].cfg.retries then .discharge s.trays[i].cfg.stopTime else .idle } := by
  rw [h.tray_pg k hp, hl, pgRead_on hs]
  exact enterFailed_eq (by decide) _

theorem tray_freed (hp : s.trays[i].present = s.pins.prsnt[i]) (hc : s.trays[i].cause = some .stuckOn) (hl : s.pins.pg[i] = false) :
    (warmReset k s).trays[i] = enterOff s.trays[i] := by
  obtain ⟨-, hcause, -⟩ := h.timer i
  rw [h.tray_pg k hp, hl]
  exact pgRead_stuck (hcause.mp (by rw [hc]; rfl)) hc

theorem tray_stopping (hp : s.trays[i].present = s.pins.prsnt[i]) (hs : s.trays[i].state = .stopping) :
    (warmReset k s).trays[i] = restartTimer s.trays[i] := by
  rw [h.tray_pg k hp]
  exact pgRead_deaf _ (Or.inr (Or.inr (Or.inl ((restartTimer_state _).trans hs))))

end TraysOnly

/-! ### The statement -/

/-- Settles O9: the warm reset is followed from the restarted records, through the rereads of the pins, to its end. -/
theorem warmResetKeepsTheRack : Obligations.WarmResetKeepsTheRack := by
  intro s c k i r b l left paused
  refine ⟨fun hheld => warmCommandReset_idle hheld, fun hheld => resetPinRelease_idle hheld, fun hlaws hpins hrest hends => ?_,
    fun hlaws hends => ?_, fun hlaws hrest hends hifail hmodules => ?_⟩
  · have hwarm := hlaws.warm
    exact ⟨_, endsWarmReset_exec hends, warmReset_kept k (s := unheld s) rfl hwarm.records.power.2 hwarm.leaks hpins hrest⟩
  · have hwarm := hlaws.warm
    have hended := hwarm.ended k
    have hheard := hended.ifailHeard hwarm.records.power.1
    have hpins := hended.pinsRead hwarm.records.power.1 (hwarm.shelf k)
    have hriding := hwarm.riding_stage k
    have hholding := hwarm.holding_stage k
    refine ⟨_, endsWarmReset_exec hends, ?_⟩
    generalize warmReset k (unheld s) = t at *
    obtain ⟨hheld, hsame, htime⟩ := hended.constants
    refine ⟨hheld, hsame, htime, hpins, fun j hp hl => (hended.gone hp hl).1,
      fun j hp hl => ⟨(hended.fitted hp hl).1, hended.unpolled j hp⟩, hended.rect_gone, hended.rect_fitted, hended.bbu_gone, hended.bbu_fitted,
      hheard.begins, fun hs hi => ?_, fun hs hi => ?_, fun hs hi => ?_, fun hv hsw hl => ?_, hended.valve_opens⟩
    · obtain ⟨hstate, hwidth, hnotice⟩ := hheard.ridden hs hi
      rw [← hwidth] at hnotice
      exact ⟨hstate, hwidth, hnotice⟩
    · obtain ⟨hstate, hrestore⟩ := hheard.back hs hi
      exact ⟨hstate, hrestore, hriding hs hstate⟩
    · obtain ⟨hstate, hrestore⟩ := hheard.again hs hi
      exact ⟨hstate, hrestore, hholding hs hstate⟩
    · obtain ⟨hclosed, htravel⟩ := hended.valve_closes hv hsw hl
      exact ⟨hclosed, htravel, hended.closes l hv hsw hl⟩
  · have htrays : TraysOnly (unheld s) := ⟨hlaws.warm, hrest, hifail, hmodules⟩
    refine ⟨_, endsWarmReset_exec hends, htrays.tray_back k, htrays.tray_removed k, fun hp => ?_⟩
    exact ⟨htrays.tray_unexpected k hp, fun ht hl hset => (htrays.tray_settles k hp ht hl).trans (if_neg hset),
      fun ht hl hset => (htrays.tray_settles k hp ht hl).trans (if_pos hset), htrays.tray_waits k hp, htrays.tray_fails k hp,
      htrays.tray_freed k hp, htrays.tray_stopping k hp⟩

end Sys2Proof.Machine
end
